-- ==== Sys2Proof/Word.lean ====
section
/-! DEFINITION. Word types and the plain-data types that commands carry as operands. -/

namespace Sys2Proof

abbrev Byte := BitVec 8
abbrev Word32 := BitVec 32
abbrev Word64 := BitVec 64
/-- An instruction word less its opcode byte [63:56]: the opcode is the command's own name. -/
abbrev Head := BitVec 56
/-- The bits of an FP32 value (Table NUM-1). -/
abbrev F32 := BitVec 32

/-- The thread that issues an instruction: conductor 0 to 19, thread 0 to 7 (R213). -/
structure Who where
  c : Fin 20
  k : Fin 8
  deriving DecidableEq, Repr

/-- A thread's number, 8 × conductor + thread. -/
def Who.num (t : Who) : Nat := t.c.val * 8 + t.k.val

/-- A macro pair: tile 0 to 10,239, pair 0 to 47 (R16). -/
structure PairId where
  tile : Nat
  pair : Nat
  deriving DecidableEq, Repr

/-- A bank: one of eight on the hub, or one of sixteen on each stack base (R17). -/
inductive BankId where
  | hub (i : Fin 8)
  | stack (s j : Fin 16)
  deriving DecidableEq, Repr

/-- A bank's number: hub 0 to 7, then 8 + 16 × stack + bank. -/
def BankId.num : BankId → Nat
  | .hub i => i.val
  | .stack s j => 8 + 16 * s.val + j.val

/-- A pair's number, 48 × tile + pair. -/
def PairId.num (p : PairId) : Nat := p.tile * 48 + p.pair

/-- The stack a pair is on (R16). -/
def PairId.stack (p : PairId) : Nat := p.tile / 640

/-- The three interfaces that reach the CSR space (R504, R508). -/
inductive Iface where
  | i3c
  | mgmt
  | fw
  deriving DecidableEq, Repr

/-- A word that fails parity in transit (R302): its link, the replays made, whether the third
also failed, and the address it was bound for. -/
structure Replay where
  link : Nat
  replays : Nat
  failed : Bool
  addr : Nat
  deriving DecidableEq, Repr

/-- What the environment did to memory during a transaction: ECC corrections (R289), replays (R302), waits (R284),
and the addresses of stored words that failed parity or ECC (R303). -/
structure MemEnv where
  corrected : Nat := 0
  replays : List Replay := []
  parity : List Nat := []
  /-- Waits of 4,096 steps for a bank's port that its non-owner requests met (R284). -/
  waits : Nat := 0
  deriving DecidableEq, Repr

/-- A Pelet datagram after Chevik's engine has returned its data and verdict (R349, R404). -/
structure Datagram where
  srcAddr : Nat := 0
  srcPort : Nat := 0
  udpPort : Nat := 0
  udpLen : Nat := 0
  version : Nat := 1
  typ : Nat := 3
  flags : BitVec 16 := 0
  handle : Word32 := 0
  seq : Nat := 0
  ack : Nat := 0
  sack : Word64 := 0
  window : Nat := 0
  length : Nat := 0
  reserved : Nat := 0
  payload : List Byte := []
  tagOk : Bool := true
  ce : Bool := false
  deriving DecidableEq, Repr

/-- A signed object as presented (R417): its bytes with the signature block, and the two verdicts of the
curve arithmetic (R418, checks 2 and 5). -/
structure SignedObj where
  bytes : List Byte
  onCurve : Bool
  sigOk : Bool
  deriving DecidableEq, Repr

/-- The protocols of Table NET-4 and what else may arrive (R342, R345). -/
inductive Proto where
  | pelet | icmpEcho | tooBig | nd | arp
  | pause | pfc
  | ipv6Ext | ipv4Fragment | ipv4Options | other
  deriving DecidableEq, Repr

/-- An Ethernet frame as far as the port looks at it (R342, R345, R346). -/
structure Frame where
  vlan : Option Nat
  ipv4 : Bool
  packetLen : Nat
  fcsOk : Bool
  udpSumOk : Bool
  proto : Proto
  deriving DecidableEq, Repr

/-- A neighbour discovery or address configuration message (R345). -/
inductive NdMsg where
  | rs (src mac : Nat)
  | ra (src mac prefixHi prefixLen : Nat) (mtu : Option Nat)
  | ns (src mac target : Nat)
  | na (src mac : Nat)
  | dhcp6 (addr : Option Nat)
  deriving DecidableEq, Repr

/-- An ARP message (R345). -/
inductive ArpMsg where
  | request (src mac target : Nat)
  | reply (src mac : Nat)
  deriving DecidableEq, Repr

/-- A tile, stack-base, hub or DRAM temperature sensor (R449). -/
inductive SensorId where
  | tile (t : Nat)
  | base (s : Fin 16) (i : Fin 4)
  | hub (i : Fin 16)
  | dram (d : Fin 4)
  deriving DecidableEq, Repr

/-- One sensor reading: measured in 1/256 degree, and whether the sensor is in range. -/
structure Reading where
  sensor : SensorId
  milli : Int
  inRange : Bool
  deriving DecidableEq, Repr

/-- A front control message (Table FRO-3), or the fused frame header of Table ACC-4, arrives on a PEER
session; the batch of a STEP is carried as (session handle, tokens) (DESIGN CHOICE, log entry 110). -/
structure FrontMsg where
  rank : Nat
  epoch : Nat
  live : Word32 := 0
  suspect : Word32 := 0
  newEpoch : Nat := 0
  set : Word32 := 0
  stepNo : Nat := 0
  batch : List (Word32 × Nat) := []
  deriving DecidableEq, Repr

/-- A fused-send frame (Table ACC-4) with its tiles' element bits, tile by tile, row by row. -/
structure FusedFrame where
  stream : Word32
  epoch : Nat
  token0 : Nat
  rowMask : Word32
  vec0 : Nat
  kind : Nat
  etype : Nat
  ntile : Nat
  ntok : Nat
  srcRank : Nat
  attempt : Nat
  frame : Nat
  tiles : List (List (List Word32))
  deriving DecidableEq, Repr

/-- One LUN found by store discovery (R317 to R319, R330): whether a copy of its parameter page passes its CRC, what that page reports
(the ONFI revision in tenths, page sizes in bytes, the ECC correctability it requires in bits per 1,024 bytes), the rates in MT/s
that it supports and passes training at, and its factory bad blocks. -/
structure LunReport where
  channel : Fin 32
  ce : Fin 4
  lun : Fin 4
  paramOk : Bool
  revision : Nat
  nvddr3 : Bool
  dataBytes : Nat
  totalBytes : Nat
  pagesPerBlock : Nat
  blocks : Nat
  planes : Nat
  eccBits : Nat
  ratedCycles : Nat
  rates : List Nat
  factoryBad : List Nat
  deriving DecidableEq, Repr

/-- How far a store page read escalated (Table STO-6): steps 1 to 6, and bits corrected at step 2. -/
structure PageRead where
  page : Nat
  step : Nat
  corrected : Nat := 0
  deriving DecidableEq, Repr

/-- A block of a band by its channel, with how far each page read of it escalated. -/
structure BlockReads where
  channel : Nat
  reads : List PageRead := []
  deriving DecidableEq, Repr

/-- A row as a refresh sensed it (R79, R82): the physical columns sensed at another level than was last written, with that level. -/
structure SensedRow where
  row : Nat
  wrong : List (Nat × Nat) := []
  deriving DecidableEq, Repr

/-- Chevik's verdicts over the health area (R465): of the record, and the places of the running batches whose signatures fail. -/
structure HealthVerdict where
  recordOk : Bool
  failing : List Nat := []
  deriving DecidableEq, Repr

/-- What one Drizzle or Downpour slice found (Table TST-2). -/
inductive Finding where
  | dmarchParity (p : PairId) (row : Nat)
  | dmarchBit (p : PairId) (row col : Nat)
  | amarginChecksum (p : PairId) (row : Nat)
  | amarginGuard (p : PairId) (row col : Nat)
  | convWeight (p : PairId) (converter : Nat)
  | convBaro (p : PairId)
  | atree (p : PairId) (col : Nat)
  | bank (b : BankId) (segment : Nat) (lines : List Nat)
  | dramRegion (gib : Nat)
  | logic (unit : Nat)
  deriving DecidableEq, Repr

/-- A file of a model package as the manifest lists it (R422). -/
structure PkgFile where
  objectId : Nat
  pages : Nat
  digest : Nat
  deriving DecidableEq, Repr

/-- Chevik's verdicts on the signatures an OPEN carries (R360, R386, R414). -/
structure OpenVerdict where
  ownerSig : Bool := false
  claimSig : Bool := false
  report : Bool := false
  peerSig : Bool := false
  deriving DecidableEq, Repr

/-- Which minimum SVN a MGMT operation 0x000E names (R420). -/
inductive SvnKind where
  | fw | svc | pkg
  deriving DecidableEq, Repr

/-- What AES and hashing over the NOR gave the boot ROM for one firmware slot (R418, R420, R421). -/
structure SlotVerdict where
  svn : Nat
  sigOk : Bool
  digest : Nat
  deriving DecidableEq, Repr

/-- The kind of power state transition (Table POW-4). -/
inductive PowerTarget where
  | gale | breeze | calm | frost
  deriving DecidableEq, Repr

end Sys2Proof
end

