-- ==== Sys2Proof/Syntax.lean ====
section
/-! DEFINITION. The commands of the block: one constructor per row of the table of operations and events. -/

namespace Sys2Proof

/-- The commands. Sloyni rows name the issuing thread and carry the instruction's own words (R219 to R222,
R244); the other rows carry what their governing rule takes from outside. -/
inductive Instr where
  /-- NOP (R222). -/
  | nop (t : Who) (w : Head)
  /-- B (R222). -/
  | b (t : Who) (w : Head)
  /-- CALL (R222). -/
  | call (t : Who) (w : Head)
  /-- JR (R222). -/
  | jr (t : Who) (w : Head)
  /-- LOOP (R224). -/
  | loop (t : Who) (w : Head)
  /-- CMP (R222). -/
  | cmp (t : Who) (w : Head)
  /-- CMPI (R222). -/
  | cmpi (t : Who) (w : Head)
  /-- PAND (R222). -/
  | pand (t : Who) (w : Head)
  /-- POR (R222). -/
  | por (t : Who) (w : Head)
  /-- PXOR (R222). -/
  | pxor (t : Who) (w : Head)
  /-- PANDN (R222). -/
  | pandn (t : Who) (w : Head)
  /-- ADD (R223). -/
  | add (t : Who) (w : Head)
  /-- SUB (R223). -/
  | sub (t : Who) (w : Head)
  /-- MUL (R223). -/
  | mul (t : Who) (w : Head)
  /-- MULHU (R223). -/
  | mulhu (t : Who) (w : Head)
  /-- DIVU (R223). -/
  | divu (t : Who) (w : Head)
  /-- REMU (R223). -/
  | remu (t : Who) (w : Head)
  /-- AND (R222). -/
  | and (t : Who) (w : Head)
  /-- OR (R222). -/
  | or (t : Who) (w : Head)
  /-- XOR (R222). -/
  | xor (t : Who) (w : Head)
  /-- SHL (R223). -/
  | shl (t : Who) (w : Head)
  /-- SHR (R223). -/
  | shr (t : Who) (w : Head)
  /-- SAR (R223). -/
  | sar (t : Who) (w : Head)
  /-- MIN (R222). -/
  | min (t : Who) (w : Head)
  /-- MAX (R222). -/
  | max (t : Who) (w : Head)
  /-- MINU (R222). -/
  | minu (t : Who) (w : Head)
  /-- MAXU (R222). -/
  | maxu (t : Who) (w : Head)
  /-- ADDI (R222). -/
  | addi (t : Who) (w : Head)
  /-- ANDI (R222). -/
  | andi (t : Who) (w : Head)
  /-- ORI (R222). -/
  | ori (t : Who) (w : Head)
  /-- XORI (R222). -/
  | xori (t : Who) (w : Head)
  /-- SHLI (R223). -/
  | shli (t : Who) (w : Head)
  /-- SHRI (R223). -/
  | shri (t : Who) (w : Head)
  /-- SARI (R223). -/
  | sari (t : Who) (w : Head)
  /-- LI (R222). -/
  | li (t : Who) (w : Head)
  /-- LUI (R222). -/
  | lui (t : Who) (w : Head)
  /-- LD_64 (R225). -/
  | ld64 (t : Who) (w : Head)
  /-- LD_32 (R225). -/
  | ld32 (t : Who) (w : Head)
  /-- ST_64 (R225). -/
  | st64 (t : Who) (w : Head)
  /-- ST_32 (R225). -/
  | st32 (t : Who) (w : Head)
  /-- YIELD (R222). -/
  | yield (t : Who) (w : Head)
  /-- TRAP (R235). -/
  | trap (t : Who) (w : Word64)
  /-- ERET (R222). -/
  | eret (t : Who) (w : Head)
  /-- HALT (R233). -/
  | halt (t : Who) (w : Head)
  /-- CSRR (R222). -/
  | csrr (t : Who) (w : Head)
  /-- CSRW (R222). -/
  | csrw (t : Who) (w : Head)
  /-- PLOAD (R238). -/
  | pload (t : Who) (w : Head)
  /-- PLOAD_DONE (R238). -/
  | ploadDone (c : Fin 20) (tag : Fin 512) (onCurve sigOk : Bool)
  /-- TSTART (R239). -/
  | tstart (t : Who) (w : Head)
  /-- TSTART_RELEASE (R239). -/
  | tstartRelease (t : Who)
  /-- TKILL (R233). -/
  | tkill (t : Who) (w : Head)
  /-- THREAD_STOPPED (R233). -/
  | threadStopped (t : Who)
  /-- TID (R222). -/
  | tid (t : Who) (w : Head)
  /-- PUNLOAD (R240). -/
  | punload (t : Who) (w : Head)
  /-- PUNLOAD_RELEASE (R240). -/
  | punloadRelease (t : Who)
  /-- WAIT_ALL (R227). -/
  | waitAll (t : Who) (w : Head)
  /-- WAIT_ANY (R227). -/
  | waitAny (t : Who) (w : Head)
  /-- WAIT_RELEASE (R227). -/
  | waitRelease (t : Who)
  /-- FENCE (R229). -/
  | fence (t : Who) (w : Head)
  /-- FENCE_RELEASE (R229). -/
  | fenceRelease (t : Who)
  /-- TSTAT (R222). -/
  | tstat (t : Who) (w : Head)
  /-- DESC_CREATE (R247). -/
  | descCreate (t : Who) (w : Head)
  /-- DESC_DROP (R248). -/
  | descDrop (t : Who) (w : Head)
  /-- DESC_DROP_RELEASE (R230). -/
  | descDropRelease (t : Who)
  /-- DMA_COPY (R249). -/
  | dmaCopy (t : Who) (w : Head)
  /-- DMA_COPY_DONE (R249). -/
  | dmaCopyDone (c : Fin 20) (tag : Fin 512) (env : MemEnv)
  /-- STORE_READ (R250). -/
  | storeRead (t : Who) (w : Head)
  /-- STORE_READ_DONE (R328). -/
  | storeReadDone (c : Fin 20) (tag : Fin 512) (reads : List PageRead) (failedChannel : Option Nat)
  /-- STORE_WRITE (R250). -/
  | storeWrite (t : Who) (w : Head)
  /-- STORE_WRITE_DONE (R250). -/
  | storeWriteDone (c : Fin 20) (tag : Fin 512) (failedUnit : Option Nat) (failedChannel : Option Nat)
  /-- NET_SEND (R251). -/
  | netSend (t : Who) (w : Head)
  /-- NET_SEND_DONE (R251). -/
  | netSendDone (c : Fin 20) (tag : Fin 512)
  /-- NET_RECV (R252). -/
  | netRecv (t : Who) (w : Head)
  /-- NET_RECV_DONE (R252). -/
  | netRecvDone (c : Fin 20) (tag : Fin 512)
  /-- LOAD (R254). -/
  | load (t : Who) (w : Head)
  /-- LOAD_COMPLETE (R255). -/
  | loadComplete (c : Fin 20) (tag : Fin 512)
  /-- UNLOAD (R257). -/
  | unload (t : Who) (w : Head)
  /-- UNLOAD_COMPLETE (R257). -/
  | unloadComplete (c : Fin 20) (tag : Fin 512)
  /-- SWEEP (R258). -/
  | sweep (t : Who) (w : Head) (w1 w2 w3 : Word64)
  /-- SWEEP_ENQUEUE (R260). -/
  | sweepEnqueue (t : Who)
  /-- SWEEP_START (R20). -/
  | sweepStart
  /-- SWEEP_FINISH_HOLD_FREE (R156). -/
  | sweepFinishHoldFree (c : Fin 20) (tag : Fin 512)
  /-- SWEEP_ROW_SCALE (R154). -/
  | sweepRowScale (c : Fin 20) (tag : Fin 512) (row : Nat)
  /-- OUTPUT_TILE_SEND (R157). -/
  | outputTileSend (c : Fin 20) (tag : Fin 512) (token0 vec0 ntile : Nat)
  /-- SWEEP_DONE (R262). -/
  | sweepDone (c : Fin 20) (tag : Fin 512) (env : MemEnv)
  /-- VBIN (R264). -/
  | vbin (t : Who) (w : Head)
  /-- VUN (R264). -/
  | vun (t : Who) (w : Head)
  /-- VCVT (R265). -/
  | vcvt (t : Who) (w : Head)
  /-- VSCALE (R266). -/
  | vscale (t : Who) (w : Head)
  /-- VFILL (R267). -/
  | vfill (t : Who) (w : Head)
  /-- RED_SUM (R149). -/
  | redSum (t : Who) (w : Head)
  /-- RED_SUMSQ (R149). -/
  | redSumsq (t : Who) (w : Head)
  /-- RED_MEANVAR (R150). -/
  | redMeanvar (t : Who) (w : Head)
  /-- RED_MAX (R151). -/
  | redMax (t : Who) (w : Head)
  /-- RED_TOPK (R152). -/
  | redTopk (t : Who) (w : Head)
  /-- GATHER (R128). -/
  | gather (t : Who) (w : Head)
  /-- SCATTER_ADD (R129). -/
  | scatterAdd (t : Who) (w : Head)
  /-- XPOSE_NET (R270). -/
  | xposeNet (t : Who) (w : Head)
  /-- XPOSE_STRIDE (R270). -/
  | xposeStride (t : Who) (w : Head)
  /-- ROUTE (R194). -/
  | route (t : Who) (w : Head) (w1 : Word64)
  /-- FORECAST (R274). -/
  | forecast (t : Who) (w : Head) (w1 : Word64)
  /-- TENSOR_OP_COMPLETE (R226). -/
  | tensorOpComplete (c : Fin 20) (tag : Fin 512) (env : MemEnv)
  /-- SESS_TOKENIZE (R369). -/
  | sessTokenize (t : Who) (w : Head)
  /-- SESS_DETOKENIZE (R275). -/
  | sessDetokenize (t : Who) (w : Head)
  /-- SESS_SAMPLE (R371). -/
  | sessSample (t : Who) (w : Head)
  /-- SESS_BIND (R185). -/
  | sessBind (t : Who) (w : Head)
  /-- SESS_KVMAP (R295). -/
  | sessKvmap (t : Who) (w : Head)
  /-- SESS_CLOSE (R376). -/
  | sessClose (t : Who) (w : Head)
  /-- REFRESH_DUE (R80). -/
  | refreshDue (p : PairId) (row : Nat)
  /-- REFRESH_DEADLINE (R80). -/
  | refreshDeadline (p : PairId) (row : Nat)
  /-- REFRESH_ROW_DONE (R79). -/
  | refreshRowDone (p : PairId) (row : SensedRow)
  /-- ROW_RELOAD_DONE (R83). -/
  | rowReloadDone (p : PairId) (row : Nat)
  /-- TEMP_SENSOR_READ (R449). -/
  | tempSensorRead (readings : List Reading) (comparators : List Nat)
  /-- REFRESH_BAND_FALL (R81). -/
  | refreshBandFall (p : PairId)
  /-- RECAL_AGE_DUE (R71). -/
  | recalAgeDue (p : PairId)
  /-- IDLE_WINDOW (R71). -/
  | idleWindow
  /-- FORCED_RECAL (R76). -/
  | forcedRecal (p : PairId)
  /-- RECAL_PASS_DONE (R70). -/
  | recalPassDone (p : PairId)
  /-- RECAL_RETRY (R70). -/
  | recalRetry (p : PairId)
  /-- REMAP_FETCH_DONE (R89). -/
  | remapFetchDone (p : PairId) (col : Nat)
  /-- REPAIR_MAP_SWITCH (R89). -/
  | repairMapSwitch (p : PairId) (col : Nat)
  /-- TOKEN_STEP_FORM (R187). -/
  | tokenStepForm
  /-- SWITCH_AGE_EXPIRY (R188). -/
  | switchAgeExpiry (district : Nat)
  /-- DWELL_EXPIRY (R189). -/
  | dwellExpiry (slot : Fin 2)
  /-- DISTRICT_LOAD_START (R190). -/
  | districtLoadStart
  /-- DISTRICT_LOAD_DONE (R190). -/
  | districtLoadDone
  /-- MIRROR_WINDOW_END (R198). -/
  | mirrorWindowEnd
  /-- MIRROR_LOAD_DONE (R200). -/
  | mirrorLoadDone (layer expert inst : Nat)
  /-- THETA_RETUNE (R209). -/
  | thetaRetune (layer : Nat)
  /-- ALLOC_CREATE (R278). -/
  | allocCreate (kind : BitVec 4) (program : BitVec 8)
  /-- ALLOC_RELEASE (R279). -/
  | allocRelease (handle : BitVec 16)
  /-- BANK_STATE_REQUEST (R286). -/
  | bankStateRequest (b : BankId) (state : BitVec 2)
  /-- BANK_TRANSITION_DONE (R285). -/
  | bankTransitionDone (b : BankId)
  /-- BANK_OWNER_WRITE (R283). -/
  | bankOwnerWrite (b : BankId) (owner : BitVec 8)
  /-- PARTITION_REQUEST (R290). -/
  | partitionRequest (iface : Iface) (stageGib kvGib : BitVec 8)
  /-- SOFT_FAULT_FETCH_DONE (R298). -/
  | softFaultFetchDone (page : Nat) (readStep : Nat) (headerOk : Bool)
  /-- KV_SPILL_DONE (R296). -/
  | kvSpillDone (session entry : Nat)
  /-- HOTSPOT_CHECK (R288). -/
  | hotspotCheck (queues : List Nat)
  /-- ATT_DOORBELL (R308). -/
  | attDoorbell (offset : BitVec 19)
  /-- ATTENTION_JOB_START (R313). -/
  | attentionJobStart
  /-- ATTENTION_JOB_DONE (R314). -/
  | attentionJobDone (job : BitVec 19)
  /-- ZQ_SHORT (R317). -/
  | zqShort
  /-- PATROL_READ (R333). -/
  | patrolRead (region : Nat) (read : PageRead)
  /-- PATROL_OVERDUE (R333). -/
  | patrolOverdue (region band : Nat) (channel : Nat)
  /-- RELOCATION_DONE (R331). -/
  | relocationDone (band : Nat) (block : BlockReads)
  /-- NAND_OP_FAIL (R330). -/
  | nandOpFail (band : Nat) (block : BlockReads)
  /-- SPILL_CREDIT_HOURLY (R336). -/
  | spillCreditHourly
  /-- SPILL_GC (R334). -/
  | spillGc
  /-- STATIC_LEVELLING (R335). -/
  | staticLevelling
  /-- HOT_CHANNEL_CHECK (R339). -/
  | hotChannelCheck (queues : List Nat)
  /-- LINK_TRAINED (R344). -/
  | linkTrained (swapped : Bool)
  /-- LINK_LOSS (R344). -/
  | linkLoss
  /-- TRAINING_RESTART (R343). -/
  | trainingRestart
  /-- FEC_WINDOW (R344). -/
  | fecWindow (corrected uncorrectable bitErrors bits : Nat)
  /-- FRAME_RECEIVE (R345). -/
  | frameReceive (f : Frame)
  /-- ICMP_ECHO (R345). -/
  | icmpEcho (src len : Nat)
  /-- NEIGHBOUR_DISCOVERY (R345). -/
  | neighbourDiscovery (m : NdMsg)
  /-- ARP (R345). -/
  | arp (m : ArpMsg)
  /-- DAD_DONE (R345). -/
  | dadDone (addr : Nat) (ok : Bool)
  /-- PACKET_TOO_BIG (R347). -/
  | packetTooBig (peer port : Nat) (mtu : Nat)
  /-- ACK_ONLY (R354). -/
  | ackOnly (d : Datagram)
  /-- ACK_DELAY_EXPIRY (R354). -/
  | ackDelayExpiry (slot : Nat)
  /-- RTO_EXPIRY (R355). -/
  | rtoExpiry (slot : Nat)
  /-- ZERO_WINDOW_PROBE (R354). -/
  | zeroWindowProbe (slot : Nat)
  /-- OPEN (R364). -/
  | openReq (src port : Nat) (payload : List Byte) (v : OpenVerdict)
  /-- HANDSHAKE_DONE (R361). -/
  | handshakeDone
  /-- HANDSHAKE_TIMEOUT (R362). -/
  | handshakeTimeout (slot : Nat)
  /-- ACCEPT (R363). -/
  | accept (d : Datagram) (confirmOk reportOk : Bool)
  /-- OPEN_RESEND (R363). -/
  | openResend (slot : Nat)
  /-- OPENER_TIMEOUT (R363). -/
  | openerTimeout (slot : Nat)
  /-- OPEN_REFUSAL (R366). -/
  | openRefusal (src port : Nat) (status retryMs nonce : Nat)
  /-- APPEND (R368). -/
  | append (d : Datagram)
  /-- GENERATE (R368). -/
  | generate (d : Datagram)
  /-- RESET (R368). -/
  | reset (d : Datagram)
  /-- SET_SAMPLER (R374). -/
  | setSampler (d : Datagram)
  /-- SET_STOPS (R374). -/
  | setStops (d : Datagram)
  /-- CANCEL (R374). -/
  | cancel (d : Datagram)
  /-- PING (R374). -/
  | ping (d : Datagram)
  /-- CLOSE (R376). -/
  | close (d : Datagram)
  /-- IDLE_TIMEOUT (R375). -/
  | idleTimeout (slot : Nat)
  /-- MGMT_READ_CSR (R380). -/
  | mgmtReadCsr (h : Word32) (addr : Word32)
  /-- MGMT_WRITE_CSR (R380). -/
  | mgmtWriteCsr (h : Word32) (addr value : Word32)
  /-- MGMT_INSTALL_BEGIN (R326). -/
  | mgmtInstallBegin (h : Word32) (files : List (Nat × Nat))
  /-- MGMT_INSTALL_DATA (R326). -/
  | mgmtInstallData (h : Word32) (object : Nat) (data : List Byte)
  /-- MGMT_INSTALL_COMMIT (R422). -/
  | mgmtInstallCommit (h : Word32) (manifest : SignedObj) (files : List PkgFile) (root svn modelId : Nat)
  /-- MGMT_LOAD_MODEL (R473). -/
  | mgmtLoadModel (h : Word32) (load autoload : Bool) (root : Nat)
  /-- MGMT_FORMAT_STORE (R320). -/
  | mgmtFormatStore (h : Word32)
  /-- MGMT_READ_LOG (R380). -/
  | mgmtReadLog (h : Word32) (seq : Word32)
  /-- MGMT_STAGE_FIRMWARE (R421). -/
  | mgmtStageFirmware (h : Word32) (image : SignedObj) (svn : Nat)
  /-- MGMT_SHUTDOWN (R476). -/
  | mgmtShutdown (h : Word32) (restart skipDownpour : Bool)
  /-- MGMT_SESSIONS (R380). -/
  | mgmtSessions (h : Word32) (closeHandle : Option Word32)
  /-- MGMT_FRONT_CONFIGURE (R384). -/
  | mgmtFrontConfigure (h : Word32) (record : List Byte)
  /-- MGMT_FRONT_SET_EPOCH (R400). -/
  | mgmtFrontSetEpoch (h : Word32) (epoch : Word32)
  /-- MGMT_FRONT_DISSOLVE (R384). -/
  | mgmtFrontDissolve (h : Word32)
  /-- MGMT_TRANSFER_OWNERSHIP (R415). -/
  | mgmtTransferOwnership (h : Word32) (newPub : List Byte) (sigOk : Bool)
  /-- MGMT_INSTALL_DELEGATION (R416). -/
  | mgmtInstallDelegation (h : Word32) (record : SignedObj)
  /-- MGMT_REVOKE_DELEGATION (R416). -/
  | mgmtRevokeDelegation (h : Word32) (id : Word32)
  /-- MGMT_RAISE_FW_MIN_SVN (R420). -/
  | mgmtRaiseFwMinSvn (h : Word32)
  /-- MGMT_RAISE_SVC_MIN_SVN (R420). -/
  | mgmtRaiseSvcMinSvn (h : Word32)
  /-- MGMT_RAISE_PKG_MIN_SVN (R420). -/
  | mgmtRaisePkgMinSvn (h : Word32)
  /-- MGMT_UNLOCK_RECORD (R411). -/
  | mgmtUnlockRecord (h : Word32) (record : SignedObj)
  /-- MGMT_SCRAP (R411). -/
  | mgmtScrap (h : Word32)
  /-- MGMT_READ_IDENTITY_CERT (R431). -/
  | mgmtReadIdentityCert (h : Word32)
  /-- MAILBOX_UNLOCK_RECORD (R411). -/
  | mailboxUnlockRecord (record : SignedObj)
  /-- MAILBOX_DEBUG_TOKEN (R410). -/
  | mailboxDebugToken (record : SignedObj)
  /-- ENTROPY_TEST_FAIL (R405). -/
  | entropyTestFail
  /-- ENTROPY_RETEST (R405). -/
  | entropyRetest (ok : Bool)
  /-- KEY_ENTRY_ERROR (R426). -/
  | keyEntryError (slot : Nat)
  /-- FUSED_FRAME_RECEIVE (R159). -/
  | fusedFrameReceive (f : FusedFrame)
  /-- HEARTBEAT_SEND (R393). -/
  | heartbeatSend (rank : Fin 32)
  /-- HEARTBEAT (R393). -/
  | heartbeat (m : FrontMsg)
  /-- PEER_SUSPECT_TIMEOUT (R394). -/
  | peerSuspectTimeout (rank : Fin 32)
  /-- PEER_LOST_TIMEOUT (R394). -/
  | peerLostTimeout (rank : Fin 32)
  /-- PROPOSE (R396). -/
  | propose (m : FrontMsg)
  /-- FRONT_ACCEPT (R396). -/
  | frontAccept (m : FrontMsg)
  /-- COMMIT (R396). -/
  | commit (m : FrontMsg)
  /-- COMMIT_TIMEOUT (R396). -/
  | commitTimeout
  /-- REJOIN (R400). -/
  | rejoin (m : FrontMsg)
  /-- REJOIN_OPEN_RETRY (R400). -/
  | rejoinOpenRetry (rank : Fin 32)
  /-- STEP (R390). -/
  | step (m : FrontMsg)
  /-- FORMATION_TIMEOUT (R387). -/
  | formationTimeout
  /-- ADOPTION_DONE (R399). -/
  | adoptionDone (shareRank : Fin 32)
  /-- TELEMETRY_SAMPLE (R442). -/
  | telemetrySample (milliwatts : Nat)
  /-- LULL_UPDATE (R444). -/
  | lullUpdate
  /-- LULL_AT_MAX (R446). -/
  | lullAtMax
  /-- CAP_OWN_WRITE (R443). -/
  | capOwnWrite (value : Word32)
  /-- CAP_BOARD_WRITE (R443). -/
  | capBoardWrite (value : Word32)
  /-- STATE_REQ_WRITE (R439). -/
  | stateReqWrite (iface : Iface) (req : BitVec 3)
  /-- BREEZE_IDLE (R439). -/
  | breezeIdle (die : Fin 17)
  /-- CALM_AFTER_EXPIRY (R439). -/
  | calmAfterExpiry
  /-- FROST_AFTER_EXPIRY (R440). -/
  | frostAfterExpiry
  /-- WAKE_TO_GALE (R439). -/
  | wakeToGale
  /-- POWER_TRANSITION_DONE (R441). -/
  | powerTransitionDone
  /-- AGE_TRIM_CHECK (R434). -/
  | ageTrimCheck (rail : Fin 33) (slow : Bool)
  /-- RAIL_FAULT (R435). -/
  | railFault (rail : Fin 33)
  /-- RAIL_FAULT_RESTART (R479). -/
  | railFaultRestart
  /-- REFCLK_LOSS (R437). -/
  | refclkLoss
  /-- HOLDOVER_EXPIRY (R437). -/
  | holdoverExpiry
  /-- REFCLK_RETURN (R437). -/
  | refclkReturn
  /-- DROOP_LEVEL1 (R448). -/
  | droopLevel1 (domain : Fin 17)
  /-- DROOP_LEVEL2 (R448). -/
  | droopLevel2 (domain : Fin 17)
  /-- DROOP_RELEASE (R448). -/
  | droopRelease (domain : Fin 17)
  /-- THERMAL_RATIO_UPDATE (R450). -/
  | thermalRatioUpdate
  /-- DRIZZLE_SLICE (R457). -/
  | drizzleSlice
  /-- DRIZZLE_FORCE (R457). -/
  | drizzleForce
  /-- DRIZZLE_SLICE_DONE (R459). -/
  | drizzleSliceDone (findings : List Finding)
  /-- DRIZZLE_PASS_LATE (R457). -/
  | drizzlePassLate
  /-- DRAIN_GRACE_EXPIRY (R476). -/
  | drainGraceExpiry
  /-- DOWNPOUR_SLICE_DONE (R462). -/
  | downpourSliceDone (findings : List Finding)
  /-- DOWNPOUR_PHASE_DONE (R461). -/
  | downpourPhaseDone (ok : Bool)
  /-- POWER_APPLIED (R470). -/
  | powerApplied
  /-- AO_OSC_STABLE (R470). -/
  | aoOscStable (straps : BitVec 8) (a b : Option SlotVerdict) (health : HealthVerdict)
  /-- BOOT_IMAGE_VERIFIED (R471). -/
  | bootImageVerified (digest2 : Nat) (refclk : Bool) (store : List SlotVerdict)
  /-- FIRMWARE_STARTED (R470). -/
  | firmwareStarted
  /-- HEALTH_RECORD_ACCEPTED (R465). -/
  | healthRecordAccepted (findings : List Finding)
  /-- DRAM_USABLE (R472). -/
  | dramUsable (failedRegions : List Nat)
  /-- STORE_DISCOVERED (R318). -/
  | storeDiscovered (luns : List LunReport)
  /-- LINK_STEP_TIMEOUT (R470). -/
  | linkStepTimeout
  /-- MODEL_RESIDENT (R474). -/
  | modelResident (ok : Bool)
  /-- RESET_N_LOW (R495). -/
  | resetNLow
  /-- WARM_RESET (R475). -/
  | warmReset (iface : Iface)
  /-- START (R477). -/
  | start (iface : Iface)
  /-- WDOG_KICK (R482). -/
  | wdogKick
  /-- WATCHDOG_EXPIRY (R482). -/
  | watchdogExpiry
  /-- UNDERVOLTAGE (R479). -/
  | undervoltage
  /-- INPUT_RESTORED (R479). -/
  | inputRestored
  /-- I3C_SET_ADDRESS (R506). -/
  | i3cSetAddress (addr : Word32)
  /-- I3C_WRITE (R506). -/
  | i3cWrite (bytes : List Byte)
  /-- I3C_READ (R506). -/
  | i3cRead (count : Nat)
  /-- TW_SEL_WRITE (R509). -/
  | twSelWrite (window : Fin 2) (value : Word32)
  /-- TW_INDEX_WRITE (R509). -/
  | twIndexWrite (window : Fin 2) (value : Word32)
  /-- TW_DATA_READ (R509). -/
  | twDataRead (window : Fin 2)
  /-- TILE_FETCH_DONE (R509). -/
  | tileFetchDone (window : Fin 2)
  /-- EV_RSEL_WRITE (R514). -/
  | evRselWrite (iface : Iface) (set : Fin 3) (seq : Word32)
  /-- ALERT_STATUS_WRITE (R507). -/
  | alertStatusWrite (iface : Iface) (value : Word32)
  /-- CSR_WRITE (R505). -/
  | csrWrite (iface : Iface) (addr value : Word32)
  /-- LOSS_OF_36V (R478). -/
  | lossOf36v
  /-- RESET_N_RELEASE (R495). -/
  | resetNRelease
  /-- MAILBOX_IMAGE_DELIVERY (R480). -/
  | mailboxImageDelivery (image : SignedObj) (svn : Nat) (digest : Nat)
  /-- PACED_TRANSMIT (R357). -/
  | pacedTransmit
  deriving DecidableEq, Repr

end Sys2Proof
end

