-- ==== Sys2Proof/WellFormed.lean ====
section
/-! DEFINITION. Which commands are well formed: the operands that are plain numbers name a unit the module has (R16, R17,
R43, R300, R353). The conductor, thread, tag and bank operands carry their ranges in their types. -/

namespace Sys2Proof

/-- A pair of the module (R16). -/
def PairId.ok (p : PairId) : Bool := decide (p.tile < 10240) && decide (p.pair < 48)

/-- A session slot (R359). -/
def slotOk (i : Nat) : Bool := decide (i < 1048576)

/-- A district index (R360). -/
def districtOk (d : Nat) : Bool := decide (d < 65535)

/-- Fields of a Pelet header fit their widths (Table NET-6). -/
def Datagram.ok (d : Datagram) : Bool :=
  decide (d.srcPort < 65536) && decide (d.udpPort < 65536) && decide (d.udpLen < 65536) && decide (d.version < 256)
    && decide (d.typ < 256) && decide (d.seq < 2 ^ 32) && decide (d.ack < 2 ^ 32) && decide (d.window < 65536)
    && decide (d.length < 65536) && decide (d.reserved < 65536)

/-- A front message's ranks are below 32 (R383). -/
def FrontMsg.ok (m : FrontMsg) : Bool := decide (m.rank < 32)

/-- A sensor reading names a tile of the module (R449). -/
def Reading.ok (r : Reading) : Bool :=
  match r.sensor with
  | .tile t => decide (t < 10240)
  | .base _ _ | .hub _ | .dram _ => true

/-- A finding names a unit of the module (Table TST-2). -/
def Finding.ok : Finding → Bool
  | .dmarchParity p row | .amarginChecksum p row => p.ok && decide (row < 2048)
  | .dmarchBit p row col | .amarginGuard p row col => p.ok && decide (row < 2048) && decide (col < 268)
  | .convWeight p c => p.ok && decide (c < 64)
  | .convBaro p => p.ok
  | .atree p col => p.ok && decide (col < 256)
  | .bank _ seg _ => decide (seg < 512)
  | .dramRegion g => decide (g < 256)
  | .logic u => decide (u < 65536)

/-- A store channel (R317). -/
def channelOk (c : Nat) : Bool := decide (c < 32)

/-- A read ends at a step of Table STO-6. -/
def PageRead.ok (r : PageRead) : Bool := decide (1 ≤ r.step) && decide (r.step ≤ 6)

/-- A command's numbers are in range. -/
def Instr.wf : Instr → Bool
  | .refreshDue p row | .refreshDeadline p row | .rowReloadDone p row => p.ok && decide (row < 2048)
  | .refreshRowDone p x => p.ok && decide (x.row < 2048) && x.wrong.all (fun e => decide (e.1 < 272) && decide (e.2 < 4))
  | .refreshBandFall p | .recalAgeDue p | .forcedRecal p | .recalPassDone p | .recalRetry p => p.ok
  | .remapFetchDone p col | .repairMapSwitch p col => p.ok && decide (col < 256)
  | .tempSensorRead rs cs => rs.all Reading.ok && cs.all (fun c => decide (c < 17))
  | .switchAgeExpiry d => districtOk d
  | .ackDelayExpiry i | .rtoExpiry i | .zeroWindowProbe i | .handshakeTimeout i | .openResend i | .openerTimeout i
  | .idleTimeout i => slotOk i
  | .ackOnly d | .accept d _ _ | .append d | .generate d | .reset d | .setSampler d | .setStops d | .cancel d | .ping d
  | .close d => d.ok
  | .heartbeat m | .propose m | .frontAccept m | .commit m | .rejoin m | .step m => m.ok
  | .fusedFrameReceive f => decide (f.srcRank < 32)
  | .drizzleSliceDone fs | .downpourSliceDone fs | .healthRecordAccepted fs => fs.all Finding.ok
  | .storeReadDone _ _ reads failed => reads.all PageRead.ok && failed.all channelOk
  | .storeWriteDone _ _ _ failed => failed.all channelOk
  | .thetaRetune layer | .mirrorLoadDone layer _ _ => decide (layer < 256)
  | .softFaultFetchDone _ readStep _ => decide (1 ≤ readStep) && decide (readStep ≤ 6)
  | .kvSpillDone session _ => slotOk session
  | .patrolRead region r => decide (1 ≤ region) && decide (region ≤ 4) && r.ok
  | .patrolOverdue region _ channel => decide (1 ≤ region) && decide (region ≤ 4) && channelOk channel
  | .relocationDone _ x | .nandOpFail _ x => channelOk x.channel && x.reads.all PageRead.ok
  | .hotChannelCheck queues => decide (queues.length = 32)
  | .packetTooBig _ port _ | .openReq _ port _ _ | .openRefusal _ port _ _ _ => decide (port < 65536)
  | .mgmtInstallBegin _ files => files.all (fun f => decide (f.1 < 2 ^ 32))
  | .mgmtInstallData _ object _ => decide (object < 2 ^ 32)
  | .keyEntryError slot => slotOk slot
  | .dramUsable failed => failed.all (fun g => decide (g < 256))
  | .nop _ _ | .b _ _ | .call _ _ | .jr _ _ | .loop _ _ | .cmp _ _ | .cmpi _ _ | .pand _ _ | .por _ _ | .pxor _ _ | .pandn _ _ | .add _ _
  | .sub _ _ | .mul _ _ | .mulhu _ _ | .divu _ _ | .remu _ _ | .and _ _ | .or _ _ | .xor _ _ | .shl _ _ | .shr _ _ | .sar _ _ | .min _ _
  | .max _ _ | .minu _ _ | .maxu _ _ | .addi _ _ | .andi _ _ | .ori _ _ | .xori _ _ | .shli _ _ | .shri _ _ | .sari _ _ | .li _ _
  | .lui _ _ | .ld64 _ _ | .ld32 _ _ | .st64 _ _ | .st32 _ _ | .yield _ _ | .trap _ _ | .eret _ _ | .halt _ _ | .csrr _ _ | .csrw _ _
  | .pload _ _ | .ploadDone _ _ _ _ | .tstart _ _ | .tstartRelease _ | .tkill _ _ | .threadStopped _ | .tid _ _ | .punload _ _
  | .punloadRelease _ | .waitAll _ _ | .waitAny _ _ | .waitRelease _ | .fence _ _ | .fenceRelease _ | .tstat _ _ | .descCreate _ _
  | .descDrop _ _ | .descDropRelease _ | .dmaCopy _ _ | .dmaCopyDone _ _ _ | .storeRead _ _ | .storeWrite _ _ | .netSend _ _
  | .netSendDone _ _ | .netRecv _ _ | .netRecvDone _ _ | .load _ _ | .loadComplete _ _ | .unload _ _ | .unloadComplete _ _
  | .sweep _ _ _ _ _ | .sweepEnqueue _ | .sweepStart | .spillGc | .staticLevelling | .sweepFinishHoldFree _ _ | .sweepRowScale _ _ _ | .outputTileSend _ _ _ _ _
  | .sweepDone _ _ _ | .vbin _ _ | .vun _ _ | .vcvt _ _ | .vscale _ _ | .vfill _ _ | .redSum _ _ | .redSumsq _ _ | .redMeanvar _ _
  | .redMax _ _ | .redTopk _ _ | .gather _ _ | .scatterAdd _ _ | .xposeNet _ _ | .xposeStride _ _ | .route _ _ _ | .forecast _ _ _
  | .tensorOpComplete _ _ _ | .sessTokenize _ _ | .sessDetokenize _ _ | .sessSample _ _ | .sessBind _ _ | .sessKvmap _ _ | .sessClose _ _
  | .idleWindow | .tokenStepForm | .dwellExpiry _ | .districtLoadStart | .districtLoadDone | .mirrorWindowEnd | .allocCreate _ _
  | .allocRelease _ | .bankStateRequest _ _ | .bankTransitionDone _ | .bankOwnerWrite _ _ | .partitionRequest _ _ _ | .hotspotCheck _
  | .attDoorbell _ | .attentionJobStart | .attentionJobDone _ | .zqShort | .spillCreditHourly
  | .linkTrained _ | .linkLoss | .trainingRestart | .fecWindow _ _ _ _ | .frameReceive _ | .icmpEcho _ _ | .neighbourDiscovery _ | .arp _
  | .dadDone _ _ | .handshakeDone | .mgmtReadCsr _ _ | .mgmtWriteCsr _ _ _ | .mgmtInstallCommit _ _ _ _ _ _ | .mgmtLoadModel _ _ _ _
  | .mgmtFormatStore _ | .mgmtReadLog _ _ | .mgmtStageFirmware _ _ _ | .mgmtShutdown _ _ _ | .mgmtSessions _ _ | .mgmtFrontConfigure _ _
  | .mgmtFrontSetEpoch _ _ | .mgmtFrontDissolve _ | .mgmtTransferOwnership _ _ _ | .mgmtInstallDelegation _ _ | .mgmtRevokeDelegation _ _
  | .mgmtRaiseFwMinSvn _ | .mgmtRaiseSvcMinSvn _ | .mgmtRaisePkgMinSvn _ | .mgmtUnlockRecord _ _ | .mgmtScrap _ | .mgmtReadIdentityCert _
  | .mailboxUnlockRecord _ | .mailboxDebugToken _ | .entropyTestFail | .entropyRetest _ | .heartbeatSend _ | .peerSuspectTimeout _
  | .peerLostTimeout _ | .commitTimeout | .rejoinOpenRetry _ | .formationTimeout | .adoptionDone _ | .telemetrySample _ | .lullUpdate
  | .lullAtMax | .capOwnWrite _ | .capBoardWrite _ | .stateReqWrite _ _ | .breezeIdle _ | .calmAfterExpiry | .frostAfterExpiry
  | .wakeToGale | .powerTransitionDone | .ageTrimCheck _ _ | .railFault _ | .railFaultRestart | .refclkLoss | .holdoverExpiry
  | .refclkReturn | .droopLevel1 _ | .droopLevel2 _ | .droopRelease _ | .thermalRatioUpdate | .drizzleSlice | .drizzleForce
  | .drizzlePassLate | .drainGraceExpiry | .downpourPhaseDone _ | .powerApplied | .aoOscStable _ _ _ _ | .bootImageVerified _ _ _
  | .firmwareStarted | .storeDiscovered _ | .linkStepTimeout | .modelResident _ | .resetNLow | .warmReset _ | .start _ | .wdogKick
  | .watchdogExpiry | .undervoltage | .inputRestored | .i3cSetAddress _ | .i3cWrite _ | .i3cRead _ | .twSelWrite _ _ | .twIndexWrite _ _
  | .twDataRead _ | .tileFetchDone _ | .evRselWrite _ _ _ | .alertStatusWrite _ _ | .csrWrite _ _ _ | .lossOf36v | .resetNRelease
  | .mailboxImageDelivery _ _ _ | .pacedTransmit => true

end Sys2Proof
end

