-- ==== Sys2Proof/Decode.lean ====
section
/-! DEFINITION. Commands spelled by words. No row of the command table gives bits, so no word spells a command: Sloyni
instructions carry their words as operands and are decoded by the meanings. -/

namespace Sys2Proof

/-- The command that a word of the command table's bits spells: none, since no row gives bits. -/
def decodeTableWord (_nbits _w : Nat) : Option Instr := none

end Sys2Proof
end

