-- ==== Sys2Proof/Config.lean ====
section
/-! DEFINITION. What one module fixes and what the spec leaves open: constants without a body, so that nothing can
be proved of their values (log entries 2, 3 and 9). -/

namespace Sys2Proof

/-- The n-th free value drawn (DESIGN CHOICE, log entry 3). -/
opaque Config.freeNat : Nat → Nat

/-- The reads that a move of store pages makes, with how far each escalated: a free value (DESIGN CHOICE, log entry 3). -/
opaque Config.freeReads : Nat → List PageRead

/-- SHA-512 (R403), as a function of the bytes; its arithmetic is outside the spec's text (DESIGN CHOICE, log entry 9). -/
opaque Config.sha512Bits : List Byte → BitVec 512
/-- A digest as a number (DESIGN CHOICE, log entry 9). -/
def Config.sha512 (b : List Byte) : Nat := (Config.sha512Bits b).toNat

/-- KAPPA_G and KAPPA_O fused in the A-macro of a pair, tile × 48 + pair (Table CAL-2), 12 bits two's complement (DESIGN CHOICE, log entry 2). -/
opaque Config.kappaG : Nat → BitVec 12
/-- See `Config.kappaG` (DESIGN CHOICE, log entry 2). -/
opaque Config.kappaO : Nat → BitVec 12

/-- Spares fuse repair took in a pair, 0 to 4, from spare 11 downwards, and the column each serves (R88). -/
opaque Config.fusedSpares : Nat → List (Fin 256)

/-- The DRAM hash matrix of a draw of Chevik's DRBG (R287), its 22 columns of 8 bits, the first lowest. -/
opaque Config.hashColumns : Nat → BitVec 176

/-- ROM_VERSION (Table SEC-8). -/
opaque Config.romVersion : BitVec 16

/-- The fused MAC address (R342). -/
opaque Config.mac : BitVec 48

/-- The ROM's public keys, 133 bytes each: FWK_0 to FWK_3, and with true SVK_0 to SVK_3 (R406). -/
opaque Config.romKeyBits : Bool → Nat → BitVec 1064
/-- A ROM key's bytes. -/
def Config.romKey (svk : Bool) (i : Nat) : List Byte :=
  (List.range 133).map (fun k => BitVec.ofNat 8 ((Config.romKeyBits svk i).toNat / 256 ^ (132 - k)))

/-- The bytes of the firmware image of a digest (R421, R471; DESIGN CHOICE, log entry 18). -/
opaque Config.fwImage : Nat → List Byte

/-- SERIAL, and PRODUCT_CA (Table SEC-1). -/
opaque Config.serialBits : BitVec 64
/-- SERIAL as a number. -/
def Config.serial : Nat := Config.serialBits.toNat
/-- See `Config.serialBits`. -/
opaque Config.productCa : BitVec 16

/-- Fused set points of the 33 adaptive rails, in 2.5 mV (R434). -/
opaque Config.railSet : Nat → BitVec 10

/-! What a model package fixes, by its manifest root: the spec gives no file format for it (DESIGN CHOICE, log entry 18). -/

/-- Districts of the package (DESIGN CHOICE, log entry 18). -/
opaque Config.districts : Nat → Nat
/-- Does the package have a district router (R364)? (DESIGN CHOICE, log entry 18) -/
opaque Config.router : Nat → Bool
/-- District slots: one, or two where it is true (R182). -/
opaque Config.twoSlots : Nat → Bool
/-- The low 14 bits of the AES-256 encryption of a band and row under a striping salt (R323): Chevik's arithmetic (DESIGN CHOICE, log entry 9). -/
opaque Config.stripeBits : Nat → Nat → Nat → BitVec 14
/-- The 16 bytes of a store page's home (R321), by its kind and fields (DESIGN CHOICE, log entry 150). -/
opaque Config.homeBits : List Nat → BitVec 128
/-- AES-256-XTS of a store page by key and tweak (R338) (DESIGN CHOICE, log entry 9). -/
opaque Config.xtsBits : List Byte → List Byte → List Byte → BitVec 32768
/-- LDPC parity of a slot's DATA and CRC (R321) (DESIGN CHOICE, log entry 150). -/
opaque Config.ldpcBits : List Byte → BitVec 4096
/-- The order in which format takes a channel's good blocks, by channel, chip enable, LUN and block (R322, R325) (DESIGN CHOICE, log entry 151). -/
opaque Config.blockOrder : Nat → Nat → Nat → Nat → Nat
/-- A district's image in the store, and as that of the district after the last one the trunk's (R184, R440): its object, its first 4 KiB page there, and its 64 KiB pages (DESIGN CHOICE, log entry 98). -/
opaque Config.districtPlace : Nat → Nat → Nat × Nat × Nat
/-- Is a layer's expert part of a district (R182)? By root, district, layer and expert (DESIGN CHOICE, log entry 98). -/
opaque Config.inDistrict : Nat → Nat → Nat → Nat → Bool
/-- 64 KiB pages of district image that a slot takes (R182) (DESIGN CHOICE, log entry 98). -/
opaque Config.slotPages : Nat → Nat → Nat
/-- The layer id under which ROUTE names the experts whose matrices a layer holds (R199, R200) (DESIGN CHOICE, log entry 98). -/
opaque Config.expertsOf : Nat → Nat → Nat
/-- Mirror slots of a layer (R182). -/
opaque Config.mirrorSlots : Nat → Nat → Nat
/-- The default district, loaded with the trunk (R473). -/
opaque Config.defaultDistrict : Nat → Nat
/-- The districts that the package names as preferred (R474). -/
opaque Config.preferred : Nat → List Nat
/-- The end token (R372). -/
opaque Config.endToken : Nat → Nat
/-- Byte-level merges (R369): the tokens of bytes and how many bytes they take, with or without the rest forced out. -/
opaque Config.tokenise : Nat → Bool → List Byte → List Nat × Nat
/-- The bytes of a token. -/
opaque Config.tokenBytes : Nat → Nat → List Byte
/-- Transformer layers whose KV a session keeps (R293). -/
opaque Config.layers : Nat → Nat
/-- The PARTIAL streams that a member owning a layer's output vectors combines, as share rank, STREAM and expected tiles: how a program
names them is in no rule (DESIGN CHOICE, log entry 135). -/
opaque Config.partialPlan : Nat → Nat → List (Nat × Nat × Nat)
/-- Where a RESULT stream's tiles are placed: hub thread, descriptor slot and expected tiles (DESIGN CHOICE, log entry 135). -/
opaque Config.resultPlan : Nat → Nat → Option (Nat × Nat × Nat)
/-- The rank that the package's placement map names for a region's share (R389), by root, layer, expert, input row and output column
(DESIGN CHOICE, log entry 135). -/
opaque Config.shareRank : Nat → Nat → Nat → Nat → Nat → Nat
/-- Does a share fit a rank's free rows (R399)? By root, share and adopter (DESIGN CHOICE, log entry 158). -/
opaque Config.shareFits : Nat → Nat → Nat → Bool
/-- Does a district's step need a share (R389, R399)? By root, share and district (DESIGN CHOICE, log entry 158). -/
opaque Config.needsShare : Nat → Nat → Nat → Bool
/-- The adoption table of a front's package (R399): the adopter of a rank, if it names one. -/
opaque Config.adopter : Nat → Nat → Option Nat

/-- DEVICE_SECRET as drawn into SECRET_A, or with true into SECRET_B (R406, R412). -/
opaque Config.deviceSecret : Bool → BitVec 256
/-- HMAC with SHA-512 of a key and a message (R361, R407) (DESIGN CHOICE, log entry 9). -/
opaque Config.hmacBits : List Byte → List Byte → BitVec 512
/-- The point X ‖ Y of the P-521 key pair whose private key 592 bits give (R407) (DESIGN CHOICE, log entry 9). -/
opaque Config.pointBits : List Byte → BitVec 1056
/-- ECDSA P-521 by such a private key over a digest: r ‖ s (DESIGN CHOICE, log entry 9). -/
opaque Config.signBits : List Byte → Nat → BitVec 1056
/-- The x-coordinate of the ECDH product of such a private key and the other side's public key (R361) (DESIGN CHOICE, log entry 9). -/
opaque Config.ecdhBits : List Byte → List Byte → BitVec 528
/-- AES-256-GCM by key, nonce and additional data: the ciphertext, and the tag (R350) (DESIGN CHOICE, log entry 9). -/
opaque Config.gcmCipher : Nat → Nat → List Byte → List Byte
/-- See `Config.gcmCipher`. -/
opaque Config.gcmTagBits : Nat → Nat → List Byte → List Byte → BitVec 128
/-- DIK_CERT_SIG, the product CA's signature (R408, Table SEC-7). -/
opaque Config.dikCertBits : BitVec 1056
/-- The program ids that firmware grants a package's object, by its id (R326) (DESIGN CHOICE, log entry 80). -/
opaque Config.objectGrants : Nat → List Nat
/-- The program that the sessions of a kind belong to, by model root and KIND; none where every program may use them (R251, R252) (DESIGN
CHOICE, log entry 145). -/
opaque Config.sessionProgram : Nat → Nat → Option Nat
/-- Where a dispatch table's list stands, by the numbers of entries of all its lists and its directory index (DESIGN CHOICE, log entry 33). -/
opaque Config.listPlace : List Nat → Nat → Nat
/-- The bytes of a MGMT reply whose layout the manual leaves open (R380), by operation and the values it carries (DESIGN CHOICE, log entry 86). -/
opaque Config.replyLayout : Nat → List Nat → List Byte
/-- The identity certificate's bytes (R408, R431). -/
opaque Config.identityCert : List Byte

/-- The interface identifier of SLAAC addresses (R345). -/
opaque Config.interfaceId : BitVec 64

end Sys2Proof
end

