-- ==== Sys2Proof/Machine/Table.lean ====
section
/-! DEFINITION. Sparse tables by number: the one form in which memory, register files, tag states and the like
are held. A table is a list of (number, value) pairs with rising numbers and no entry equal to the default,
so that equal tables are equal lists. -/

namespace Sys2Proof.Machine

/-- The value a table holds at a number; the default where none is listed. -/
def look {α : Type} (d : α) : List (Nat × α) → Nat → α
  | [], _ => d
  | (a, v) :: r, k => if k = a then v else look d r k

/-- The table without an entry at a number. -/
def without {α : Type} (m : List (Nat × α)) (k : Nat) : List (Nat × α) :=
  m.filter (fun e => !(e.1 == k))

/-- An entry set before the first larger number. -/
def place {α : Type} (k : Nat) (v : α) : List (Nat × α) → List (Nat × α)
  | [] => [(k, v)]
  | (a, x) :: r => if k < a then (k, v) :: (a, x) :: r else (a, x) :: place k v r

/-- The table with a number's value replaced, in the same form. -/
def put {α : Type} [DecidableEq α] (d : α) (m : List (Nat × α)) (k : Nat) (v : α) : List (Nat × α) :=
  if v = d then without m k else place k v (without m k)

/-- A table's value changed by a function. -/
def change {α : Type} [DecidableEq α] (d : α) (m : List (Nat × α)) (k : Nat) (f : α → α) : List (Nat × α) :=
  put d m k (f (look d m k))

/-- Entry numbers rise strictly and no entry holds the default: the canonical form, decidable. -/
abbrev Canonical {α : Type} [DecidableEq α] (d : α) (m : List (Nat × α)) : Prop :=
  m.Pairwise (fun x y => x.1 < y.1) ∧ ∀ e ∈ m, e.2 ≠ d

/-- Successive values written at consecutive numbers. -/
def putRun {α : Type} [DecidableEq α] (d : α) (m : List (Nat × α)) (k : Nat) : List α → List (Nat × α)
  | [] => m
  | v :: r => putRun d (put d m k v) (k + 1) r

/-- Pairs written in order. -/
def putAll {α : Type} [DecidableEq α] (d : α) (m : List (Nat × α)) : List (Nat × α) → List (Nat × α)
  | [] => m
  | (k, v) :: r => putAll d (put d m k v) r

/-- The first number from 0 that satisfies a test, among n. -/
def firstBelow (n : Nat) (p : Nat → Bool) : Option Nat := (List.range n).find? p

/-- An item put last in a queue. -/
def enqueue {α : Type} (q : List α) (x : α) : List α := q ++ [x]

/-- The i-th element of a list, or a default. -/
def nthD {α : Type} (d : α) : List α → Nat → α
  | [], _ => d
  | x :: _, 0 => x
  | _ :: r, i + 1 => nthD d r i

/-- The list with the i-th element changed. -/
def setNth {α : Type} (l : List α) (i : Nat) (f : α → α) : List α :=
  match l, i with
  | [], _ => []
  | x :: r, 0 => f x :: r
  | x :: r, i + 1 => x :: setNth r i f

/-- Stable ascending order by a key. -/
def sortBy {α : Type} (key : α → Nat) : List α → List α
  | [] => []
  | x :: r => insertBy' x (sortBy key r)
where
  /-- Insertion before equal keys, so that the order of equals is kept. -/
  insertBy' (x : α) : List α → List α
    | [] => [x]
    | y :: r => if key y < key x then y :: insertBy' x r else x :: y :: r

/-- Lists with no repeats: an element added once. -/
def addOnce {α : Type} [DecidableEq α] (l : List α) (x : α) : List α := if x ∈ l then l else l ++ [x]

/-- An element taken out. -/
def takeOut {α : Type} [DecidableEq α] (l : List α) (x : α) : List α := l.filter (fun y => y ≠ x)

/-- The largest number of a list, 0 for none. -/
def maxOf (l : List Nat) : Nat := l.foldl Nat.max 0

/-- The sum of a list. -/
def sumOf (l : List Nat) : Nat := l.foldl (· + ·) 0

/-- Consecutive chunks of n elements; fuel is the list's length. -/
def chunks {α : Type} (n : Nat) (l : List α) : List (List α) :=
  go l.length l
where
  /-- Chunks, at most as many as the fuel. -/
  go : Nat → List α → List (List α)
    | 0, _ => []
    | f + 1, l => if l.isEmpty then [] else l.take n :: go f (l.drop n)

/-- Quotient rounded up. -/
def ceilDiv (a b : Nat) : Nat := (a + b - 1) / b

/-! Bits and bytes (R4, R6). -/

/-- Bits [hi:lo] of a number. -/
def bits (x hi lo : Nat) : Nat := (x / 2 ^ lo) % 2 ^ (hi + 1 - lo)

/-- One bit. -/
def bit (x i : Nat) : Bool := (x / 2 ^ i) % 2 == 1

/-- A number with bits [hi:lo] replaced. -/
def setBits (x hi lo v : Nat) : Nat :=
  x - bits x hi lo * 2 ^ lo + (v % 2 ^ (hi + 1 - lo)) * 2 ^ lo

/-- A number from little-endian bytes (R6). -/
def leNat : List Byte → Nat
  | [] => 0
  | b :: r => b.toNat + 256 * leNat r

/-- Little-endian bytes of a number (R6). -/
def leBytes : Nat → Nat → List Byte
  | 0, _ => []
  | n + 1, x => BitVec.ofNat 8 x :: leBytes n (x / 256)

/-- A number from big-endian bytes (R6). -/
def beNat (l : List Byte) : Nat := leNat l.reverse

/-- Big-endian bytes of a number (R6). -/
def beBytes (n x : Nat) : List Byte := (leBytes n x).reverse

/-- Bytes [from, from + n) of a list, read as a little-endian number; 0 beyond the end. -/
def leAt (l : List Byte) (start n : Nat) : Nat := leNat ((l.drop start).take n)

/-- The same, big-endian. -/
def beAt (l : List Byte) (start n : Nat) : Nat :=
  let s := (l.drop start).take n
  beNat (s ++ List.replicate (n - s.length) 0)

/-- A number with two's complement sign at a width. -/
def signed (w x : Nat) : Int := if bit x (w - 1) then (x % 2 ^ w : Nat) - (2 ^ w : Nat) else (x % 2 ^ w : Nat)

/-- Two's complement bits of an integer at a width. -/
def toBits (w : Nat) (i : Int) : Nat := (i % (2 ^ w : Nat)).toNat

/-- Truth as 0 or 1. -/
def b01 (b : Bool) : Nat := if b then 1 else 0

/-- A value held within limits (R514: the nearest limit). -/
def clampNat (lo hi x : Nat) : Nat := Nat.min hi (Nat.max lo x)

end Sys2Proof.Machine
end

