-- ==== Sys2Proof/Machine/Float.lean ====
section
/-! DEFINITION. Binary floating point by exact integers: the element formats, the conversions and the FP32
arithmetic (R95 to R99, R145, R146). -/

namespace Sys2Proof.Machine

/-- A decoded floating-point value: a finite one is (−1)^neg · m · 2^e. -/
inductive FVal where
  | nan
  | inf (neg : Bool)
  | fin (neg : Bool) (m : Nat) (e : Int)
  deriving DecidableEq, Repr

/-- A format of Table NUM-1: exponent bits, mantissa bits, bias, the code of the largest finite magnitude, and
the codes of infinity (none for E4M3) and of the canonical NaN (R97). -/
structure Fmt where
  eb : Nat
  mb : Nat
  bias : Nat
  maxFin : Nat
  infCode : Option Nat
  nanCode : Nat
  deriving DecidableEq, Repr

/-- E4M3 (R95). -/
def fmtE4M3 : Fmt := ⟨4, 3, 7, 0x7E, none, 0x7F⟩
/-- E5M2 (R95). -/
def fmtE5M2 : Fmt := ⟨5, 2, 15, 0x7B, some 0x7C, 0x7E⟩
/-- BF16 (R95). -/
def fmtBF16 : Fmt := ⟨8, 7, 127, 0x7F7F, some 0x7F80, 0x7FC0⟩
/-- FP16 (R95). -/
def fmtFP16 : Fmt := ⟨5, 10, 15, 0x7BFF, some 0x7C00, 0x7E00⟩
/-- FP32 (R95). -/
def fmtFP32 : Fmt := ⟨8, 23, 127, 0x7F7FFFFF, some 0x7F800000, 0x7FC00000⟩

/-- The sign bit's place in a format. -/
def Fmt.signBit (f : Fmt) : Nat := f.eb + f.mb

/-- A code's value (R95): magnitudes above the largest finite one are infinity or NaN. -/
def Fmt.decode (f : Fmt) (code : Nat) : FVal :=
  let neg := bit code f.signBit
  let mag := bits code (f.signBit - 1) 0
  if mag ≤ f.maxFin then
    let ex := mag / 2 ^ f.mb
    let fr := mag % 2 ^ f.mb
    let lo : Int := 1 - (f.bias : Int) - (f.mb : Int)
    if ex = 0 then .fin neg fr lo else .fin neg (2 ^ f.mb + fr) (lo + (ex - 1 : Int))
  else if f.infCode = some mag then .inf neg else .nan

/-- A sign and a magnitude put together. -/
def Fmt.withSign (f : Fmt) (neg : Bool) (mag : Nat) : Nat := if neg then mag + 2 ^ f.signBit else mag

/-- Right shift with round to nearest, ties to even. -/
def shiftRne (m k : Nat) : Nat :=
  let q := m / 2 ^ k
  let r := m % 2 ^ k
  if 2 * r > 2 ^ k || (2 * r == 2 ^ k && q % 2 == 1 && k != 0) then q + 1 else q

/-- The magnitude code nearest to m · 2^e (m not 0), ties to even, exponents unbounded above; subnormals are
produced (R98, R99). -/
def Fmt.nearest (f : Fmt) (m : Nat) (e : Int) : Nat :=
  let lo : Int := 1 - (f.bias : Int) - (f.mb : Int)
  let qe : Int := max ((Nat.log2 m : Int) + e - f.mb) lo
  let q := if e ≥ qe then m * 2 ^ (e - qe).toNat else shiftRne m (qe - e).toNat
  (qe - lo).toNat * 2 ^ f.mb + q

/-- IEEE result of m · 2^e with a sign: overflow gives infinity (R98). -/
def Fmt.ieee (f : Fmt) (neg : Bool) (m : Nat) (e : Int) : Nat :=
  if m = 0 then f.withSign neg 0
  else
    let c := f.nearest m e
    if c ≤ f.maxFin then f.withSign neg c else f.withSign neg (f.infCode.getD f.maxFin)

/-- What a conversion raised (R99). -/
inductive Cvt where
  | ok | sat | nan
  deriving DecidableEq, Repr

/-- Conversion of a value to a floating-point format by Table NUM-3: overflow saturates to the largest finite value and
counts NUM_SAT; infinity stays where the format has one. -/
def Fmt.convert (f : Fmt) (v : FVal) : Nat × Cvt :=
  match v with
  | .nan => (f.nanCode, .nan)
  | .inf neg =>
    match f.infCode with
    | some c => (f.withSign neg c, .ok)
    | none => (f.withSign neg f.maxFin, .sat)
  | .fin neg m e =>
    if m = 0 then (f.withSign neg 0, .ok)
    else
      let c := f.nearest m e
      if c ≤ f.maxFin then (f.withSign neg c, .ok) else (f.withSign neg f.maxFin, .sat)

/-- A finite value rounded to the nearest integer, ties to even (R99). -/
def rneInt (neg : Bool) (m : Nat) (e : Int) : Int :=
  let q : Nat := if e ≥ 0 then m * 2 ^ e.toNat else shiftRne m (-e).toNat
  if neg then -(q : Int) else q

/-- Conversion to a two's complement type of w bits (R99): the integer and what it raised. -/
def convertInt (w : Nat) (v : FVal) : Int × Cvt :=
  let hi : Int := (2 : Int) ^ (w - 1) - 1
  let lo : Int := -(2 : Int) ^ (w - 1)
  match v with
  | .nan => (0, .nan)
  | .inf neg => (if neg then lo else hi, .sat)
  | .fin neg m e =>
    let i := rneInt neg m e
    if i > hi then (hi, .sat) else if i < lo then (lo, .sat) else (i, .ok)

/-- An integer held within a two's complement type (R99, INT32 to narrower). -/
def satInt (w : Nat) (i : Int) : Int × Cvt :=
  let hi : Int := (2 : Int) ^ (w - 1) - 1
  let lo : Int := -(2 : Int) ^ (w - 1)
  if i > hi then (hi, .sat) else if i < lo then (lo, .sat) else (i, .ok)

/-! FP32 arithmetic on bit patterns (R98). -/

/-- An FP32 pattern's value. -/
def fdec (x : F32) : FVal := fmtFP32.decode x.toNat

/-- The canonical NaN (R97). -/
def fNaN : F32 := 0x7FC00000#32
/-- Plus zero. -/
def fZero : F32 := 0#32
/-- One. -/
def fOne : F32 := 0x3F800000#32

/-- rne32 of a signed dyadic. -/
def frnd (neg : Bool) (m : Nat) (e : Int) : F32 := BitVec.ofNat 32 (fmtFP32.ieee neg m e)

/-- An infinity. -/
def fInf (neg : Bool) : F32 := BitVec.ofNat 32 (fmtFP32.withSign neg 0x7F800000)

/-- rne32 of an exact value. -/
def fval : FVal → F32
  | .nan => fNaN
  | .inf n => fInf n
  | .fin n m e => frnd n m e

/-- Is a pattern a NaN? -/
def fIsNaN (x : F32) : Bool := fdec x == .nan

/-- Is a pattern finite? -/
def fIsFin (x : F32) : Bool :=
  match fdec x with
  | .fin _ _ _ => true
  | _ => false

/-- The sign bit turned over. -/
def fNeg (x : F32) : F32 := if fIsNaN x then fNaN else x ^^^ 0x80000000#32

/-- The sign bit cleared. -/
def fAbs (x : F32) : F32 := if fIsNaN x then fNaN else x &&& 0x7FFFFFFF#32

/-- The signed integer m of m · 2^e. -/
def sgn (neg : Bool) (m : Nat) : Int := if neg then -(m : Int) else m

/-- Exact sum of two finite values; a zero sum is −0 only when both are −0. -/
def exactAdd (n1 : Bool) (m1 : Nat) (e1 : Int) (n2 : Bool) (m2 : Nat) (e2 : Int) : FVal :=
  let e := min e1 e2
  let s := sgn n1 (m1 * 2 ^ (e1 - e).toNat) + sgn n2 (m2 * 2 ^ (e2 - e).toNat)
  if s = 0 then .fin (n1 && n2) 0 0 else .fin (s < 0) s.natAbs e

/-- rne32(a + b) (R98). -/
def fAdd (a b : F32) : F32 :=
  match fdec a, fdec b with
  | .nan, _ => fNaN
  | _, .nan => fNaN
  | .inf x, .inf y => if x = y then fInf x else fNaN
  | .inf x, _ => fInf x
  | _, .inf y => fInf y
  | .fin n1 m1 e1, .fin n2 m2 e2 => fval (exactAdd n1 m1 e1 n2 m2 e2)

/-- rne32(a − b). -/
def fSub (a b : F32) : F32 := fAdd a (fNeg b)

/-- rne32(a × b) (R98). -/
def fMul (a b : F32) : F32 :=
  match fdec a, fdec b with
  | .nan, _ => fNaN
  | _, .nan => fNaN
  | .inf x, .inf y => fInf (x != y)
  | .inf x, .fin n m _ => if m = 0 then fNaN else fInf (x != n)
  | .fin n m _, .inf y => if m = 0 then fNaN else fInf (n != y)
  | .fin n1 m1 e1, .fin n2 m2 e2 => frnd (n1 != n2) (m1 * m2) (e1 + e2)

/-- Quotient of two magnitudes with a sticky bit, wide enough to round once. -/
def divSticky (m1 m2 : Nat) : Nat :=
  let n := m1 * 2 ^ 60
  2 * (n / m2) + (if n % m2 = 0 then 0 else 1)

/-- IEEE binary32 division (R102, R264). -/
def fDiv (a b : F32) : F32 :=
  match fdec a, fdec b with
  | .nan, _ => fNaN
  | _, .nan => fNaN
  | .inf _, .inf _ => fNaN
  | .inf x, .fin n _ _ => fInf (x != n)
  | .fin n _ _, .inf y => frnd (n != y) 0 0
  | .fin n1 m1 e1, .fin n2 m2 e2 =>
    if m2 = 0 then (if m1 = 0 then fNaN else fInf (n1 != n2))
    else if m1 = 0 then frnd (n1 != n2) 0 0
    else frnd (n1 != n2) (divSticky m1 m2) (e1 - e2 - 61)

/-- Integer square root, bit by bit from bit f − 1 down. -/
def isqrt (n : Nat) : Nat → Nat → Nat
  | 0, r => r
  | f + 1, r => if (r + 2 ^ f) * (r + 2 ^ f) ≤ n then isqrt n f (r + 2 ^ f) else isqrt n f r

/-- IEEE binary32 square root (R264). -/
def fSqrt (a : F32) : F32 :=
  match fdec a with
  | .nan => fNaN
  | .inf false => fInf false
  | .inf true => fNaN
  | .fin n m e =>
    if m = 0 then frnd n 0 0
    else if n then fNaN
    else
      let m' := if e % 2 = 0 then m else 2 * m
      let e' := if e % 2 = 0 then e else e - 1
      let s := m' * 2 ^ 60
      let r := isqrt s 48 0
      frnd false (2 * r + (if r * r = s then 0 else 1)) (e' / 2 - 31)

/-- An order key of a number: a rises with the value, and +0 ranks above −0 (R151). -/
def fKey (x : F32) : Int := if x.getLsbD 31 then -1 - ((x &&& 0x7FFFFFFF#32).toNat : Int) else (x.toNat : Int)

/-- a < b as numbers; false with a NaN; −0 equals +0. -/
def fLt (a b : F32) : Bool :=
  if fIsNaN a || fIsNaN b then false
  else if (a &&& 0x7FFFFFFF#32) == 0 && (b &&& 0x7FFFFFFF#32) == 0 then false
  else decide (fKey a < fKey b)

/-- MAX: the canonical NaN if either is NaN; +0 above −0 (R151, R264). -/
def fMax (a b : F32) : F32 := if fIsNaN a || fIsNaN b then fNaN else if fKey a < fKey b then b else a

/-- MIN: the canonical NaN if either is NaN; +0 above −0 (R264). -/
def fMin (a b : F32) : F32 := if fIsNaN a || fIsNaN b then fNaN else if fKey b < fKey a then b else a

/-- rne32 of an integer. -/
def fOfInt (i : Int) : F32 := frnd (i < 0) i.natAbs 0

/-- rne32 of a natural number. -/
def fOfNat (n : Nat) : F32 := frnd false n 0

/-- The FP32 written by FP32 to FP32: unchanged, a NaN canonical (R99). -/
def fCanon (x : F32) : F32 := if fIsNaN x then fNaN else x

/-- The constants c_7 down to c_0 of exp32: FP32 nearest to (ln 2)^k / k! (R145). -/
def expCoeffs : List F32 :=
  [0x39218489#32, 0x3AAEC3FF#32, 0x3C1D955B#32, 0x3D635847#32, 0x3E75FDF0#32, 0x3F317218#32, 0x3F800000#32]

/-- exp32 (R145). -/
def exp32 (v : F32) : F32 :=
  if fIsNaN v then fNaN
  else
    let t := fMul v 0x3FB8AA3B#32
    match fdec t with
    | .nan => fNaN
    | .inf neg => if neg then fZero else fInf false
    | .fin n m e =>
      if !fLt t 0x43000000#32 then fInf false
      else if fLt t 0xC3170000#32 then fZero
      else
        let i := rneInt n m e
        let f := fval (exactAdd n m e (i ≥ 0) i.natAbs 0)
        let p := expCoeffs.foldl (fun p c => fAdd (fMul p f) c) 0x377FE5FE#32
        match fdec p with
        | .fin pn pm pe => frnd pn pm (pe + i)
        | _ => p

/-- sigmoid32 (R146). -/
def sigmoid32 (z : F32) : F32 := fDiv fOne (fAdd fOne (exp32 (fNeg z)))

/-- ReLU² (R146). -/
def relu2 (v : F32) : F32 :=
  if fIsNaN v then fNaN
  else
    let m := if fLt fZero v then v else fZero
    fMul m m

/-- SiLU (R146). -/
def silu (v : F32) : F32 := if fIsNaN v then fNaN else fMul v (sigmoid32 v)

/-- GELU-tanh (R146). -/
def geluTanh (v : F32) : F32 :=
  if fIsNaN v then fNaN
  else
    let a := fMul (fMul v v) v
    let z := fMul 0x3FCC422A#32 (fAdd v (fMul 0x3D372713#32 a))
    fMul v (sigmoid32 z)

/-- 2^k as FP32, exactly, for a scale code E of E8M0; 255 is NaN (R96, R99). -/
def e8m0Value (code : Nat) : F32 := if code = 255 then fNaN else frnd false 1 ((code : Int) - 127)

/-- Comparison of two non-negative exact values: m1·2^e1 < m2·2^e2. -/
def dyLt (m1 : Nat) (e1 : Int) (m2 : Nat) (e2 : Int) : Bool :=
  let e := min e1 e2
  decide (m1 * 2 ^ (e1 - e).toNat < m2 * 2 ^ (e2 - e).toNat)

/-- Pairwise reduction of one level (R134): a lone node passes up, and an empty child passes the other. -/
def treeLevel {α : Type} (f : α → α → α) : List (Option α) → List (Option α)
  | [] => []
  | [x] => [x]
  | a :: b :: r =>
    (match a, b with
      | none, y => y
      | some x, none => some x
      | some x, some y => some (f x y)) :: treeLevel f r

/-- The fixed binary tree over leaves in index order (R134); the fuel is the number of levels allowed. -/
def treeReduce {α : Type} (f : α → α → α) (l : List (Option α)) : Option α :=
  go l.length l
where
  /-- One level after another until one node is left. -/
  go : Nat → List (Option α) → Option α
    | _, [] => none
    | _, [x] => x
    | 0, x :: _ => x
    | n + 1, l => go n (treeLevel f l)

end Sys2Proof.Machine
end

