-- ==== Sys2Proof/Machine/State.lean ====
section
/-! DEFINITION. The state of the block, as plain data, the reasons a step can stop, and the state after reset. -/

namespace Sys2Proof.Machine

/-- Faults: none is raised. Every command of the table has an effect the spec gives, or is an event that cannot happen
in the state and changes nothing (DESIGN CHOICE, log entry 8); the type keeps one name for a state outside the spec's address map. -/
inductive Fault where
  /-- No meaning raises it; safe. -/
  | outsideAddressMap
  deriving DecidableEq, Repr

/-- Refusals: only for a command without a meaning. -/
inductive Refusal where
  /-- A row of the table that has no meaning yet; the dispatch alone raises it; safe. -/
  | notModelled (mnemonic : String)
  deriving DecidableEq, Repr

/-! Descriptors (R95, R96, R121). -/

/-- Element types (Table NUM-1). -/
inductive EType where
  | int4 | int8 | act8 | e4m3 | e5m2 | bf16 | fp16 | fp32 | int32
  deriving DecidableEq, Repr

/-- Scale formats (Table NUM-2). -/
inductive SType where
  | none | fp16 | e8m0
  deriving DecidableEq, Repr

/-- A validated tensor descriptor (Table NUM-7). Sizes are those of dimensions 1 to NDIM − 1; strides, in 16-byte units,
those of dimensions 0 to NDIM − 1. -/
structure Desc where
  handle : Nat
  esc : Bool
  ndim : Nat
  etype : EType
  base : Nat
  block : Nat
  wr : Bool
  stype : SType
  scaleBase : Nat
  channels : Nat
  sideBase : Nat
  sizes : List Nat
  strides : List Nat
  deriving DecidableEq, Repr

/-! Threads (R214). -/

/-- Thread states (Table SPM-10). -/
inductive ThreadState where
  | idle | ready | waiting | halted | stopping
  deriving DecidableEq, Repr

/-- Tag states (R226). -/
inductive TagState where
  | free | pending | done | faulted
  deriving DecidableEq, Repr

/-- A loop stack entry (R224). -/
structure LoopEntry where
  start : Nat
  stop : Nat
  count : Nat
  deriving DecidableEq, Repr

/-- What holds a WAITING thread (R214). -/
inductive HoldKind where
  | waitAll | waitAny | fence | descDrop | tstart | punload | sweep
  deriving DecidableEq, Repr

/-- An instruction held at issue, with its words (R227, R229, R230, R239, R240, R260). -/
structure Held where
  kind : HoldKind
  words : List Word64
  deriving DecidableEq, Repr

/-- The state of one hardware thread (Table SPM-2). Registers, predicates and descriptor slots that are not listed
hold 0, or are empty. -/
structure Thread where
  g : List (Nat × Word64) := []
  p : List (Nat × Bool) := []
  d : List (Nat × Option Desc) := []
  pc : Word32 := 0
  loops : List LoopEntry := []
  tm : Bool := false
  tra : Word32 := 0
  prio : Nat := 0
  priv : Bool := false
  program : Nat := 0
  tagBase : Nat := 0
  tagCount : Nat := 0
  state : ThreadState := .idle
  held : Option Held := none
  /-- The step number a FORECAST with FIRST latched (R274). -/
  stepNo : Nat := 0
  deriving DecidableEq, Repr

/-- A loaded program (Table SPM-9, R238). -/
structure Program where
  id : Nat
  firmware : Bool
  target : Nat
  svn : Nat
  codeWords : Nat
  trapEntry : Option Nat
  entries : List (Option Nat)
  tagBases : List Nat
  tagCounts : List Nat
  prios : List Nat
  /-- The address of its first code word. -/
  codeBase : Nat
  dataHandle : Nat
  dataBase : Nat
  /-- SHA-512 of its image (R423). -/
  digest : Nat := 0
  deriving DecidableEq, Repr

/-! Memory (R276 to R306). -/

/-- An allocation (R278). -/
structure Alloc where
  handle : Nat
  kind : Nat
  program : Nat
  base : Nat
  size : Nat
  deriving DecidableEq, Repr

/-- Bank states (Table MEM-5), in their codes' order. -/
inductive BankState where
  | on | retention | off
  deriving DecidableEq, Repr

/-- A bank's control state (R283, R285, R286). No owner written: the owner of Table MEM-3. -/
structure Bank where
  request : BankState := .on
  current : BankState := .on
  moving : Option BankState := none
  reverse : Option BankState := none
  owner : Option Nat := none
  deriving DecidableEq, Repr

/-- Device memory, its allocations and its protection. Bytes, fill marks, poisoned lines and banks that are not
listed hold 0, 0, not poisoned and the state after reset. -/
structure Mem where
  cells : List Host.Cell := []
  allocs : List Alloc := []
  /-- Loaded code as program id, base and bytes (R238). -/
  code : List (Nat × Nat × Nat) := []
  /-- Fill marks by granule base address (R280). -/
  fills : List (Nat × Nat) := []
  /-- Poisoned 64-byte lines by line number (R303). -/
  poison : List (Nat × Bool) := []
  /-- Times of recent poisonings, and of replays per link, in halves of a step (R306). -/
  poisonTimes : List Nat := []
  replayTimes : List (Nat × List Nat) := []
  banks : List (Nat × Bank) := []
  /-- Retired 64 KiB bank segments by base address (R460, R463). -/
  segments : List Nat := []
  /-- Segments left untested by a stopped Downpour, held as if retired (R463). -/
  untested : List Nat := []
  /-- The partition: built, staging GiB and KV GiB in use, and GiB of DRAM withheld (R290, R463, R472). -/
  partLock : Bool := false
  stageCur : Nat := 0
  kvCur : Nat := 0
  withheld : List Nat := []
  /-- The GiB of DRAM that the partition's parts take, in its order; by default each in its place (R290). -/
  gibs : List Nat := []
  /-- A requested partition that the health record holds, if any (R290). -/
  partRequest : Option (Nat × Nat) := none
  /-- The DRAM hash's draw (R287): a free value's number, drawn at cold start; none before. -/
  hashDraw : Option Nat := none
  deriving DecidableEq, Repr

/-! Transactions (R226, R230): their operands are latched at issue. -/

/-- Row reductions (R149 to R152). -/
inductive RedKind where
  | sum | sumsq | meanvar | max | absmax | topk
  deriving DecidableEq, Repr

/-- A load plan record (Table STI-5). -/
structure Plan where
  layer : Nat
  expert : Nat
  inst : Nat
  lead : Nat
  place : Nat
  gmode : Nat
  first : Nat
  ngroups : Nat
  role : Nat
  sparse : Nat
  reprune : Bool
  routed : Bool
  tile0 : Nat
  ntiles : Nat
  outvec0 : Nat
  inwidth : Nat
  inelem0 : Nat
  keepBase : Nat
  escBase : Nat
  rrecBase : Nat
  keepOut : Nat
  fcParams : Nat
  fcB : Bool
  fcE : Nat
  fcG : Nat
  /-- Bits that must be 0 and are not (checks of Table STI-6). -/
  reservedOk : Bool
  deriving DecidableEq, Repr

/-- A SWEEP with the values it read at issue (Table STI-7). -/
structure SweepOp where
  layer : Nat
  place : Nat
  gsize : Nat
  auto : Bool
  fidelity : Bool
  acc : Bool
  sweepNo : Nat
  din : Desc
  d0 : Option Desc
  d1 : Option Desc
  ds : Option Desc
  dr : Option Desc
  db : Option Desc
  disp : Option Nat
  actWords : Option Nat
  tokMask : Option Nat
  chMask : Option Nat
  inrow : Bool
  act : Nat
  stat : Nat
  topk : Nat
  qrow : Bool
  escMax : Nat
  ratio : Nat
  send : Nat
  sess : Nat
  stream : Nat
  deriving DecidableEq, Repr

/-- A ROUTE with the values it read at issue (R271). -/
structure RouteOp where
  dl : Desc
  dp : Desc
  dg : Desc
  di : Desc
  dc : Desc
  sigmoid : Bool
  layer : Nat
  k : Nat
  table : Nat
  tokMask : Option Nat
  /-- Instance counts per expert and CAP_FACTOR, latched at issue. -/
  instances : List Nat
  capFactor : Nat
  deriving DecidableEq, Repr

/-- A FORECAST with the values it read at issue (R274). -/
structure ForecastOp where
  din : Desc
  dc : Desc
  dh : Desc
  dsc : Desc
  alayer : Nat
  blayer : Nat
  actBase : Nat
  fidelity : Bool
  /-- FIRST of R274, and the step number latched for the thread when it entered the queue. -/
  first : Bool
  stepNo : Nat := 0
  /-- Which of its sweeps is under way (R274): 0, 1, or 2 when both are done. -/
  stage : Nat := 0
  deriving DecidableEq, Repr

/-- The work of a transaction. -/
inductive TxOp where
  | pload (addr id : Nat)
  | dmaCopy (src dst : Desc)
  | storeRead (dst : Desc) (object unit : Nat)
  | storeWrite (src : Desc) (object unit : Nat)
  | netSend (src : Desc) (session typ : Nat) (last : Bool)
  | netRecv (dst : Desc) (session receipt : Nat)
  | load (src : Desc) (plan : Plan)
  | unload (regions : List Nat)
  | sweep (op : SweepOp)
  | vbin (fn bc : Nat) (a b d : Desc)
  | vun (fn : Nat) (a d : Desc)
  | vcvt (escMax ratio : Nat) (given : Bool) (a d : Desc)
  | vscale (a b : Desc)
  | vfill (v : Word32) (d : Desc)
  | red (kind : RedKind) (k : Nat) (a d : Desc)
  | gather (src idx dst : Desc)
  | scatterAdd (src idx dst : Desc) (gate : Option Desc) (skip : Bool)
  | xpose (src dst : Desc)
  | route (op : RouteOp)
  | forecast (op : ForecastOp)
  | tokenize (a d : Desc) (handles : Nat)
  | detokenize (a d : Desc) (handles : Nat)
  | sample (a d : Desc) (handles : Nat) (topk : Bool)
  | bind (a : Option Desc) (district : Nat) (fidelity : Bool) (handles : Nat)
  | kvmap (d : Desc) (positions handles : Nat)
  | sessClose (reason handles : Nat)
  deriving DecidableEq, Repr

/-- A transaction in flight: its conductor, tag, thread, the word offset of its instruction, whether it has
faulted softly (R232), and a failure met on the way (event, INFO0, INFO1). -/
structure Tx where
  c : Nat
  tag : Nat
  k : Nat
  pc : Nat
  op : TxOp
  /-- The issuing thread's descriptor slots it names (R230). -/
  slots : List Nat := []
  soft : Bool := false
  fault : Option (Nat × Nat × Nat) := none
  /-- What a LOAD whose rows are written will report at its end (R108, R175): quads re-pruned, escapes without a table. -/
  noted : Nat × Nat := (0, 0)
  /-- Bytes of its image that a DMA.COPY has moved before a soft fault (R249, R299). -/
  moved : Nat := 0
  deriving DecidableEq, Repr

/-! Events and pins (R495, R510 to R514). -/

/-- An event record (Table REG-4); the time of the first raise is kept in halves of a step, 152 to an AO tick. -/
structure EvRecord where
  code : Nat
  count : Nat
  seq : Nat
  time : Nat
  info0 : Nat
  info1 : Nat
  kind : Nat
  loc : Nat
  handle : Nat
  deriving DecidableEq, Repr

/-- One interface's record window (Table REG-5): the selected SEQ and the copy loaded. -/
structure EvSet where
  sel : Nat := 0
  rstate : Nat := 0
  copy : List Nat := []
  deriving DecidableEq, Repr

/-- The event log and the EVENT block's state. The ring holds its records oldest first. -/
structure EventLog where
  ring : List EvRecord := []
  head : Nat := 0
  overwritten : Nat := 0
  alert : BitVec 14 := 0
  mask : BitVec 14 := 0
  sets : List (Nat × EvSet) := []
  deriving DecidableEq, Repr

/-- The pins of Table ELE-4 that the block drives or reads (R495). -/
structure Pins where
  resetN : Bool := true
  powerGood : Bool := false
  alertN : Bool := true
  thermTripN : Bool := true
  deriving DecidableEq, Repr

/-- Elements that saturated, were NaN, were clamped, or were orphaned escapes (R100, R131). -/
structure Counts where
  sat : Nat := 0
  nan : Nat := 0
  clamp : Nat := 0
  orphan : Nat := 0
  deriving DecidableEq, Repr

/-! Arrays (R16, R23, R57 to R91, R109, R114, R167, R252 to R257). -/

/-- A column's trim word (Table CAL-1). -/
structure TrimWord where
  gain : Nat := 512
  offset : Int := 0
  state : Nat := 0
  fails : Nat := 0
  spare : Nat := 15
  /-- The trim factor's code at the last load-time trim (R70). -/
  base : Nat := 512
  deriving DecidableEq, Repr

/-- A column's Weathervane state (Table CAL-9); means are in 2^−16. -/
structure Weathervane where
  mean : Int := 0
  msq : Int := 0
  baseMean : Int := 0
  baseDev : Nat := 0
  qualified : Nat := 0
  sat : Nat := 0
  env : Nat := 0
  words : Nat := 0
  stuck : Nat := 0
  lastCode : Nat := 0
  lastDrive : Nat := 0
  drives : Nat := 0
  /-- R86: drift declared, a successful recalibration since, qualifying words since that; an envelope excess waiting for
  its recalibration, and the time of that recalibration. -/
  drifting : Bool := false
  recalled : Bool := false
  persist : Nat := 0
  envDue : Bool := false
  envAt : Option Nat := none
  /-- Times at which cells were found wrong (R83); entries older than 24 h age out. -/
  cksum : List Nat := []
  deriving DecidableEq, Repr

/-- A spare column's use (Table REG-3, space 7). -/
structure SpareUse where
  fused : Bool := false
  inUse : Bool := false
  column : Nat := 255
  spent : Bool := false
  deriving DecidableEq, Repr

/-- A remap under way (R89): its column, spare, and whether it is trimmed and waits for the switch. -/
structure Remap where
  column : Nat
  spare : Nat
  trigger : Nat
  fetched : Bool := false
  deriving DecidableEq, Repr

/-- A macro pair. Bitcell values (2 bits a column, upper plane the higher) and A levels are by row × 512 + column, columns
256 to 267 being spares and 268 to 271 barometers; a cell not listed holds 0, a barometer cell its pattern (Table CAL-4). Row
parities and checksums are by row; one not listed is that of a row without weights. -/
structure Pair where
  d : List (Nat × Nat) := []
  a : List (Nat × Nat) := []
  parity : List (Nat × Nat) := []
  cksum : List (Nat × Nat) := []
  /-- The rows as LOAD wrote them, in their copy in staging or the store (R36, R83, R89): 4 × D value + A level by row × 512 +
  logical column. -/
  image : List (Nat × Nat) := []
  /-- The masks as LOAD wrote them (R169). -/
  maskImage : List (Nat × Nat) := []
  /-- Lo-sums (R64) by 32-row half × 512 + column. -/
  los : List (Nat × Nat) := []
  /-- What the last word left (Table MAC-1): accumulators by column; sample capacitors and delay-line integrators by column × 2 +
  the one of the two that the word used, in 1/256 of a cell's charge; and which of the two is next. -/
  acc : List (Nat × Int) := []
  caps : List (Nat × Nat) := []
  delays : List (Nat × Nat) := []
  turn : Bool := false
  trims : List (Nat × TrimWord) := []
  glim : Nat := 0
  tCal : Int := 0
  /-- Time of the last successful trim or recalibration, in halves of a step; none reads as age 0xF_FFFF. -/
  calAt : Option Nat := none
  gcor2 : List (Nat × Int) := []
  gcor4 : List (Nat × Int) := []
  wv : List (Nat × Weathervane) := []
  /-- Barometer running means and their values at the last trim, in 2^−16 (R68). -/
  baro : List (Nat × (Int × Int)) := []
  spares : List (Nat × SpareUse) := []
  remaps : List Remap := []
  /-- Mask words 0 to 127 and group status words 128 to 159 (R167). -/
  masks : List (Nat × Nat) := []
  zeroWords : Nat := 0
  clips : List (Nat × Nat) := []
  forced : Nat := 0
  /-- Refresh (R79 to R81): band 0 to 3, the time from which readings allow a fall, rows under refresh,
  rows due, the step of each row's last refresh, and rows queued for reload. -/
  band : Nat := 0
  coolSince : Option Nat := none
  refreshing : List Nat := []
  due : List Nat := []
  refreshed : List (Nat × Nat) := []
  reloads : List Nat := []
  /-- Recalibration (R70, R71): a pass in progress, due with its trigger, earliest retry. -/
  recal : Option Nat := none
  recalDue : Option Nat := none
  retryAt : Nat := 0
  /-- Converter 64 has failed: barometer drift is no longer tracked (Table TST-2). -/
  baroBad : Bool := false
  deriving DecidableEq, Repr

/-- A tile side entry (Table NUM-5). -/
structure SideEntry where
  kind : Nat
  row : Nat
  pair : Nat
  column : Nat
  value : Nat
  deriving DecidableEq, Repr

/-- A tile: side list, outlier row cache (most recent first, by pair × 2048 + row) and its counters, temperature
in 0.25 degree. -/
structure Tile where
  side : List (Nat × Option SideEntry) := []
  cache : List Nat := []
  hits : Nat := 0
  misses : Nat := 0
  temp : Int := 0
  deriving DecidableEq, Repr

/-- Region states (R254, R256, R257, R83). -/
inductive RegionState where
  | loading | resident | reloading | leaving
  deriving DecidableEq, Repr

/-- A row region of the residency map (R52, R256) on one tile. Scales and zero-point terms are by group × 256 +
column, gains by 32-column group with the counts of their two windows (R77). -/
structure Region where
  id : Nat
  tile : Nat
  lead : Nat
  place : Nat
  gmode : Nat
  first : Nat
  ngroups : Nat
  layer : Nat
  expert : Nat
  inst : Nat
  routed : Bool
  role : Nat
  masked : Bool
  /-- The plan record's SPARSE and REPRUNE (R256). -/
  sparse : Nat := 0
  reprune : Bool := false
  outvec0 : Nat
  inelem0 : Nat
  inwidth : Nat
  fcB : Bool
  fcE : Nat
  fcG : Nat
  fcParams : Nat
  state : RegionState
  /-- Rows written and trimmed, waiting only for a spare (R63). -/
  written : Bool := false
  ws : List (Nat × F32) := []
  z : List (Nat × Int) := []
  /-- Gain, whether a conversion clipped since it was set, and conversions since the last clip and the last high code. -/
  gauto : List (Nat × (Nat × Bool × Nat × Nat)) := []
  /-- Its share rank (R389). -/
  rank : Nat := 0
  deriving DecidableEq, Repr

/-- A word of a sweep that Feed is to drive (R34): its region, group, input row and output row. -/
structure WordKey where
  region : Nat
  g : Nat
  inRow : Nat
  outRow : Nat
  deriving DecidableEq, Repr

/-- The group values of a word as Combine sent them to Gather (R113, R133): its tile, output row, first output column and one
value for each of its 256 columns, none for a column predicted inactive. -/
structure WordOut where
  tile : Nat
  /-- Its region's share rank (R389). -/
  rank : Nat := 0
  row : Nat
  col0 : Nat
  vals : List (Option F32)
  deriving DecidableEq, Repr

/-- A received fused stream (R159): the tiles accepted under its highest ATTEMPT, as first row, vector, ROWMASK and rows. -/
structure FusedStream where
  stream : Word32
  attempt : Nat
  tiles : List (Nat × Nat × Word32 × List (List Word32))
  deriving DecidableEq, Repr

/-- A started sweep (R20, R33 to R47, R60, R133 to R137): words not yet driven and the number of the next, the first of its free
values, the trims latched by pair, the group values so far, the output rows; when no word is left, its Tree sums by output row. Then the
activity words in force by row, clips with the lowest pair that clipped, orphaned escapes, the first poisoned line read, and per region ×
8 + 32-column group the conversions: number, whether one clipped, and how many followed the last clip and the last code above the
doubling limit (R77). For a deferred sweep whose Finish has begun: the values held by row, and the counts of what its first two
outputs met (R154). For a layer combined over a front: the share ranks, the one its rows are of, and the streams of the others (R391). -/
structure SweepWork where
  num : Nat
  todo : List WordKey := []
  next : Nat := 0
  draws : Nat := 0
  latched : List (Nat × Pair) := []
  outs : List WordOut := []
  outRows : List Nat := []
  rows : List (Nat × List F32) := []
  held : Option (List (Nat × List F32)) := none
  early : Counts := {}
  act : List (Nat × Nat) := []
  clips : Nat := 0
  clipAt : Option Nat := none
  orphan : Nat := 0
  poison : Option Nat := none
  conv : List (Nat × (Nat × Bool × Nat × Nat)) := []
  shares : Option (Nat × Nat × List (Nat × FusedStream)) := none
  /-- In a front: the share rank that its rows are of, and the rows of the other share ranks this member holds (R391, R399). -/
  own : Nat := 0
  leaves : List (Nat × List (Nat × List F32)) := []
  deriving DecidableEq, Repr

/-- The sweep pipeline (R21, R154 to R157, R260): transactions by conductor × 512 + tag. -/
structure Sweeps where
  queue : List Nat := []
  array : Option Nat := none
  /-- The sweep in the array is held at the start of its Feed stage (R74). -/
  stalled : Bool := false
  work : List SweepWork := []
  finishing : List Nat := []
  /-- SWEEPs and FORECASTs held at issue, with the values they read (R260): not yet transactions. -/
  waiting : List Tx := []
  /-- Second sweeps of FORECASTs that wait for a queue slot (R274). -/
  seconds : List Nat := []
  /-- B layers by activity word base, as FORECAST wrote them (R203, R208). -/
  actOwners : List (Nat × Nat) := []
  /-- The deferred sweep that owns the hold space (R156), and those waiting for it. -/
  hold : Option Nat := none
  /-- Row scales formed (R154): sweep, row, scale. -/
  rowScales : List (Nat × Nat × F32) := []
  /-- Output tiles handed to the Pelet engine: sweep, first row, first vector, count (R157). -/
  sentTiles : List (Nat × Nat × Nat × Nat) := []
  /-- Threads whose SWEEP waits, as conductor × 8 + thread, in order of waiting (R21). -/
  rotation : List Nat := []
  deriving DecidableEq, Repr

/-- Forecast's per-layer values and audit sums (R207 to R209). -/
structure ForecastLayer where
  theta : Nat := 0
  delta : Nat := 0
  thetaMin : Nat := 0
  thetaMax : Nat := 0
  sumA : Nat := 0
  sumM : Nat := 0
  sumK : Nat := 0
  audits : Nat := 0
  /-- A threshold that applies from the next token step (R209). -/
  next : Option Nat := none
  deriving DecidableEq, Repr

/-- The arrays of the module: pairs by tile × 48 + pair and tiles by number; any not listed are as at reset. -/
structure Arrays where
  pairs : List (Nat × Pair) := []
  tiles : List (Nat × Tile) := []
  regions : List Region := []
  nextRegion : Nat := 0
  sweeps : Sweeps := {}
  forecast : List (Nat × ForecastLayer) := []
  /-- The module-wide token step counter of R207. -/
  stepNo : Nat := 0
  /-- Latched token steps to re-execute, by reason (R78, R83, R304). -/
  replays : List (Nat × Nat) := []
  streams : List FusedStream := []
  /-- Mirrors resident that join their expert at the next token step boundary (R200): layer, expert, instance. -/
  joining : List (Nat × Nat × Nat) := []
  deriving DecidableEq, Repr

/-! KV pages, soft faults and the attention engine (R291 to R300, R307 to R314). -/

/-- A page table entry (Table MEM-9): STATE 0 unmapped, 1 in DRAM, 2 spilled, 3 fetching. -/
structure Pte where
  state : Nat := 0
  fill : Nat := 0
  loc : Nat := 0
  /-- Entries written beyond FILL, out of order (R295). -/
  early : List Nat := []
  deriving DecidableEq, Repr

/-- A page fetch (R298): its key, the transactions that wait (conductor × 512 + tag), the attention jobs that wait. -/
structure Fetch where
  key : Nat
  waiting : List Nat := []
  jobs : List Nat := []
  deriving DecidableEq, Repr

/-- An attention job (R308): its record's offset in 64-byte units, whether it runs, the soft faults it took, and the indices of
its sessions whose page was lost (R314). -/
structure Job where
  offset : Nat
  running : Bool := false
  soft : Nat := 0
  lost : List Nat := []
  deriving DecidableEq, Repr

/-- KV pages and fetches. Entries are by session index × 2^20 + entry number; a fetch key below 2^32 is a staging page's
DRAM page number, and 2^32 + session index × 2^20 + entry a KV page's. -/
structure Kv where
  ptes : List (Nat × Pte) := []
  /-- KV pages in use, by DRAM page number. -/
  used : List Nat := []
  /-- Page images in spill slots. -/
  slots : List (Nat × List Byte) := []
  fetches : List Fetch := []
  /-- The DRAM pages of each staged district's image, in its order; and those of them that are not staged (R184, R297). -/
  images : List (Nat × List Nat) := []
  unstaged : List Nat := []
  /-- Staging pages that the fill after ready has still to read (R474). -/
  filling : List Nat := []
  jobs : List Job := []
  /-- KVAPPEND destinations by allocation handle: each row's session slot and position (R295). -/
  appends : List (Nat × List (Nat × Nat)) := []
  deriving DecidableEq, Repr


/-! Sessions and the port (R342 to R379). -/

/-- Session states (Table NET-11). -/
inductive SessState where
  | free | handshake | opened | closing | suspended
  deriving DecidableEq, Repr

/-- A Pelet datagram that leaves the module. Level is the pacer's, 0 the highest (R357); ECN 2 is ECT(0) (R348). -/
structure Packet where
  level : Nat
  addr : Nat
  port : Nat
  typ : Nat
  flags : Nat
  handle : Nat
  seq : Nat
  ack : Nat
  sack : Nat
  window : Nat
  payload : List Byte
  dscp : Nat := 0
  ecn : Nat := 2
  deriving DecidableEq, Repr

/-- A data datagram: one of this side's from queueing to acknowledgement, or a received one whose message is not whole
(R351, R355). Flags hold FLAGS bits [15:13] in place. -/
structure Dgram where
  seq : Nat
  typ : Nat
  flags : Nat
  payload : List Byte
  sends : Nat := 0
  sentAt : Nat := 0
  /-- Datagrams of higher SEQ acknowledged since it was sent. -/
  passed : Nat := 0
  /-- Waits to be sent or resent. -/
  due : Bool := true
  /-- The sealed copy kept for resending (R350). -/
  sealed : Option Packet := none
  deriving DecidableEq, Repr

/-- A whole message received, with the SEQ of its first datagram. -/
structure Message where
  typ : Nat
  seq : Nat
  last : Bool
  payload : List Byte
  deriving DecidableEq, Repr

/-- A session (Tables MEM-8, NET-11) with the transport's and the services' working state. -/
structure Session where
  state : SessState := .free
  gen : Nat := 0
  pos : Nat := 0
  maxctx : Nat := 0
  /-- Page-table pages by DRAM page number. -/
  ptPages : List Nat := []
  addr : Nat := 0
  port : Nat := 0
  kind : Nat := 0
  /-- The program it belongs to; none where every program may use it (R251, R252). -/
  program : Option Nat := none
  fidelity : Bool := false
  replay : Bool := false
  ipv4 : Bool := false
  generating : Bool := false
  auto : Bool := false
  district : Nat := 0xFFFF
  pmtu : Nat := 1280
  txNext : Nat := 1
  txUna : Nat := 1
  ackNext : Nat := 1
  rxNext : Nat := 1
  /-- The bound of check 3 of Table NET-7: ACK + WINDOW as last advertised. -/
  rxLimit : Nat := 1
  /-- The highest SEQ received (R353). -/
  rxHigh : Nat := 0
  parts : List Dgram := []
  inbox : List Message := []
  /-- Data datagrams received since the last acknowledgement, and when the first came (R354). -/
  ackOwed : Nat := 0
  ackSince : Nat := 0
  cwnd : Nat := 0
  peerWindow : Nat := 0
  /-- SRTT and RTTVAR in eighths of a microsecond. -/
  srtt : Nat := 0
  rttvar : Nat := 0
  expiries : Nat := 0
  /-- Time of the last decrease of CWND, and whether a loss made it (R356). -/
  cutAt : Option (Nat × Bool) := none
  ece : Bool := false
  cwr : Bool := false
  /-- Earliest time of its next datagram (R356), and of its next zero-window probe (R354). -/
  nextSend : Nat := 0
  probeAt : Nat := 0
  out : List Dgram := []
  /-- AO ticks. -/
  lastActive : Nat := 0
  idleS : Nat := 0
  maxNew : Nat := 4096
  temperature : F32 := 0x3F800000
  topP : F32 := 0x3F800000
  repPenalty : F32 := 0x3F800000
  topK : Nat := 0
  repWindow : Nat := 0
  generated : Nat := 0
  pending : Nat := 0
  stopTok : List Nat := []
  stopStr : List (List Byte) := []
  streamEvery : Nat := 1
  reqId : Nat := 0
  carry : List Byte := []
  hold : List Byte := []
  /-- Tokens of the context by position, context bytes received and not yet tokenised, whether a GENERATE forces CARRY out,
  and since when the session has been ready. -/
  tokens : List Nat := []
  text : Nat := 0
  force : Bool := false
  since : Nat := 0
  /-- Generated bytes not yet sent, and tokens since the last STREAM. -/
  fresh : List Byte := []
  sinceStream : Nat := 0
  /-- The OPEN as received or sent, its time, and an opener's resends (R362, R363). -/
  opener : Bool := false
  openReq : List Byte := []
  openedAt : Nat := 0
  resends : Nat := 0
  /-- The other side's handle and rank in a PEER session (R363, R385). -/
  peerHandle : Nat := 0
  rank : Nat := 0
  closeStatus : Nat := 0
  closeExpiries : Nat := 0
  /-- The key entry (R425): VALID, K and NB. -/
  keyed : Bool := false
  key : Nat := 0
  nb : Nat := 0
  /-- The draw of an opener's ephemeral key until its ACCEPT, and the ACCEPT that answered an OPEN (R361 to R363). -/
  eph : Nat := 0
  accepted : Option Packet := none
  /-- OWNER_PUB of a claim that waits for its first datagram (R414). -/
  claim : Option (List Byte) := none
  deriving DecidableEq, Repr

/-- A slot's history (R359): the next generation, and when and how it was released. -/
structure SlotHist where
  gen : Nat := 1
  freedAt : Option Nat := none
  wrapped : Bool := false
  deriving DecidableEq, Repr

/-- An admitted OPEN that waits for Chevik (R365): arrival in AO ticks. -/
structure HsEntry where
  tick : Nat
  addr : Nat
  port : Nat
  payload : List Byte
  deriving DecidableEq, Repr

/-- What leaves the port: Pelet, an echo reply, neighbour advertisements and solicitations, a router solicitation, an ARP reply. Every
packet but Pelet's leaves Not-ECT (R348). -/
inductive NetOut where
  | pelet (p : Packet)
  | echo (dst len : Nat)
  | advertise (dst target : Nat)
  | solicit (addr : Nat)
  | routerSolicit
  | arpReply (dst target : Nat)
  deriving DecidableEq, Repr

/-- The port and the session table: sessions and slots by index, not listed where free. -/
structure Net where
  sessions : List (Nat × Session) := []
  slots : List (Nat × SlotHist) := []
  hs : List HsEntry := []
  /-- Datagrams of level 0 that wait for the pacer. -/
  ctl : List Packet := []
  /-- Everything that has left the port, oldest first. -/
  wire : List NetOut := []
  /-- The session last served at each pacer level. -/
  turn : List (Nat × Nat) := []
  pacedAt : Nat := 0
  /-- V6_MODE in force; addresses and routers in use, and addresses under duplicate address detection (R345). -/
  mode6 : Nat := 0
  v6 : Nat := 0
  gw6 : Nat := 0
  v4 : Nat := 0
  gw4 : Nat := 0
  tentative : List Nat := []
  /-- Neighbour and ARP caches, most recently used first. -/
  nd : List (Nat × Nat) := []
  arp : List (Nat × Nat) := []
  echoes : List Nat := []
  /-- Training restarts (R343). -/
  restarts : Nat := 0
  /-- The router's MTU option (R345). -/
  raMtu : Option Nat := none
  deriving DecidableEq, Repr

/-! The batcher and the mirror manager (R182 to R201). -/

/-- A formed token step (R187): its sessions, their prefill tokens (0: decode), its re-executions, and whether it runs as a
headroom replay (R78, R304). -/
structure TokenStep where
  district : Nat
  fidelity : Bool
  sessions : List (Nat × Nat)
  number : Nat
  retries : Nat := 0
  headroom : Bool := false
  deriving DecidableEq, Repr

/-- A district slot (R182): its district, since when resident, and when last stepped. -/
structure DistrictSlot where
  district : Option Nat := none
  since : Nat := 0
  stepped : Nat := 0
  deriving DecidableEq, Repr

/-- A district load (R188 to R190): the district and slot, whether SWITCH_AGE_MS made it a candidate, its start once the
old district's last step is done, and whether it reads staging. -/
structure DistrictLoad where
  district : Nat
  slot : Nat
  aged : Bool
  start : Option Nat := none
  staged : Bool := false
  deriving DecidableEq, Repr

/-- A mirror granted (R199): resident or loading, and for how many windows its expert has wanted fewer. -/
structure Mirror where
  layer : Nat
  expert : Nat
  inst : Nat
  resident : Bool := false
  surplus : Nat := 0
  deriving DecidableEq, Repr

/-- The batcher and the mirror manager. -/
structure Batcher where
  step : Option TokenStep := none
  slots : List DistrictSlot := []
  load : Option DistrictLoad := none
  /-- Districts that SWITCH_AGE_MS has made candidates. -/
  aged : List Nat := []
  /-- Districts with a staged copy, least recently used first (R184). -/
  staged : List Nat := []
  /-- Demand of the window by layer × 256 + expert (R198), and the window's start. -/
  demand : List (Nat × Nat) := []
  windowAt : Nat := 0
  mirrors : List Mirror := []
  /-- Layers' expert counts that ROUTE has seen in the window. -/
  experts : List (Nat × Nat) := []
  /-- The loaded model's manifest root and PKG_SVN, and the delegation it was signed under (0: the owner). -/
  model : Option (Nat × Nat × Nat) := none
  /-- No new step forms while the Lull stands at its maximum, or without the reference clock (R437, R446). -/
  held : Bool := false
  /-- Mirrors that leave at the next token step boundary (R200), and a session to leave out of the next step (R378). -/
  leaving : List (Nat × Nat × Nat) := []
  leaveOut : Option Nat := none
  /-- The policy words in force for the formed step (R211). -/
  inForce : List (Nat × Word32) := []
  deriving DecidableEq, Repr

/-! Chevik (R403 to R432). -/

/-- An owner slot (R406). -/
structure OwnerSlot where
  hash : Nat
  /-- OWNER_SEED. -/
  seed : Nat := 0
  revoked : Bool := false
  deriving DecidableEq, Repr

/-- A delegation (R416). -/
structure Deleg where
  id : Nat
  pubHash : Nat
  model : Nat
  deriving DecidableEq, Repr

/-- Fuses (R406). A secret copy is 0 blank, 1 interrupted, 2 complete with its flag, 3 all blown. -/
structure Fuses where
  secretA : Nat := 0
  secretB : Nat := 0
  groups : Nat := 0
  revoke : BitVec 8 := 0
  fwMin : Nat := 0
  svcMin : Nat := 0
  pkgMin : Nat := 0
  owners : List OwnerSlot := []
  deriving DecidableEq, Repr

/-- A firmware image in the NOR or in a FIRMWARE slot of the store. -/
structure FwImage where
  svn : Nat
  digest : Nat
  deriving DecidableEq, Repr

/-- Security state. -/
structure Sec where
  fuses : Fuses := {}
  delegs : List Deleg := []
  debug : Bool := false
  entropyBad : Bool := false
  /-- The time of the entropy source's last failed test (R405). -/
  entropyAt : Nat := 0
  /-- The DIK public key has been exported for certification (R411). -/
  exported : Bool := false
  /-- The running firmware's digest (R423). -/
  fwDigest : Nat := 0
  /-- Images: NOR slots A and B, and the store's FIRMWARE slots A and B (R421). -/
  nor : List (Nat × FwImage) := []
  store : List (Nat × FwImage) := []
  /-- The boot control record: the ACTIVE slot and a slot marked TRY (R421). -/
  active : Nat := 0
  try_ : Option Nat := none
  /-- The slot the running firmware came from, and whether it was tried (R421). -/
  booted : Nat := 0
  tried : Bool := false
  deriving DecidableEq, Repr

/-! Fronts (R383 to R402). -/

/-- A rank's entry of the configuration (Table FRO-1). -/
structure FrontEntry where
  addr : Nat
  port : Nat
  akHash : Nat
  deriving DecidableEq, Repr

/-- An adopted share (R389, R399, R400): its rank and the member that adopts it, loading until it is done, or not where it does not fit;
once its rank is back, whether its regions are resident there. -/
structure Adoption where
  share : Nat
  by_ : Nat
  done : Bool := false
  fits : Bool := true
  back : Bool := false
  home : Bool := false
  deriving DecidableEq, Repr

/-- A member's front state; its registers hold FSTATE, RANK, SIZE, EPOCH, LIVE and SUSPECT. -/
structure Front where
  entries : List FrontEntry := []
  digest : Nat := 0
  root : Nat := 0
  configuredAt : Nat := 0
  /-- Ranks of the current membership, as bits. -/
  members : Nat := 0
  /-- Last datagram heard from and sent to a rank, and when it was suspected. -/
  heard : List (Nat × Nat) := []
  sent : List (Nat × Nat) := []
  suspectAt : List (Nat × Nat) := []
  /-- The proposal accepted, with its time: NEW_EPOCH, SET. -/
  accepted : Option (Nat × Nat × Nat) := none
  /-- The coordinator's proposal: NEW_EPOCH, SET, ranks that accepted. -/
  proposal : Option (Nat × Nat × Nat) := none
  /-- REJOINs waiting: AO tick and rank. -/
  rejoins : List (Nat × Nat) := []
  adoptions : List Adoption := []
  /-- The last COMMIT seen that excluded this member: its SET. -/
  excluded : Option Nat := none
  /-- Restarted since the front formed; the epoch MGMT wrote (R400). -/
  restarted : Bool := false
  written : Option Nat := none
  /-- The epoch of the REJOIN this member has sent. -/
  asked : Option Nat := none
  stepNo : Nat := 0
  /-- The ATTEMPT of frames (R159, R397). -/
  attempt : Nat := 0
  /-- Frames sent of each stream under this attempt (Table ACC-4). -/
  frames : List (Nat × Nat) := []
  openedAt : List (Nat × Nat) := []
  deriving DecidableEq, Repr

/-! Power and heat (R433 to R455). -/

/-- Power control. -/
structure Power where
  /-- Caps written and not yet effective: owner and board words. -/
  capDue : Bool := false
  /-- Input power readings of the last second, newest first: milliwatts, the microseconds each stands for, and its time. -/
  samples : List (Nat × Nat × Nat) := []
  /-- Input energy in nanojoules not yet in ENERGY, and since when C_S has stood. -/
  energyNano : Nat := 0
  capAt : Nat := 0
  /-- Times of the last Lull, sensor and thermal-ratio updates. -/
  lullAt : Nat := 0
  sensedAt : Nat := 0
  thermAt : Nat := 0
  /-- By stack: the frame in which the bubble ratio last changed, and the ratio that frame still applies (R445). -/
  lulls : List (Nat × (Nat × Nat)) := []
  /-- Microseconds under POW_CAP_LIMIT not yet in CAP_LIMIT_MS. -/
  limitUs : Nat := 0
  /-- Since when L_CAP has stood at 56 with power above target, and whether the limit is declared (R446). -/
  maxSince : Option Nat := none
  limit : Bool := false
  /-- A transition under way, and one that waits for its safe point (R441). -/
  moving : Option PowerTarget := none
  next : Option PowerTarget := none
  /-- Stacks in Breeze. -/
  breeze : List Nat := []
  /-- When Calm was entered, and since when there has been no ready token and no queued sweep (R439). -/
  calmAt : Nat := 0
  idleAt : Nat := 0
  /-- Daily raises by rail (R434). -/
  raised : List (Nat × Nat) := []
  /-- The reference clock is present, and when it was lost (R437). -/
  refclk : Bool := false
  lostAt : Nat := 0
  /-- Droop: level-1 and level-2 entries' times by domain (R448). -/
  droopAt : List (Nat × Nat) := []
  /-- Sensors by number: temperatures in 0.25 °C, those excluded, those at 115 °C at their last reading, and dies whose
  comparator was so (R449, R452). -/
  temps : List (Nat × Option Int) := []
  excluded : List Nat := []
  hot : List Nat := []
  comparators : List Nat := []
  deriving DecidableEq, Repr

/-! Self-test (R456 to R469). -/

/-- A Drizzle slice under way: its place in the pass, and whether it gave way (R458). -/
structure Slice where
  index : Nat
  paused : Bool := false
  deriving DecidableEq, Repr

/-- A health record entry (Table TST-4): its type and its fields in order. -/
structure HEntry where
  typ : Nat
  args : List Nat
  deriving DecidableEq, Repr

/-- The header of a health record or of a batch of running entries (R464). -/
structure HealthHeader where
  kind : Nat
  seq : Nat
  lc : Nat
  count : Nat
  aotime : Nat
  svn : Nat
  hours : Nat
  testMs : Nat
  deriving DecidableEq, Repr

/-- The health area of the NOR (R464, R465). -/
structure Health where
  /-- The latest record's header, and whether a marker has consumed it. -/
  record : Option HealthHeader := none
  consumed : Bool := false
  /-- The headers of the running entries after it: a batch for each, the last entries of `entries`. -/
  batches : List HealthHeader := []
  seq : Nat := 0
  entries : List HEntry := []
  /-- MGMT operations logged with the owner key hash (R380). -/
  ops : List (Nat × Nat) := []
  /-- The default model's root (R473). -/
  autoload : Option Nat := none
  /-- The verdict of the last start's check, for step 4. -/
  skipTest : Bool := false
  deriving DecidableEq, Repr

/-- Drizzle and Downpour. -/
structure SelfTest where
  /-- Next slice of the pass (R456: 80,896 of them), the slice under way, since when the next waits, and the last forced one. -/
  next : Nat := 0
  slice : Option Slice := none
  waitAt : Option Nat := none
  /-- Start of the last slice. -/
  sliceAt : Nat := 0
  forcedAt : Option Nat := none
  holdIssue : Bool := false
  /-- The pass's start, less its time outside Gale and Breeze, and whether it is late (R457). -/
  passAt : Nat := 0
  passLate : Bool := false
  /-- Untested pair test groups and DRAM regions (R463). -/
  groups : List Nat := []
  regions : List Nat := []
  /-- Segments to retire when their allocation is released (R460). -/
  retireLater : List Nat := []
  /-- Downpour: its phase and slice, when it began, and a wake request that waits. -/
  phase : Nat := 0
  step : Nat := 0
  startedAt : Nat := 0
  wake : Bool := false
  /-- The phases under way are those of a parity storm's recovery, 2 and 4 (R479). -/
  storm : Bool := false
  health : Health := {}
  deriving DecidableEq, Repr

/-! The weight store (R317 to R341). -/

/-- A store object (R326). Its key follows its region and its package (R338): `StoreObj.key`. -/
structure StoreObj where
  id : Nat
  region : Nat
  first : Nat
  pages : Nat
  writePoint : Nat
  grants : List Nat := []
  openWrite : Bool := false
  /-- The manifest root of its package, 0 for none, and the package's striping salt (R323, R428). -/
  pkg : Nat := 0
  salt : Nat := 0
  deriving DecidableEq, Repr

/-- An installed package (R326, R422): manifest root, PKG_SVN, model id, the delegation that signed it (0: the owner), the
owner slot whose seed keys it, and its files' objects. -/
structure Package where
  root : Nat
  svn : Nat
  model : Nat
  deleg : Nat
  slot : Nat
  objects : List Nat
  deriving DecidableEq, Repr

/-- A block of a channel: its chip enable, LUN and number. -/
structure NandBlock where
  ce : Nat
  lun : Nat
  block : Nat
  deriving DecidableEq, Repr

/-- The store. Page contents are by object id × 2^40 + byte offset. -/
structure Store where
  formatted : Bool := false
  /-- Channels the format record names, and the block it stands in on each (R320). -/
  recorded : List Nat := []
  recordAt : List (Nat × NandBlock) := []
  /-- LUNs accepted at the last discovery (R318). -/
  luns : List LunReport := []
  /-- The salt of regions other than MODEL, drawn at format (R323). -/
  salt : Nat := 0
  objects : List StoreObj := []
  packages : List Package := []
  data : List Host.Cell := []
  /-- An install under way: its objects (R326). -/
  install : Option (List Nat) := none
  /-- Accepted LUNs' geometry: pages per block, slots per page, rated cycles, good blocks. -/
  geometry : Option (Nat × Nat × Nat × Nat) := none
  /-- Good blocks by channel at the last discovery (R325). -/
  good : List (Nat × Nat) := []
  failed : List Nat := []
  /-- By band × 32 + channel: reads of the block since its erase; blocks being relocated with their cause. Grown-bad blocks with their
  channel. -/
  reads : List (Nat × Nat) := []
  relocating : List (Nat × Nat) := []
  bad : List (Nat × NandBlock) := []
  /-- Bands: region by band; the band table, by band × 32 + channel (R322); spare blocks by channel (R325); erase counts by block; and the
  bands of the other regions than SPILL that hold something since their last erase. -/
  bands : List (Nat × Nat) := []
  table : List (Nat × NandBlock) := []
  spares : List (Nat × List NandBlock) := []
  erases : List (Nat × Nat) := []
  dirty : List Nat := []
  /-- Spill allowance in 2^−16 of a band erase, and hours in service (R336). -/
  credit : Int := 0
  hours : Nat := 0
  /-- Time of the last hourly addition. -/
  hourAt : Nat := 0
  /-- The log's head band of SPILL, the slots written in it, and the bands of SPILL written since their last erase (R334). -/
  head : Option Nat := none
  logSlots : Nat := 0
  written : List Nat := []
  /-- Spills that wait: session × 2^20 + entry (R296). -/
  spilling : List Nat := []
  /-- Times of the last patrol by band × 32 + channel, and late blocks (R333). -/
  patrols : List (Nat × Nat) := []
  late : List Nat := []
  zqAt : Nat := 0
  deriving DecidableEq, Repr

/-! Start-up (R470 to R484), and the sideband (R505 to R509). -/

/-- Start-up state; its registers hold BOOT_STATE, CAUSE, READY, TEST_RAN, MODEL and FAIL_STEP. -/
structure Boot where
  /-- 36 V present; HOLD or REFUSED; rails in tolerance; THERM_TRIP_N held low; the straps sampled. -/
  powered : Bool := false
  forced : Bool := false
  railsGood : Bool := false
  tripHeld : Bool := false
  straps : BitVec 8 := 0
  /-- The arrays are on, and the time at which they last came on (R80). -/
  arrays : Bool := false
  arraysAt : Nat := 0
  /-- The step of Table BOO-1 under way (0: none), the start's time, and whether it is a warm reset's path. -/
  step : Nat := 0
  startAt : Nat := 0
  warm : Bool := false
  /-- The step that RESET_N holds (R495): the start waits for its release. -/
  waiting : Bool := false
  /-- The image chosen in step 2: SVN and digest (R471). -/
  image : Option FwImage := none
  /-- Step 7: the link and an address are up, or its time is past. -/
  linkDone : Bool := false
  storeDone : Bool := false
  step6At : Nat := 0
  /-- Times of events that start a wait: trip, rail fault, undervoltage, input restored (Table BOO-3). -/
  tripAt : Option Nat := none
  railAt : Option Nat := none
  lowAt : Option Nat := none
  /-- Recoveries of the last hour by cause (5 storm, 4 watchdog, 6 rail): times. -/
  recoveries : List (Nat × List Nat) := []
  /-- HOLD's cause: 0 none, 4 watchdog, 5 storm, 6 rail, 1 a start step. -/
  hold : Nat := 0
  /-- The watchdog's period began, while it runs (R482). -/
  wdogAt : Option Nat := none
  /-- Orderly shutdown (R476): stage 0 none, 1 drain, 2 close, 3 Downpour; its flags, the commanding session, its start. -/
  shutdown : Nat := 0
  restart : Bool := false
  skipDownpour : Bool := false
  shutBy : Nat := 0
  shutAt : Nat := 0
  /-- After a parity storm: Downpour's phases 2 and 4 run before step 8 (Table BOO-3). -/
  storm : Bool := false
  /-- A parity storm declared within the present command, whose recovery follows (R306, R479). -/
  stormDue : Bool := false
  deriving DecidableEq, Repr

/-- A tile window (R509). -/
structure Window where
  sel : Word32 := 0
  index : Nat := 0
  data : Word32 := 0
  valid : Bool := false
  dieOff : Bool := false
  range : Bool := false
  /-- A fetch is under way; the high word latched in space 5. -/
  busy : Bool := false
  high : Option Word32 := none
  deriving DecidableEq, Repr

/-- The I3C target and the tile windows. -/
structure Side where
  /-- Transfer address, and the bytes the last private read returned. -/
  addr : Nat := 0
  out : List Byte := []
  windows : List (Nat × Window) := []
  deriving DecidableEq, Repr
/-- Time (R8, R436, R448): halves of a nominal step since reset, steps of the hub's step clock, stretch levels by
domain (0 to 15 stacks, 16 hub), and by stack domain the halves at its last change of stretch with the steps counted there since the
arrays last came on (R80). -/
structure Clock where
  half : Nat := 0
  steps : Nat := 0
  stretch : List (Nat × Nat) := []
  bases : List (Nat × (Nat × Nat)) := []
  deriving DecidableEq, Repr

/-- The state of the block. -/
structure State where
  /-- Commands that wait, first in, first out. -/
  pending : List Instr := []
  /-- How many free values have been drawn (DESIGN CHOICE, log entry 3). -/
  free : Nat := 0
  clk : Clock := {}
  /-- Threads by conductor × 8 + thread. -/
  threads : List (Nat × Thread) := []
  /-- Tag states by conductor × 512 + tag. -/
  tags : List (Nat × TagState) := []
  txs : List Tx := []
  /-- Fault and trap records written per conductor (R236). -/
  recSeq : List (Nat × Nat) := []
  /-- Rotations (R215) by conductor × 4 + PRIO: thread numbers, most recently issued last. -/
  rot : List (Nat × List Nat) := []
  programs : List Program := []
  mem : Mem := {}
  /-- CSR words whose value differs from their reset value, by address. -/
  csr : List (Nat × Word32) := []
  /-- Latched HI halves by interface × 2^32 + address (R508). -/
  latch : List (Nat × Option Word32) := []
  ev : EventLog := {}
  pins : Pins := {}
  arr : Arrays := {}
  kv : Kv := {}
  net : Net := {}
  bat : Batcher := {}
  sec : Sec := {}
  front : Front := {}
  pow : Power := {}
  test : SelfTest := {}
  store : Store := {}
  boot : Boot := {}
  side : Side := {}
  deriving DecidableEq, Repr

/-- The machine right after reset. -/
def State.reset : State := {}

end Sys2Proof.Machine
end

