-- ==== Sys2Proof/Machine/Ops.lean ====
section
/-! DEFINITION. The named operations that the meanings share: time, free values, CSR words, events, device memory,
banks, threads, tags, records and transactions. -/

namespace Sys2Proof.Machine

/-! Time (R8, R436). -/

/-- Halves of a step in one millisecond. -/
def msHalves : Nat := 3800000
/-- Halves of a step in one microsecond. -/
def usHalves : Nat := 3800
/-- Halves of a step in one second. -/
def sHalves : Nat := 3800000000

/-- The present time, in halves of a step (DESIGN CHOICE, log entry 4). -/
def State.now (s : State) : Nat := s.clk.half

/-- The always-on tick counter (R436): a tick is 76 steps (DESIGN CHOICE, log entry 4). -/
def State.ao (s : State) : Nat := s.clk.half / 152

/-- Time has reached a moment: an event that happens at or after it brings the clock there (DESIGN CHOICE, log entry 4). -/
def reach (t : Nat) (s : State) : State := { s with clk := { s.clk with half := Nat.max s.clk.half t } }

/-- One period of the hub's step clock passes (R8, R448): 2 halves, 3 or 4 under stretch. -/
def tick (s : State) : State :=
  { s with clk := { s.clk with half := s.clk.half + 2 + look 0 s.clk.stretch 16, steps := s.clk.steps + 1 } }

/-- Steps of a stack's domain since the arrays last came on (R80). -/
def State.domainSteps (s : State) (d : Nat) : Nat :=
  let b := look (0, 0) s.clk.bases d
  b.2 + (s.now - b.1) / (2 + look 0 s.clk.stretch d)

/-- When a domain's count reaches a step, its stretch staying as it is. -/
def State.stepTime (s : State) (d k : Nat) : Nat :=
  let b := look (0, 0) s.clk.bases d
  b.1 + (k - b.2) * (2 + look 0 s.clk.stretch d)

/-- A domain's stretch set, its count of steps kept. -/
def setStretch (d level : Nat) (s : State) : State :=
  { s with clk := { s.clk with stretch := put 0 s.clk.stretch d level, bases := put (0, 0) s.clk.bases d (s.now, s.domainSteps d) } }

/-- The arrays come on: the steps of every stack are counted from here (R80). -/
def arraysOn (s : State) : State :=
  { s with boot := { s.boot with arrays := true, arraysAt := s.now },
           clk := { s.clk with bases := putAll (0, 0) s.clk.bases ((List.range 16).map (fun d => (d, (s.now, 0)))) } }

/-! Free values (DESIGN CHOICE, log entry 3). -/

/-- The next free value (DESIGN CHOICE, log entry 3). -/
def State.drawn (s : State) : Nat := Config.freeNat s.free

/-- The counter moved past n free values. -/
def skipFree (n : Nat) (s : State) : State := { s with free := s.free + n }

/-! CSR words (R504). -/

/-- Fields whose reset value is not 0, as whole words (Tables CAL-11, CON-5, MEM-13, STO-7, NET-16, NET-17, FRO-5,
POW-8, TST-6, BOO-4, REG-5). -/
def resetWords : List (Nat × Nat) :=
  [(0x00000000, 0x8650B000), (0x00000108, 0x000007D0), (0x00000114, 0x000A0000), (0x00020000, 0xE1352000), (0x00020004, 0xE1352000), (0x00020008, 0xE1352000), (0x0002000C, 0x00820000), (0x00020014, 0x80000000), (0x00020024, 0x000C8000), (0x00020028, 0x13880000), (0x00040004, 0x40000000), (0x0005000C, 0x00002328)] ++
  [(0x00050010, 0x80401800), (0x00050048, 0x101A120A), (0x00060000, 0x0000B8CE), (0x00060008, 0x40000800), (0x0006000C, 0x012C1000), (0x00060010, 0x00015180), (0x00060014, 0x07D08014), (0x00060018, 0x20100040), (0x0006001C, 0x00000320), (0x00060020, 0x20000800)] ++
  [(0x00060024, 0x00000002), (0x00060100, 0x00020000), (0x00070008, 0x20980000), (0x0007000C, 0xE0064000), (0x00080030, 0x00000010), (0x000A0100, 0x0003220A), (0x000A0104, 0x000510C3), (0x000A0200, 0x010000FA), (0x000A0204, 0x03E80050), (0x000A0208, 0x00004048)] ++
  [(0x000A020C, 0x0148080A), (0x000B0000, 0x853E8000), (0x000C0014, 0x00000064)]

/-- A word's reset value (DESIGN CHOICE, log entry 1). -/
def resetWord (a : Nat) : Word32 := BitVec.ofNat 32 (look 0 resetWords a)

/-- A stored CSR word. -/
def State.word (s : State) (a : Nat) : Word32 := look (resetWord a) s.csr a

/-- A field of a stored CSR word. -/
def State.field (s : State) (a hi lo : Nat) : Nat := bits (s.word a).toNat hi lo

/-- The manifest root of the loaded model. -/
def State.modelRoot (s : State) : Nat := match s.bat.model with
  | some m => m.1
  | none => 0

/-- This member's epoch (Table FRO-5). -/
def State.epoch (s : State) : Nat := (s.word 0x00060104).toNat
/-- RANK. -/
def State.myRank (s : State) : Nat := s.field 0x00060100 28 24
/-- SIZE. -/
def State.frontSize (s : State) : Nat := s.field 0x00060100 23 18
/-- FSTATE: 0 none, 1 forming, 2 active, 3 agreeing, 4 suspended. -/
def State.fstate (s : State) : Nat := s.field 0x00060100 31 29

/-- A CSR word stored. -/
def setWord (a : Nat) (v : Word32) (s : State) : State := { s with csr := put (resetWord a) s.csr a v }

/-- A field of a CSR word stored. -/
def setField (a hi lo v : Nat) (s : State) : State :=
  setWord a (BitVec.ofNat 32 (setBits (s.word a).toNat hi lo v)) s

/-- A 32-bit counter advanced, wrapping. -/
def bump (a n : Nat) (s : State) : State := setWord a (s.word a + BitVec.ofNat 32 n) s

/-- A counter field advanced, saturating. -/
def bumpSat (a hi lo n : Nat) (s : State) : State :=
  setField a hi lo (Nat.min (2 ^ (hi + 1 - lo) - 1) (s.field a hi lo + n)) s

/-! Events (R510 to R513). -/

/-- A raise: its code, source and details. -/
structure Raise where
  code : Nat
  info0 : Nat := 0
  info1 : Nat := 0
  kind : Nat := 0
  loc : Nat := 0
  handle : Nat := 0
  deriving DecidableEq, Repr

/-- Events their rules limit to once per second (R512). -/
def oncePerSecond : List Nat :=
  [0x0503, 0x0508, 0x0604, 0x060A, 0x0706, 0x0801, 0x0806, 0x0807, 0x0B03, 0x0B04, 0x0B0A]

/-- Alert events (severity A of Table REG-6). -/
def alertCodes : List Nat :=
  [0x010C, 0x0402, 0x0509, 0x0602, 0x0603, 0x0609, 0x0702, 0x0704, 0x0904, 0x0A01, 0x0A02, 0x0A0A, 0x0A0B,
   0x0B05, 0x0B07, 0x0B09, 0x0B0B, 0x0B0C, 0x0C07, 0x0D02, 0x0D06, 0x0D07, 0x0D08, 0x0D09]

/-- Program events that stay out of the log (R242). -/
def unloggedCodes : List Nat := [0x0405, 0x0406, 0x0407, 0x0408, 0x0409, 0x040A, 0x040B, 0x040C]

/-- Two raises of the same source (R512). -/
def EvRecord.sameSource (e : EvRecord) (r : Raise) : Bool :=
  e.code == r.code && e.kind == r.kind && e.loc == r.loc && e.handle == r.handle

/-- The ring with the last record of a raise's source joined, if that record is open (R512); none where there is none. -/
def joinIn (r : Raise) (now window : Nat) : List EvRecord → Option (List EvRecord)
  | [] => none
  | e :: rest =>
    match joinIn r now window rest with
    | some l => some (e :: l)
    | none =>
      if e.sameSource r && !(rest.any (fun x => x.sameSource r)) && now ≤ e.time + window then
        some ({ e with count := Nat.min 65535 (e.count + 1) } :: rest)
      else none

/-- A record appended; beyond 2,048 records the oldest goes (R510). -/
def pushRecord (l : EventLog) (e : EvRecord) : EventLog :=
  if l.ring.length < 2048 then { l with ring := l.ring ++ [e], head := l.head + 1 }
  else { l with ring := l.ring.drop 1 ++ [e], head := l.head + 1, overwritten := l.overwritten + 1 }

/-- An event recorded at a time (R510 to R513): joined or written, and its class's alert bit set for an A event. -/
def EventLog.record (l : EventLog) (r : Raise) (half coalesceMs : Nat) : EventLog :=
  let window := if r.code ∈ oncePerSecond then 1000 * msHalves else coalesceMs * msHalves
  let l1 :=
    match joinIn r half window l.ring with
    | some ring => { l with ring := ring }
    | none =>
      pushRecord l
        { code := r.code, count := 1, seq := l.head, time := half, info0 := r.info0 % 2 ^ 32,
          info1 := r.info1 % 2 ^ 32, kind := r.kind, loc := r.loc, handle := r.handle }
  if r.code ∈ alertCodes then { l1 with alert := l1.alert ||| BitVec.ofNat 14 (2 ^ (r.code / 256)) } else l1

/-- An event raised (R512, R515); the events of R242 are never recorded (DESIGN CHOICE, log entry 19). -/
def raise (r : Raise) (s : State) : State :=
  if r.code ∈ unloggedCodes then s
  else { s with ev := s.ev.record r s.clk.half (s.field 0x000C0014 15 0) }

/-- The order of raises of one step (R512) (DESIGN CHOICE, log entry 120). -/
def Raise.key (r : Raise) : Nat := r.code * 2 ^ 64 + r.kind * 2 ^ 60 + r.loc * 2 ^ 32 + r.handle

/-- The raises of one command, in R512's order (DESIGN CHOICE, log entry 19; DESIGN CHOICE, log entry 120). -/
def raiseAll (rs : List Raise) (s : State) : State := (sortBy Raise.key rs).foldl (fun t r => raise r t) s

/-- KIND 1: a tile and pair (Table REG-4) (DESIGN CHOICE, log entry 20). -/
def atPair (code p i0 i1 : Nat) : Raise := ⟨code, i0, i1, 1, (p / 48) * 2 ^ 14 + (p % 48) * 2 ^ 8, 0⟩
/-- KIND 3: a conductor and thread (DESIGN CHOICE, log entry 20). -/
def atThread (code : Nat) (c k i0 i1 : Nat) : Raise := ⟨code, i0, i1, 3, c * 8 + k, 0⟩
/-- KIND 4: a session. -/
def atSession (code h i0 i1 : Nat) : Raise := ⟨code, i0, i1, 4, 0, h⟩
/-- KIND 8: a bank, by bank number. -/
def atBank (code b i0 i1 : Nat) : Raise :=
  ⟨code, i0, i1, 8, if b < 8 then 16 * 256 + b else ((b - 8) / 16) * 256 + (b - 8) % 16, 0⟩

/-- The header of a record or batch written now (R464). -/
def healthHeader (s : State) (kind count testMs : Nat) : HealthHeader :=
  { kind := kind, seq := s.test.health.seq + 1, lc := s.sec.fuses.groups, count := count, aotime := s.ao
    svn := (s.word 0x00010014).toNat, hours := s.store.hours, testMs := testMs }

/-- A running entry appended to the health record, a batch of its own, its SEQ one more (R464). -/
def logHealth (typ : Nat) (args : List Nat) (s : State) : State :=
  { s with test := { s.test with health := { s.test.health with
      entries := s.test.health.entries ++ [⟨typ, args⟩], seq := s.test.health.seq + 1
      batches := s.test.health.batches ++ [healthHeader s 4 1 0] } } }

/-! Device memory (R276 to R281, R303). -/

/-- First address of the banks. -/
def hubBase : Nat := 0x4000000000
/-- First address of the stack-base banks. -/
def stackBase : Nat := 0x4100000000
/-- First address of the tile buffers. -/
def tileBase : Nat := 0x4200000000

/-- The bank an address lies in, numbered hub 0 to 7, then 8 + 16 × s + j (Table MEM-1). -/
def bankOf (a : Nat) : Option Nat :=
  if hubBase ≤ a ∧ a < hubBase + 0x10000000 then some ((a - hubBase) / 0x2000000)
  else if stackBase ≤ a ∧ a < tileBase then some (8 + (a - stackBase) / 0x1000000)
  else none

/-- A bank's range (R17, Table MEM-1). -/
def bankRange (b : Nat) : Nat × Nat :=
  if b < 8 then (hubBase + b * 0x2000000, 0x2000000) else (stackBase + (b - 8) * 0x1000000, 0x1000000)

/-- Is an address mapped (Table MEM-1)? -/
def mapped (a : Nat) : Bool :=
  decide (a < hubBase + 0x10000000) || (decide (stackBase ≤ a) && decide (a < tileBase + 10240 * 0x40000))

/-- Owners at cold start (Tables MEM-3, MEM-4). -/
def coldOwner (b : Nat) : Nat :=
  if b < 4 then b else if b = 4 then 25 else if b = 5 then 22 else if b = 6 then 24 else if b = 7 then 32
  else
    let st := (b - 8) / 16
    let j := (b - 8) % 16
    if j < 4 then 22 else if j < 8 then 4 + st else if j < 12 then 20 else if j < 14 then 23 else 40 + 2 * st

/-- A bank's owner (R283). -/
def Mem.owner (m : Mem) (b : Nat) : Nat := (look {} m.banks b).owner.getD (coldOwner b)

/-- Allocation kinds with fill marks: BANK, TILE, SCRATCH (R280). -/
def Alloc.marked (x : Alloc) : Bool := x.kind == 1 || x.kind == 2 || x.kind == 3

/-- Does an allocation hold an address? -/
def Alloc.holds (x : Alloc) (a : Nat) : Bool := decide (x.base ≤ a) && decide (a < x.base + x.size)

/-- Granule size by address: 64 KiB in DRAM, 4 KiB above (Table MEM-2). -/
def granuleSize (a : Nat) : Nat := if a < hubBase then 65536 else 4096

/-- The granule an address lies in. -/
def granule (a : Nat) : Nat := a - a % granuleSize a

/-- Is a granule part of a live allocation with fill marks? (DESIGN CHOICE, log entry 5) -/
def Mem.limited (m : Mem) (g : Nat) : Bool := m.allocs.any (fun x => x.marked && x.holds g)

/-- The granule's fill mark (R280). -/
def Mem.mark (m : Mem) (g : Nat) : Nat := look 0 m.fills g

/-- One byte as any master reads it (R280, R281) (DESIGN CHOICE, log entry 5; DEDUCED, log entry 69). -/
def Mem.read (m : Mem) (a : Nat) : Byte :=
  if m.limited (granule a) && decide (m.mark (granule a) ≤ a - granule a) then 0#8 else look 0#8 m.cells a

/-- The bytes between two offsets of a granule set to zero: the gap fill (R280). -/
def Mem.zeroGap (m : Mem) (g lo hi : Nat) : Mem :=
  { m with cells := m.cells.filter (fun e => !(decide (g + lo ≤ e.1) && decide (e.1 < g + hi))) }

/-- One byte stored, with the mark moved and the gap filled (R280). -/
def Mem.store1 (m : Mem) (a : Nat) (b : Byte) : Mem :=
  let g := granule a
  let off := a - g
  if m.limited g && decide (m.mark g ≤ off) then
    let m1 := m.zeroGap g (m.mark g) off
    { m1 with cells := put 0#8 m1.cells a b, fills := put 0 m1.fills g (off + 1) }
  else { m with cells := put 0#8 m.cells a b }

/-- Bytes stored at addresses, in order. -/
def Mem.stores (m : Mem) : List (Nat × Byte) → Mem
  | [] => m
  | (a, b) :: r => (m.store1 a b).stores r

/-- The lines a list of written addresses covers whole (R303). -/
def coveredLines (as : List Nat) : List Nat :=
  ((as.map (· / 64)).eraseDups).filter (fun l => (List.range 64).all (fun i => as.contains (64 * l + i)))

/-- Is an address in loaded code, which is read-only to every master (R238)? (DEDUCED, log entry 22) -/
def Mem.isCode (m : Mem) (a : Nat) : Bool := m.code.any (fun x => decide (x.2.1 ≤ a) && decide (a < x.2.1 + x.2.2))

/-- A transaction's or a thread's write: the bytes outside loaded code, and the poison of every line it covers
whole (R238, R303) (DEDUCED, log entry 22). -/
def Mem.write (m : Mem) (ws0 : List (Nat × Byte)) : Mem :=
  let ws := ws0.filter (fun e => !m.isCode e.1)
  if m.poison.isEmpty then m.stores ws
  else
    let m1 := m.stores ws
    { m1 with poison := (coveredLines (ws.map Prod.fst)).foldl (fun p l => put false p l false) m1.poison }

/-- Bytes at consecutive addresses. -/
def run (a : Nat) : List Byte → List (Nat × Byte)
  | [] => []
  | b :: r => (a, b) :: run (a + 1) r

/-- n bytes read from an address. -/
def Mem.readN (m : Mem) (a n : Nat) : List Byte := (List.range n).map (fun i => m.read (a + i))

/-- A little-endian number of n bytes read from an address (R6). -/
def Mem.readLe (m : Mem) (a n : Nat) : Nat := leNat (m.readN a n)

/-- Is an address in a poisoned line (R303)? -/
def Mem.poisoned (m : Mem) (a : Nat) : Bool := look false m.poison (a / 64)

/-- Memory written in the state. -/
def writeMem (ws : List (Nat × Byte)) (s : State) : State := { s with mem := s.mem.write ws }

/-- The live allocation of a handle. -/
def Mem.alloc? (m : Mem) (h : Nat) : Option Alloc := m.allocs.find? (fun x => x.handle == h)

/-- The allocation that holds n bytes from an address and meets a test. -/
def Mem.within (m : Mem) (a n : Nat) (p : Alloc → Bool) : Bool :=
  m.allocs.any (fun x => p x && decide (x.base ≤ a) && decide (a + n ≤ x.base + x.size))

/-- An allocation made: its granules' fill marks start at 0 (R280). -/
def Mem.addAlloc (m : Mem) (x : Alloc) : Mem :=
  { m with allocs := m.allocs ++ [x],
           fills := if x.marked then m.fills.filter (fun e => !x.holds e.1) else m.fills }

/-- The first handle from a free value on that names no live allocation (R278, DESIGN CHOICE, log entry 3) (DESIGN CHOICE, log entry 21). -/
def freeHandle (s : State) : Option Nat :=
  if 65535 ≤ s.mem.allocs.length then none
  else
    let start := s.drawn % 65535
    ((List.range 65535).find? (fun i => (s.mem.alloc? ((start + i) % 65535 + 1)).isNone)).map (fun i => (start + i) % 65535 + 1)

/-- The DRAM parts in the order of Table MEM-6: staging, KV, session records, scratch, as (base, size) in the usable DRAM, which is all
of it where nothing is withheld (R290) (DEDUCED, log entry 147). -/
def dramPart (s : State) (i : Nat) : Nat × Nat :=
  let g := 2 ^ 30
  let stage := s.mem.stageCur * g
  let kv := s.mem.kvCur * g
  match i with
  | 0 => (0, stage)
  | 1 => (stage, kv)
  | 2 => (stage + kv, 2 ^ 28)
  | _ => (stage + kv + 2 ^ 28, (if s.mem.gibs.isEmpty then 256 else s.mem.gibs.length) * g - (stage + kv + 2 ^ 28))

/-- The place in DRAM of an offset in the usable DRAM (R290). -/
def State.dramAt (s : State) (off : Nat) : Nat := nthD (off / 2 ^ 30) s.mem.gibs (off / 2 ^ 30) * 2 ^ 30 + off % 2 ^ 30

/-- A DRAM page number by its number in the usable DRAM. -/
def State.dramPage (s : State) (p : Nat) : Nat := s.dramAt (p * 65536) / 65536

/-- The offset in the usable DRAM of an address. -/
def State.dramOffset? (s : State) (a : Nat) : Option Nat :=
  (firstBelow 256 (fun i => nthD i s.mem.gibs i == a / 2 ^ 30)).map (fun i => i * 2 ^ 30 + a % 2 ^ 30)

/-- Does a range lie in a DRAM part, clear of GiB withheld since (R290)? -/
def inDramPart (s : State) (i a n : Nat) : Bool :=
  let p := dramPart s i
  match s.dramOffset? a, s.dramOffset? (a + n - 1) with
  | some x, some y =>
    y == x + n - 1 && decide (p.1 ≤ x) && decide (x + n ≤ p.1 + p.2)
      && !s.mem.withheld.any (fun g => decide (g * 2 ^ 30 < a + n) && decide (a < (g + 1) * 2 ^ 30))
  | _, _ => false

/-- Is a range of the scratch part free of allocations and of withheld GiB (R278, R290)? -/
def scratchFree (s : State) (a n : Nat) : Bool :=
  inDramPart s 3 a n && !s.mem.allocs.any (fun x => meets' (a, n) (x.base, x.size))
where
  /-- Two ranges share a byte. -/
  meets' (x y : Nat × Nat) : Bool := decide (x.1 < y.1 + y.2) && decide (y.1 < x.1 + x.2)

/-- Bases at which a range of n bytes may be placed in scratch: its start, and the end of each allocation or
withheld GiB (R238; the choice among them is a free value, DESIGN CHOICE, log entry 3). -/
def scratchBases (s : State) (n : Nat) : List Nat :=
  let up (a : Nat) : Nat := ceilDiv a 65536 * 65536
  ((up (s.dramAt (dramPart s 3).1)) :: (s.mem.allocs.map (fun x => up (x.base + x.size)) ++ s.mem.withheld.map (fun g => (g + 1) * 2 ^ 30))).filter
    (fun a => scratchFree s a n)

/-- R225: aligned bytes in a live allocation of the program whose kind permits scalar access. -/
def scalarOk (s : State) (program a n : Nat) : Bool :=
  decide (a % n = 0) && s.mem.within a n (fun x => x.program == program && (x.kind == 1 || x.kind == 3))

/-- Stacks in Breeze wake on an access (R439); the module is back in Gale when one does. -/
def wakeDies (ds : List Nat) (s : State) : State :=
  if s.pow.breeze.any ds.contains then
    let s1 := { s with pow := { s.pow with breeze := s.pow.breeze.filter (fun d => !ds.contains d) } }
    if s.field 0x00020024 28 26 = 1 then raise { code := 0x0B08 } (setField 0x00020024 28 26 0 s1) else s1
  else s

/-- The die of a bank: stack 0 to 15, or the hub, 16. -/
def bankDie (b : Nat) : Nat := if b < 8 then 16 else (b - 8) / 16

/-- Banks in RETENTION that an access wakes, with their dies (R286, R439): the bank stays ON and the wake is counted; a request that
reversed the transition it ends begins (DESIGN CHOICE, log entry 148). -/
def wakeBanks (as : List Nat) (s : State) : State :=
  let asleep := ((as.filterMap bankOf).eraseDups).filter (fun b => (look {} s.mem.banks b).current == .retention)
  if asleep.isEmpty then s
  else
    wakeDies (asleep.map bankDie) <| bump 0x0008002C asleep.length
      { s with mem := { s.mem with
          banks := asleep.foldl (fun t b => change {} t b (fun x => { x with current := .on, moving := x.reverse, reverse := none })) s.mem.banks } }

/-! Retired segments (R460). -/

/-- A bank segment as the health record names it: die, bank, segment (Table TST-4). -/
def segmentName (a : Nat) : List Nat :=
  match bankOf a with
  | some b =>
    let i := (a - (bankRange b).1) / 65536
    if b < 8 then [16, b, i] else [(b - 8) / 16, (b - 8) % 16, i]
  | none => [0, 0, 0]

/-- A segment retired for good, entered in the health record (R460). -/
def retireSegment (a : Nat) (s : State) : State :=
  if s.mem.segments.contains a then s
  else
    let b := (bankOf a).getD 0
    raise (atBank 0x0C03 b 0 0) (logHealth 3 (segmentName a ++ [1])
      { s with mem := { s.mem with segments := s.mem.segments ++ [a], untested := takeOut s.mem.untested a } })

/-- Segments that wait for the release of their allocation are retired (R460). -/
def retireWaiting (s : State) : State :=
  let free := s.test.retireLater.filter (fun g => !s.mem.allocs.any (fun x => decide (x.base < g + 65536) && decide (g < x.base + x.size)))
  free.foldl (fun u g => retireSegment g u)
    { s with test := { s.test with retireLater := s.test.retireLater.filter (fun g => !free.contains g) } }

/-! Poison (R303, R306). -/

/-- A parity storm declared (R306): its recovery follows in the same command (R479) (DESIGN CHOICE, log entry 52). -/
def declareStorm (s : State) : State := raise { code := 0x0509 } { s with boot := { s.boot with stormDue := true } }


/-- Recent times kept within a window. -/
def recent (now window : Nat) (l : List Nat) : List Nat := l.filter (fun t => now ≤ t + window)

/-- Lines poisoned (R303), counted in POISONS, with the storm check of R306. -/
def poisonLines (addrs : List Nat) (s : State) : State :=
  let lines := (addrs.map (· / 64)).eraseDups
  if lines.isEmpty then s
  else
    let times := recent s.now sHalves s.mem.poisonTimes ++ lines.map (fun _ => s.now)
    let storm := decide (s.field 0x00080030 7 0 ≤ times.length)
    let s1 := bump 0x00080018 lines.length
      { s with mem := { s.mem with
          poison := lines.foldl (fun p l => put false p l true) s.mem.poison
          poisonTimes := if storm then [] else times
          replayTimes := if storm then [] else s.mem.replayTimes } }
    if storm then declareStorm s1 else s1

/-- Words replayed on links (R302): counted, and after a third failed replay delivered poisoned; 4,096 replays of one
link within 1 ms declare a storm (R306). -/
def replayOne (r : Replay) (s : State) : State :=
  let n := Nat.min 3 r.replays
  let s1 := bump 0x0008001C n s
  let times := recent s.now msHalves (look [] s.mem.replayTimes r.link) ++ List.replicate n s.now
  let storm := decide (4096 < times.length)
  let s2 := { s1 with mem := { s1.mem with
      replayTimes := if storm then [] else put [] s1.mem.replayTimes r.link times
      poisonTimes := if storm then [] else s1.mem.poisonTimes } }
  let s3 := if storm then declareStorm s2 else s2
  if r.failed && decide (3 ≤ r.replays) then poisonLines [r.addr] (raise { code := 0x0501 } s3) else s3

/-- What happened to memory during a transaction: waits for a port (R284), ECC corrections (R289), replays (R302), failed words (R303). -/
def environment (e : MemEnv) (s0 : State) : State :=
  let s := if e.waits = 0 then s0 else bump 0x00080028 e.waits s0
  let s1 := if e.corrected = 0 then s else raise { code := 0x0503 } (bump 0x00080014 e.corrected s)
  let s2 := e.replays.foldl (fun t r => replayOne r t) s1
  poisonLines e.parity s2

/-! Policy words (R211). -/

/-- A policy field in force: while a token step is formed the one latched for it (R211). -/
def State.policy (s : State) (a hi lo : Nat) : Nat :=
  if s.bat.step.isSome then bits (look (s.word a) s.bat.inForce a).toNat hi lo else s.field a hi lo

/-- The policy words as they stand, latched for a step (R211). -/
def policyWords (s : State) : List (Nat × Word32) := [0x000A0200, 0x000A0204, 0x000A0208, 0x000A020C].map (fun a => (a, s.word a))

/-! Threads (R214). -/

/-- A thread's state. -/
def State.thr (s : State) (n : Nat) : Thread := look {} s.threads n

/-- A thread's state replaced. -/
def setThr (n : Nat) (x : Thread) (s : State) : State := { s with threads := put {} s.threads n x }

/-- A thread's state changed. -/
def onThr (n : Nat) (f : Thread → Thread) (s : State) : State := setThr n (f (s.thr n)) s

/-- A general register; g0 reads as 0 (R214). -/
def Thread.reg (t : Thread) (i : Nat) : Word64 := if i = 0 then 0 else look 0 t.g i

/-- A general register written; g0 discards (R214). -/
def Thread.setReg (t : Thread) (i : Nat) (v : Word64) : Thread :=
  if i = 0 then t else { t with g := put 0 t.g i v }

/-- A predicate; p0 reads as 1 (R214). -/
def Thread.pred (t : Thread) (i : Nat) : Bool := if i = 0 then true else look false t.p i

/-- A predicate written; p0 discards (R214). -/
def Thread.setPred (t : Thread) (i : Nat) (v : Bool) : Thread :=
  if i = 0 then t else { t with p := put false t.p i v }

/-- A descriptor slot. -/
def Thread.desc (t : Thread) (i : Nat) : Option Desc := look none t.d i

/-- A descriptor slot written. -/
def Thread.setDesc (t : Thread) (i : Nat) (v : Option Desc) : Thread := { t with d := put none t.d i v }

/-- A loaded program. -/
def State.program? (s : State) (id : Nat) : Option Program := s.programs.find? (fun p => p.id == id)

/-! Tags and transactions (R226). -/

/-- A tag's state. -/
def State.tag (s : State) (c n : Nat) : TagState := look .free s.tags (c * 512 + n)

/-- A tag's state set. -/
def setTag (c n : Nat) (v : TagState) (s : State) : State := { s with tags := put .free s.tags (c * 512 + n) v }

/-- The transaction of a tag, if the tag is PENDING. -/
def State.tx? (s : State) (c n : Nat) : Option Tx :=
  if s.tag c n = .pending then s.txs.find? (fun x => x.c == c && x.tag == n) else none

/-- The transaction of a tag removed. -/
def dropTx (c n : Nat) (s : State) : State := { s with txs := s.txs.filter (fun x => !(x.c == c && x.tag == n)) }

/-- A transaction issued: its tag becomes PENDING (R226). -/
def addTx (x : Tx) (s : State) : State := setTag x.c x.tag .pending { dropTx x.c x.tag s with txs := (dropTx x.c x.tag s).txs ++ [x] }

/-- A token step latched for re-execution by a transaction: reason 0 poison (R304), 1 parity or checksum (R36, R83), 2 mask
parity (R169), 3 headroom (R78). -/
def markReplay (num reason : Nat) (s : State) : State :=
  { s with arr := { s.arr with replays := addOnce s.arr.replays (num, reason) } }

/-! Records (R236). -/

/-- The record area of a conductor: FRBASE gives address bits [39:8] (Table SPM-10). -/
def State.recordBase (s : State) (c : Nat) : Nat := (s.word (0x00090000 + c * 0x400)).toNat * 256

/-- Is a conductor's record area of 16,640 bytes in a bank of its own die that it masters (R236), and that is not OFF (R285)? (DEDUCED,
log entry 10) -/
def recordAreaOk (s : State) (c : Nat) : Bool :=
  let a := s.recordBase c
  match bankOf a, bankOf (a + 16639) with
  | some x, some y =>
    x == y && s.mem.owner x == c && (look {} s.mem.banks x).current != .off && (if c < 4 then decide (x < 8) else decide (8 ≤ x) && (x - 8) / 16 == c - 4)
  | _, _ => false

/-- The bytes of a record (Table SPM-8). -/
def recordBytes (event cause c origin tag pc seq info0 info1 ao : Nat) : List Byte :=
  leBytes 2 event ++ leBytes 2 cause ++ leBytes 1 c ++ leBytes 1 origin ++ leBytes 2 tag ++ leBytes 4 pc
    ++ leBytes 4 seq ++ leBytes 8 info0 ++ leBytes 4 info1 ++ leBytes 4 ao

/-- A record written at an offset of the conductor's area, if the area is legal (R236, DEDUCED, log entry 10). -/
def writeRecord (c offset event cause origin tag pc info0 info1 : Nat) (s : State) : State :=
  let seq := look 0 s.recSeq c
  let s1 := { s with recSeq := put 0 s.recSeq c ((seq + 1) % 2 ^ 32) }
  if recordAreaOk s c then
    let b := run (s.recordBase c + offset) (recordBytes event cause c origin tag pc seq info0 info1 s.ao)
    writeMem b (wakeBanks [s.recordBase c] s1)
  else s1

/-- A transaction completes DONE (R226). -/
def doneTx (x : Tx) (s : State) : State := setTag x.c x.tag .done (dropTx x.c x.tag s)

/-- A transaction completes FAULTED, after its record is written (R226, R236). -/
def faultTx (x : Tx) (event info0 info1 : Nat) (s : State) : State :=
  setTag x.c x.tag .faulted
    (dropTx x.c x.tag (writeRecord x.c (32 * x.tag) event 0 x.k x.tag x.pc info0 info1 s))

/-! The pins (R495, R513), and the outcome of a meaning. -/

/-- ALERT_N is low while an unmasked alert bit is set, or in HOLD and REFUSED (R513) (DESIGN CHOICE, log entry 127). -/
def State.alertLow (s : State) : Bool := (s.ev.alert &&& ~~~s.ev.mask) != 0 || s.boot.forced

/-- The pins driven from the state. -/
def settle (s : State) : State :=
  { s with pins := { s.pins with alertN := !s.alertLow, powerGood := s.boot.railsGood, thermTripN := !s.boot.tripHeld } }

/-- A command's outcome: the next state, with the pins driven. -/
def done (s : State) : Host.Outcome State Fault Refusal := .next (settle s)

end Sys2Proof.Machine
end

