-- ==== Sys2Proof/Machine/Operands.lean ====
section
/-! DEFINITION. Tensors in device memory: descriptors, the C32 layout, and every form in which an element, a scale or
an escape is read (R95 to R106, R117 to R122, R246, R303). -/

namespace Sys2Proof.Machine

/-! Types. -/

/-- ETYPE codes (Table NUM-1). -/
def EType.ofCode : Nat → Option EType
  | 0 => some .int4 | 1 => some .int8 | 2 => some .act8 | 3 => some .e4m3 | 4 => some .e5m2
  | 5 => some .bf16 | 6 => some .fp16 | 7 => some .fp32 | 8 => some .int32 | _ => none

/-- The code of an element type. -/
def EType.code : EType → Nat
  | .int4 => 0 | .int8 => 1 | .act8 => 2 | .e4m3 => 3 | .e5m2 => 4 | .bf16 => 5 | .fp16 => 6 | .fp32 => 7 | .int32 => 8

/-- Bits of an element. -/
def EType.bits : EType → Nat
  | .int4 => 4 | .int8 => 8 | .act8 => 8 | .e4m3 => 8 | .e5m2 => 8 | .bf16 => 16 | .fp16 => 16 | .fp32 => 32 | .int32 => 32

/-- Bytes of a 32-element vector (Table NUM-1). -/
def EType.vecBytes (t : EType) : Nat := 4 * t.bits

/-- The zero encoding (R120, R303). -/
def EType.zero : EType → Nat
  | .act8 => 0x80
  | _ => 0

/-- Types that may carry scales (R121). -/
def EType.scaled : EType → Bool
  | .int4 | .int8 | .act8 | .e4m3 | .e5m2 => true
  | _ => false

/-- STYPE codes (Table NUM-2). -/
def SType.ofCode : Nat → Option SType
  | 0 => some .none | 1 => some .fp16 | 2 => some .e8m0 | _ => Option.none

/-- Bytes of a scale entry (R118). -/
def SType.bytes : SType → Nat
  | .none => 0 | .fp16 => 2 | .e8m0 => 1

/-! Shape and addresses (R118, R119). -/

/-- Vectors of a row. -/
def Desc.vecs (d : Desc) : Nat := ceilDiv d.channels 32

/-- Positions of dimensions 1 to 4: the rows. -/
def Desc.rows (d : Desc) : Nat := d.sizes.foldl (· * ·) 1

/-- Size of dimension k, 1 beyond NDIM. -/
def Desc.size (d : Desc) (k : Nat) : Nat := if k = 0 then d.vecs else nthD 1 d.sizes (k - 1)

/-- Blocks of a row's scales. -/
def Desc.blocks (d : Desc) : Nat := if d.block = 0 then 1 else ceilDiv d.channels d.block

/-- Side records of a row. -/
def Desc.sides (d : Desc) : Nat := ceilDiv d.channels 128

/-- Byte offset of a row: the sum over dimensions 1 up of index × stride (R119). -/
def rowOffset : List Nat → List Nat → Nat → Nat
  | n :: ns, st :: sts, p => (p % n) * st * 16 + rowOffset ns sts (p / n)
  | _, _, _ => 0

/-- Address of a vector of a row. -/
def Desc.vecAddr (d : Desc) (p v : Nat) : Nat :=
  d.base + v * nthD 0 d.strides 0 * 16 + rowOffset d.sizes (d.strides.drop 1) p

/-- Address of the byte that holds an element, and its low bit within it (R117, R119). -/
def Desc.elemAddr (d : Desc) (p c : Nat) : Nat := d.vecAddr p (c / 32) + (c % 32) * d.etype.bits / 8

/-- Index of an element's scale entry (R118). -/
def Desc.scaleIndex (d : Desc) (p c : Nat) : Nat := p * d.blocks + (if d.block = 0 then 0 else c / d.block)

/-- Address of a scale entry. -/
def Desc.scaleAddr (d : Desc) (p b : Nat) : Nat := d.scaleBase + (p * d.blocks + b) * d.stype.bytes

/-- Address of a side record. -/
def Desc.sideAddr (d : Desc) (p b : Nat) : Nat := d.sideBase + (p * d.sides + b) * 32

/-- Bytes of the data, scale and side arrays of a descriptor's image (R246). -/
def Desc.imageBytes (d : Desc) : Nat :=
  d.rows * d.vecs * d.etype.vecBytes + d.rows * d.blocks * d.stype.bytes + d.rows * d.sides * 32 * b01 d.esc

/-- n consecutive addresses. -/
def span (a n : Nat) : List Nat := (List.range n).map (a + ·)

/-- The addresses of a descriptor's image, in its order (R246). -/
def Desc.imageAddrs (d : Desc) : List Nat :=
  ((List.range d.rows).map (fun p => ((List.range d.vecs).map (fun v => span (d.vecAddr p v) d.etype.vecBytes)).flatten)).flatten
    ++ span d.scaleBase (d.rows * d.blocks * d.stype.bytes)
    ++ (if d.esc then span d.sideBase (d.rows * d.sides * 32) else [])

/-- The footprint's last byte offset (R122). -/
def Desc.footprint (d : Desc) : Nat :=
  let term (k : Nat) (st : Nat) : Nat := (d.size k - 1) * st * 16
  ((List.range d.strides.length).map (fun k => term k (nthD 0 d.strides k))).foldl (· + ·) 0 + d.etype.vecBytes

/-- Byte ranges of a descriptor: data footprint, scales, side array. -/
def Desc.ranges (d : Desc) : List (Nat × Nat) :=
  [(d.base, d.footprint), (d.scaleBase, d.rows * d.blocks * d.stype.bytes),
   (d.sideBase, if d.esc then d.rows * d.sides * 32 else 0)]

/-- Do two byte ranges share a byte? -/
def meets (x y : Nat × Nat) : Bool :=
  decide (0 < x.2) && decide (0 < y.2) && decide (x.1 < y.1 + y.2) && decide (y.1 < x.1 + x.2)

/-- Do two descriptors share any byte? -/
def Desc.overlaps (a b : Desc) : Bool := a.ranges.any (fun x => b.ranges.any (fun y => meets x y))

/-- Is a destination its source again: one footprint and geometry, and no array of one meeting another array of the other (R263)? -/
def Desc.inPlace (a d : Desc) : Bool :=
  (a.base, a.footprint) == (d.base, d.footprint) && a.strides == d.strides && a.sizes == d.sizes && a.channels == d.channels
    && (List.range 3).all (fun i => (List.range 3).all (fun j =>
      let x := nthD (0, 0) a.ranges i
      let y := nthD (0, 0) d.ranges j
      (i == j && x == y) || !meets x y))

/-- Identical footprints and geometry (R140, R263). -/
def Desc.sameMemory (a b : Desc) : Bool :=
  a.ranges.filter (fun r => r.2 != 0) == b.ranges.filter (fun r => r.2 != 0) && a.strides == b.strides && a.sizes == b.sizes && a.channels == b.channels

/-! Reading (R105, R106, R120, R303). -/

/-- An element's code as stored, a poisoned one as the zero encoding (R303); padding lanes read zero (R120). -/
def Desc.codeAt (d : Desc) (m : Mem) (p c : Nat) : Nat :=
  let a := d.elemAddr p c
  if c ≥ d.channels || (List.range (ceilDiv d.etype.bits 8)).any (fun i => m.poisoned (a + i)) then d.etype.zero
  else if d.etype = .int4 then
    let b := (m.read a).toNat
    if c % 2 = 0 then b % 16 else b / 16
  else m.readLe a (d.etype.bits / 8)

/-- A stored scale entry's code; in a poisoned line 0, which reads +0 for both formats by R303. -/
def Desc.scaleCode (d : Desc) (m : Mem) (p b : Nat) : Nat :=
  let a := d.scaleAddr p b
  m.readLe a d.stype.bytes

/-- A scale as FP32 (R96); a poisoned entry reads +0 (R303). -/
def Desc.scale (d : Desc) (m : Mem) (p c : Nat) : F32 :=
  let b := if d.block = 0 then 0 else c / d.block
  let a := d.scaleAddr p b
  match d.stype with
  | .none => fOne
  | .fp16 => if m.poisoned a || m.poisoned (a + 1) then fZero else fval (fmtFP16.decode (d.scaleCode m p b))
  | .e8m0 => if m.poisoned a then fZero else e8m0Value (d.scaleCode m p b)

/-- A side slot (Table NUM-4): index and BF16 value of a valid one; a slot in a poisoned line is not valid (R303). -/
def Desc.slot (d : Desc) (m : Mem) (p b i : Nat) : Option (Nat × Nat) :=
  let a := d.sideAddr p b + 4 * i
  let w := m.readLe a 4
  if d.esc && bit w 15 && !m.poisoned a then some (bits w 6 0, bits w 31 16) else none

/-- The valid slots of a record, lowest first. -/
def Desc.slots (d : Desc) (m : Mem) (p b : Nat) : List (Nat × Nat) := (List.range 8).filterMap (d.slot m p b)

/-- BF16 to FP32, exactly (R99). -/
def bf16Value (code : Nat) : F32 := fval (fmtBF16.decode code)

/-- The value of an escaped element, if a valid slot names it (R105). -/
def Desc.escape (d : Desc) (m : Mem) (p c : Nat) : Option F32 :=
  ((d.slots m p (c / 128)).find? (fun x => x.1 == c % 128)).map (fun x => bf16Value x.2)

/-- A code as FP32 by R99, without scale. -/
def EType.value (t : EType) (code : Nat) : F32 :=
  match t with
  | .int4 => fOfInt (signed 4 code)
  | .int8 => fOfInt (signed 8 code)
  | .act8 => fOfInt ((code : Int) - 128)
  | .e4m3 => fval (fmtE4M3.decode code)
  | .e5m2 => fval (fmtE5M2.decode code)
  | .bf16 => bf16Value code
  | .fp16 => fval (fmtFP16.decode code)
  | .fp32 => fCanon (BitVec.ofNat 32 code)
  | .int32 => fOfInt (signed 32 code)

/-- An element as every unit reads its value (R105, R106). -/
def Desc.value (d : Desc) (m : Mem) (p c : Nat) : F32 :=
  let code := d.codeAt m p c
  if d.etype = .act8 then
    if code = 0 then (d.escape m p c).getD fZero else fMul (d.etype.value code) (d.scale m p c)
  else if d.stype = .none then d.etype.value code
  else fMul (d.etype.value code) (d.scale m p c)

/-- A row of values. -/
def Desc.row (d : Desc) (m : Mem) (p : Nat) : List F32 := (List.range d.channels).map (d.value m p)

/-- An INT32 or narrower element as an integer. -/
def Desc.int (d : Desc) (m : Mem) (p c : Nat) : Int :=
  signed d.etype.bits (d.codeAt m p c)

/-- Escape codes without a slot, and valid slots that are ignored, of one row (R105). -/
def Desc.orphansRow (d : Desc) (m : Mem) (p : Nat) : Nat :=
  if d.etype = .act8 then
    let elems := (List.range d.channels).filter (fun c => d.codeAt m p c == 0 && (d.escape m p c).isNone)
    let ignored := (List.range (if d.esc then d.sides else 0)).map (fun b =>
      let sl := d.slots m p b
      let bad := (List.range sl.length).filter (fun i =>
        let x := nthD (0, 0) sl i
        let c := 128 * b + x.1
        decide (d.channels ≤ c) || d.codeAt m p c != 0 || (sl.take i).any (fun y => y.1 == x.1))
      bad.length)
    elems.length + sumOf ignored
  else 0

/-- Orphans of a whole tensor (R105). -/
def Desc.orphans (d : Desc) (m : Mem) : Nat := sumOf ((List.range d.rows).map (d.orphansRow m))

/-! Images (R120, R246, R303). -/

/-- Byte b of vector v with its padding lanes at the zero encoding (R120). -/
def Desc.padded (d : Desc) (v b : Nat) (x : Byte) : Byte :=
  let e := 32 * v + 8 * b / d.etype.bits
  if d.channels ≤ e then BitVec.ofNat 8 d.etype.zero
  else if d.etype = .int4 ∧ d.channels ≤ e + 1 then x &&& 0x0F#8
  else x

/-- A byte read, one in a poisoned line replaced (R303). -/
def Mem.clean (m : Mem) (other : Byte) (a : Nat) : Byte := if m.poisoned a then other else m.read a

/-- Addresses of a row's data bytes, vector by vector. -/
def Desc.dataAddrs (d : Desc) (p : Nat) : List Nat := ((List.range d.vecs).map (fun v => span (d.vecAddr p v) d.etype.vecBytes)).flatten

/-- A row's data bytes as every unit reads them: zero encodings in padding lanes and for poisoned elements. -/
def Desc.dataBytes (d : Desc) (m : Mem) (p : Nat) : List Byte :=
  ((List.range d.vecs).map (fun v => (List.range d.etype.vecBytes).map (fun b =>
    d.padded v b (m.clean (BitVec.ofNat 8 d.etype.zero) (d.vecAddr p v + b))))).flatten

/-- A row's scale entries as bytes, poisoned ones 0. -/
def Desc.scaleBytes (d : Desc) (m : Mem) (p : Nat) : List Byte := (span (d.scaleAddr p 0) (d.blocks * d.stype.bytes)).map (m.clean 0#8)

/-- A row's side records as stored, poisoned bytes 0, so that their slots are not valid. -/
def Desc.sideRecords (d : Desc) (m : Mem) (p : Nat) : List Byte :=
  if d.esc then (span (d.sideAddr p 0) (32 * d.sides)).map (m.clean 0#8) else []

/-- A descriptor's image (R246). -/
def imageBytes (m : Mem) (d : Desc) : List Byte :=
  ((List.range d.rows).map (d.dataBytes m)).flatten ++ ((List.range d.rows).map (d.scaleBytes m)).flatten
    ++ ((List.range d.rows).map (d.sideRecords m)).flatten

/-- Byte j of an image as a writing unit stores it (R120). -/
def Desc.laneByte (d : Desc) (j : Nat) (x : Byte) : Byte :=
  if j < d.rows * d.vecs * d.etype.vecBytes then d.padded (j / d.etype.vecBytes % d.vecs) (j % d.etype.vecBytes) x else x

/-- Bytes written into a descriptor's image from its byte n on (R246, R249, R252). -/
def imageWritesFrom (d : Desc) (n : Nat) (bs : List Byte) : List (Nat × Byte) :=
  ((List.range bs.length).zip ((d.imageAddrs.drop n).zip bs)).map (fun x => (x.2.1, d.laneByte (n + x.1) x.2.2))

/-- Bytes written into a descriptor's image from its first byte (R246, R252). -/
def imageWrites (d : Desc) (bs : List Byte) : List (Nat × Byte) := imageWritesFrom d 0 bs

/-- The zero encodings of a row's padding lanes, whole bytes (R120). -/
def Desc.padWrites (d : Desc) (p : Nat) : List (Nat × Byte) :=
  let v := d.vecs - 1
  ((List.range d.etype.vecBytes).filter (fun b => decide (d.channels ≤ 32 * v + 8 * b / d.etype.bits))).map (fun b =>
    (d.vecAddr p v + b, BitVec.ofNat 8 d.etype.zero))

/-- The address of the first poisoned line among those read, in image order (R303) (DEDUCED, log entry 28). -/
def firstPoison (m : Mem) (ds : List Desc) : Option Nat :=
  if m.poison.isEmpty then none
  else (ds.map Desc.imageAddrs).flatten.find? m.poisoned |>.map (fun a => a / 64 * 64)

/-- The first poisoned line among addresses. -/
def poisonAt (m : Mem) (as : List Nat) : Option Nat :=
  if m.poison.isEmpty then none else (as.find? m.poisoned).map (fun a => a / 64 * 64)

/-! The tensor descriptor (R121, R122). -/

/-- Words of a 64-byte record. -/
def recordWords (bs : List Byte) : List Nat := (chunks 8 bs).map leNat

/-- Block size of a BLOCK code; 0 for an illegal one. -/
def blockOf : Nat → Nat
  | 0 => 32 | 1 => 64 | 2 => 128 | 3 => 256 | _ => 0

/-- A descriptor record read and checked in the order of Table NUM-8: the descriptor, or the cause of the first check that
fails. -/
def checkDesc (s : State) (program : Nat) (bs : List Byte) : Except Nat Desc :=
  let w := recordWords bs
  let wd (i : Nat) : Nat := nthD 0 w i
  let f (i hi lo : Nat) : Nat := bits (wd i) hi lo
  let ndim := f 0 46 44
  let esc := bit (wd 0) 47
  let block := f 1 46 44
  let channels := f 2 63 40
  let sizes := [f 3 59 36, f 4 59 36, f 5 59 36, f 6 59 36]
  let strides := [f 3 35 0, f 4 35 0, f 5 35 0, f 6 35 0, f 7 35 0]
  let scaleBase := f 1 39 0
  let sideBase := f 2 39 0
  if f 1 63 47 ≠ 0 || bit (wd 1) 43 || f 3 63 60 ≠ 0 || f 4 63 60 ≠ 0 || f 5 63 60 ≠ 0 || f 6 63 60 ≠ 0 || f 7 63 36 ≠ 0 then
    .error 1
  else
    match EType.ofCode (f 0 43 40), SType.ofCode (f 1 41 40) with
    | some et, some st =>
      if (st ≠ .none && !et.scaled) || (st = .none && (block ≠ 0 || scaleBase ≠ 0)) || blockOf block = 0
          || (blockOf block = 256 && et ≠ .act8) then .error 2
      else if (esc && et ≠ .act8) || (!esc && sideBase ≠ 0) then .error 3
      else if ndim = 0 || 5 < ndim || channels = 0
          || (List.range 4).any (fun k => if k + 1 < ndim then nthD 0 sizes k == 0 else nthD 0 sizes k != 0)
          || (List.range 5).any (fun k => decide (ndim ≤ k) && nthD 0 strides k != 0) then .error 4
      else
        let d : Desc :=
          { handle := f 0 63 48, esc := esc, ndim := ndim, etype := et, base := f 0 39 0,
            block := if st = .none then 0 else blockOf block, wr := bit (wd 1) 42, stype := st,
            scaleBase := scaleBase, channels := channels, sideBase := sideBase,
            sizes := sizes.take (ndim - 1), strides := strides.take ndim }
        if d.base % 16 ≠ 0 || scaleBase % 16 ≠ 0 || sideBase % 16 ≠ 0 then .error 5
        else
          match s.mem.alloc? d.handle with
          | none => .error 6
          | some x =>
            let inside (a n : Nat) : Bool := n == 0 || (decide (x.base ≤ a) && decide (a + n ≤ x.base + x.size))
            if x.program ≠ program || x.kind = 5 || x.kind = 7 then .error 6
            else if x.kind ≠ 6 && !inside d.base d.footprint then .error 7
            else if x.kind ≠ 6 && !inside scaleBase (d.rows * d.blocks * st.bytes) then .error 8
            else if x.kind ≠ 6 && esc && !inside sideBase (d.rows * d.sides * 32) then .error 9
            else if d.wr && (decide (nthD 0 d.strides 0 * 16 < et.vecBytes)
                || (List.range (ndim - 1)).any (fun k =>
                  decide (nthD 0 d.strides (k + 1) < d.size k * nthD 0 d.strides k))) then .error 10
            else .ok d
    | _, _ => .error 2

end Sys2Proof.Machine
end

