-- ==== Sys2Proof/Machine/Flags.lean ====
section
/-! DEFINITION. The numeric events an instruction or sweep gathers while it runs, raised once at its end with their counts
(R100, R131). -/

namespace Sys2Proof.Machine

/-- Counts of two parts together (DEDUCED, log entry 29). -/
def Counts.add (a b : Counts) : Counts := ⟨a.sat + b.sat, a.nan + b.nan, a.clamp + b.clamp, a.orphan + b.orphan⟩

/-- The count of one conversion (R99). -/
def Cvt.counts : Cvt → Counts
  | .ok => {}
  | .sat => { sat := 1 }
  | .nan => { nan := 1 }

/-- The sum of many counts. -/
def Counts.sum (l : List Counts) : Counts := l.foldl Counts.add {}

/-- The raises of the counts that are not 0, at the issuing thread (R100, R131) (DEDUCED, log entry 29). -/
def Counts.raises (x : Counts) (c k : Nat) : List Raise :=
  (if x.sat = 0 then [] else [atThread 0x0201 c k x.sat 0]) ++
  (if x.nan = 0 then [] else [atThread 0x0202 c k x.nan 0]) ++
  (if x.clamp = 0 then [] else [atThread 0x0203 c k x.clamp 0]) ++
  (if x.orphan = 0 then [] else [atThread 0x0204 c k x.orphan 0])

end Sys2Proof.Machine
end

