-- ==== Sys2Proof/Machine/Quant.lean ====
section
/-! DEFINITION. Conversion, quantisation and the writing of tensor rows (R99 to R104, R117 to R120, R154). -/

namespace Sys2Proof.Machine

/-- FP32 to an element type's code, without scale (R99, Table NUM-3). -/
def EType.encode (t : EType) (x : F32) : Nat × Cvt :=
  let v := fdec x
  match t with
  | .int4 => let r := convertInt 4 v; (toBits 4 r.1, r.2)
  | .int8 => let r := convertInt 8 v; (toBits 8 r.1, r.2)
  | .int32 => let r := convertInt 32 v; (toBits 32 r.1, r.2)
  | .e4m3 => fmtE4M3.convert v
  | .e5m2 => fmtE5M2.convert v
  | .bf16 => fmtBF16.convert v
  | .fp16 => fmtFP16.convert v
  | .fp32 => ((fCanon x).toNat, .ok)
  | .act8 => (0x80, .ok)

/-- The largest magnitude a quantised type holds: 127, 448, 57,344, 127 or 7 (R102, R103). -/
def EType.limit : EType → Nat
  | .e4m3 => 448 | .e5m2 => 57344 | .int4 => 7 | _ => 127

/-- The greatest number below 2^n whose bits, tried from the top, keep a test true; 0 must meet it. -/
def greatest (p : Nat → Bool) : Nat → Nat → Nat
  | 0, r => r
  | n + 1, r => greatest p n (if p (r + 2 ^ n) then r + 2 ^ n else r)

/-- Is v × lim below a, exactly, for finite non-negative values? -/
def scaledBelow (v a : FVal) (lim : Nat) : Bool :=
  match v, a with
  | .fin _ m1 e1, .fin _ m2 e2 => dyLt (m1 * lim) e1 m2 e2
  | _, _ => false

/-- The code of the computed scale of a block whose largest kept magnitude is a (R102). -/
def scaleFor (st : SType) (a : F32) (lim : Nat) : Nat :=
  let v := fdec a
  match st with
  | .none => 0
  | .fp16 =>
    if a = fZero then 0x3C00
    else
      let g := greatest (fun c => c ≤ 0x7BFF && scaledBelow (fmtFP16.decode c) v lim) 15 0
      Nat.min (g + 1) 0x7BFF
  | .e8m0 =>
    if a = fZero then 127
    else if !scaledBelow (.fin false 1 (-127)) v lim then 0
    else
      let g := greatest (fun c => c ≤ 254 && scaledBelow (.fin false 1 ((c : Int) - 127)) v lim) 8 0
      Nat.min (g + 1) 254

/-- A scale code's FP32 value. -/
def SType.value (st : SType) (code : Nat) : F32 :=
  match st with
  | .none => fOne
  | .fp16 => fval (fmtFP16.decode code)
  | .e8m0 => e8m0Value code

/-- A quantised block: codes, the scale's code, escapes as (index in the block, BF16 code), and counts. -/
structure QBlock where
  codes : List Nat
  scale : Nat
  escapes : List (Nat × Nat)
  counts : Counts
  deriving DecidableEq, Repr

/-- Indices of a block in R102's order of escape: non-finite first, ascending; then finite by falling magnitude, lower index
first. -/
def escapeOrder (xs : List F32) : List Nat × List Nat :=
  let idx := List.range xs.length
  (idx.filter (fun i => !fIsFin (nthD fZero xs i)),
   sortBy (fun i => 0x80000000 - (fAbs (nthD fZero xs i)).toNat) (idx.filter (fun i => fIsFin (nthD fZero xs i))))

/-- The quotient test |rne_int(x/s)| > 127 under a given scale: zero elements never, infinite quotients always, NaN
quotients never (R102). -/
def overRange (x s : F32) : Bool :=
  if fAbs x = fZero then false
  else
    match fdec (fDiv x s) with
    | .nan => false
    | .inf _ => true
    | .fin n m e => decide (127 < (rneInt n m e).natAbs)

/-- |x| > RATIO × m, exactly (R102). -/
def overRatio (x m : F32) (ratio : Nat) : Bool :=
  match fdec m, fdec x with
  | .fin _ mm me, .fin _ xm xe => dyLt (ratio * mm) me xm xe
  | _, _ => false

/-- The largest magnitude among finite elements that did not escape (R102). -/
def keptMax (xs : List F32) (esc : List Nat) : F32 :=
  (List.range xs.length).foldl (fun a i =>
    let x := nthD fZero xs i
    if fIsFin x && !esc.contains i then (if a.toNat < (fAbs x).toNat then fAbs x else a) else a) fZero

/-- The coding of one ACT8 element that does not escape (R102). -/
def actCode (x s : F32) : Nat × Counts :=
  match fdec x with
  | .nan => (0x80, { nan := 1 })
  | .inf n => (if n then 0x01 else 0xFF, { clamp := 1 })
  | .fin _ m _ =>
    if m = 0 then (0x80, {})
    else
      match fdec (fDiv x s) with
      | .nan => (0x80, { nan := 1 })
      | .inf n => (if n then 0x01 else 0xFF, { clamp := 1 })
      | .fin n qm qe =>
        let q := rneInt n qm qe
        if q > 127 then (0xFF, { clamp := 1 }) else if q < -127 then (0x01, { clamp := 1 })
        else ((q + 128).toNat, {})

/-- Quantisation of one block to ACT8 (R102); eb is its escape budget. Under a whole-row scale only non-finite elements
escape (R154): finiteEsc is false. -/
def quantAct8 (st : SType) (eb ratio : Nat) (given : Option F32) (xs : List F32) (finiteEsc : Bool := true) : QBlock :=
  let (nf, fin) := escapeOrder xs
  let m := match fin.drop eb with
    | i :: _ => fAbs (nthD fZero xs i)
    | [] => fZero
  let wants (i : Nat) : Bool :=
    let x := nthD fZero xs i
    if !fIsFin x then true
    else
      match given with
      | some s => finiteEsc && overRange x s
      | none => overRatio x m ratio
  let esc := ((nf ++ fin).filter wants).take eb
  let code := match given with
    | some _ => 0
    | none => scaleFor st (keptMax xs esc) 127
  let s := given.getD (st.value code)
  let cs := (List.range xs.length).map (fun i =>
    if esc.contains i then (0, ({} : Counts)) else actCode (nthD fZero xs i) s)
  let ev := esc.map (fun i => (i, fmtBF16.convert (fdec (nthD fZero xs i))))
  { codes := cs.map Prod.fst, scale := code, escapes := ev.map (fun x => (x.1, x.2.1)),
    counts := (Counts.sum (cs.map Prod.snd)).add (Counts.sum (ev.map (fun x => x.2.2.counts))) }

/-- Quantisation of one block to E4M3, E5M2, INT8 or INT4 (R103). -/
def quantOther (t : EType) (st : SType) (given : Option F32) (xs : List F32) : QBlock :=
  let code := match given with
    | some _ => 0
    | none => scaleFor st (keptMax xs []) t.limit
  let s := given.getD (st.value code)
  let cs := xs.map (fun x =>
    match fdec x with
    | .fin n m _ =>
      if m = 0 then ((if n && (t = .e4m3 || t = .e5m2) then 0x80 else 0), ({} : Counts))
      else
        let r := t.encode (fDiv x s)
        (r.1, r.2.counts)
    | _ =>
      let r := t.encode x
      (r.1, r.2.counts))
  { codes := cs.map Prod.fst, scale := code, escapes := [], counts := Counts.sum (cs.map Prod.snd) }

/-- A row made ready for writing: codes, scale codes by block, side slots by record, counts. -/
structure QRow where
  codes : List Nat
  scales : List Nat
  sides : List (List (Nat × Nat))
  counts : Counts
  deriving DecidableEq, Repr

/-- Elements of a block that quantisation takes together: a destination without scales has blocks of 32, the size its BLOCK 0 spells
(R102, Table NUM-7). -/
def Desc.quantBlock (d : Desc) : Nat := if d.block = 0 then 32 else d.block

/-- The escape budget of a block (R102). -/
def escapeBudget (d : Desc) (escMax : Nat) : Nat :=
  if !d.esc then 0 else if d.quantBlock < 128 then escMax * d.quantBlock / 128 else escMax

/-- A row quantised or converted for a destination (R99, R102 to R104). given holds the scale of each block where scales
are given; a destination without scales takes the given scale 1.0. -/
def quantRow (d : Desc) (escMax ratio : Nat) (given : Option (List F32)) (xs : List F32) (finiteEsc : Bool := true) : QRow :=
  if d.etype.scaled then
    let n := d.quantBlock
    let blocks := if xs.isEmpty then [] else chunks n xs
    let g (b : Nat) : Option F32 :=
      if d.stype = .none then some fOne
      else match given with
        | some l => some (nthD fOne l b)
        | none => none
    let qs := (List.range blocks.length).map (fun b =>
      if d.etype = .act8 then quantAct8 d.stype (escapeBudget d escMax) ratio (g b) (nthD [] blocks b) finiteEsc
      else quantOther d.etype d.stype (g b) (nthD [] blocks b))
    let esc := ((List.range qs.length).map (fun b =>
      match qs[b]? with
      | some q => q.escapes.map (fun x => (b * n + x.1, x.2))
      | none => [])).flatten
    { codes := (qs.map QBlock.codes).flatten, scales := qs.map QBlock.scale,
      sides := (List.range d.sides).map (fun r =>
        (esc.filter (fun x => x.1 / 128 == r)).map (fun x => (x.1 % 128, x.2))),
      counts := Counts.sum (qs.map QBlock.counts) }
  else
    let cs := xs.map d.etype.encode
    { codes := cs.map Prod.fst, scales := [], sides := [], counts := Counts.sum (cs.map (fun x => x.2.counts)) }

/-! Writing (R104, R117, R119, R120). -/

/-- The bytes of codes of one width, packed (R117). -/
def packCodes (t : EType) (codes : List Nat) : List Byte :=
  if t = .int4 then (chunks 2 codes).map (fun p => BitVec.ofNat 8 (nthD 0 p 0 % 16 + 16 * (nthD 0 p 1 % 16)))
  else (codes.map (leBytes (t.bits / 8))).flatten

/-- The writes of a row's data, padding lanes at the zero encoding (R120). -/
def Desc.dataWrites (d : Desc) (p : Nat) (codes : List Nat) : List (Nat × Byte) :=
  ((List.range d.vecs).map (fun v =>
    let c := (List.range 32).map (fun i => if 32 * v + i < d.channels then nthD d.etype.zero codes (32 * v + i) else d.etype.zero)
    run (d.vecAddr p v) (packCodes d.etype c))).flatten

/-- The writes of a row's scale entries. -/
def Desc.scaleWrites (d : Desc) (p : Nat) (scales : List Nat) : List (Nat × Byte) :=
  if d.stype = .none then []
  else run (d.scaleAddr p 0) ((scales.map (leBytes d.stype.bytes)).flatten)

/-- The bytes of one side record (Table NUM-4). -/
def sideBytes (slots : List (Nat × Nat)) : List Byte :=
  ((List.range 8).map (fun i =>
    match slots[i]? with
    | some x => leBytes 4 (x.2 * 65536 + 32768 + x.1 % 128)
    | none => leBytes 4 0)).flatten

/-- The writes of a row's side records. -/
def Desc.sideWrites (d : Desc) (p : Nat) (sides : List (List (Nat × Nat))) : List (Nat × Byte) :=
  if d.esc then run (d.sideAddr p 0) ((sides.map sideBytes).flatten) else []

/-- Everything a row's writing stores; scales only where they were computed or are to be stored. -/
def Desc.rowWrites (d : Desc) (p : Nat) (q : QRow) (withScales : Bool) : List (Nat × Byte) :=
  d.dataWrites p q.codes ++ (if withScales then d.scaleWrites p q.scales else []) ++ d.sideWrites p q.sides

/-- The value FP32 rows of a tensor written by conversion or computed-scale quantisation, with their counts. -/
def writeRows (d : Desc) (escMax ratio : Nat) (rows : List (Nat × List F32)) : List (Nat × Byte) × Counts :=
  let qs := rows.map (fun r => (r.1, quantRow d escMax ratio none r.2))
  ((qs.map (fun r => d.rowWrites r.1 r.2 true)).flatten, Counts.sum (qs.map (fun r => r.2.counts)))

end Sys2Proof.Machine
end

