-- ==== Sys2Proof/Machine/Control.lean ====
section
/-! DEFINITION. Issue, traps and the control words (R213 to R229, R233 to R236). -/

namespace Sys2Proof.Machine

/-! Issue (R215, R218 to R220, R234). -/

/-- The rotation of a conductor's PRIO: thread numbers, the next to win first (R215). -/
def State.rotation (s : State) (c prio : Nat) : List Nat := look (List.range 8) s.rot (c * 4 + prio)

/-- A thread moves to the back of its rotation (R215). -/
def toBack (c prio k : Nat) (s : State) : State :=
  { s with rot := put (List.range 8) s.rot (c * 4 + prio) (takeOut (s.rotation c prio) k ++ [k]) }

/-- Does the conductor choose this thread in this step (R215)? -/
def chosen (s : State) (t : Who) : Bool :=
  let c := t.c.val
  let x := s.thr t.num
  let ready (k : Nat) : Bool := (s.thr (c * 8 + k)).state == .ready
  x.state == .ready
    && (List.range 8).all (fun k => !ready k || decide ((s.thr (c * 8 + k)).prio ≤ x.prio))
    && (s.rotation c x.prio).find? (fun k => ready k && (s.thr (c * 8 + k)).prio == x.prio) == some t.k.val

/-- What an instruction does once its decode checks pass and its guard holds. -/
inductive Effect where
  /-- It completes; the PC passes its last word. -/
  | pass (s : State)
  /-- A taken branch (R224). -/
  | jump (s : State) (target : Word32)
  /-- The thread is left as the state says: halted, held or returned. -/
  | stay (s : State)
  /-- It traps, with no effect: cause, event, details and tag field. -/
  | trap (cause event info0 info1 tag : Nat)
  /-- It traps after an event of its own has been raised. -/
  | refused (s : State) (cause event info0 info1 tag : Nat)

/-- The event of a trap cause (Table SPM-7); causes 0x01 to 0x0A are descriptor checks (DEDUCED, log entry 94). -/
def trapEvent (cause : Nat) : Nat :=
  if cause ≤ 10 then 0x040C
  else match cause with
    | 0x10 => 0x0405 | 0x11 => 0x0405 | 0x12 => 0x0406 | 0x13 => 0x0407 | 0x14 => 0x0407 | 0x15 => 0x040C
    | 0x16 => 0x0408 | 0x17 => 0x040B | 0x18 => 0x0408 | 0x19 => 0x0409 | 0x1A => 0x040A | _ => 0x0405

/-- A synchronous trap (R235): its record, TRA, TRAPS, and the handler or the halt (DEDUCED, log entry 94). -/
def takeTrap (t : Who) (cause event info0 info1 tag : Nat) (s : State) : State :=
  let c := t.c.val
  let k := t.k.val
  let x := s.thr t.num
  let s1 := if x.tm then s
    else writeRecord c (16384 + 32 * k) event cause (128 + k) tag x.pc.toNat info0 info1 s
  let s2 := bump (0x00090008 + c * 0x400) 1 s1
  match x.tm, (s.program? x.program).bind Program.trapEntry with
  | false, some e =>
    setThr t.num { x with tra := x.pc, tm := true, pc := BitVec.ofNat 32 e } s2
  | false, none =>
    raise (atThread 0x0401 c k 0 0) (setThr t.num { x with tra := x.pc, state := .halted } s2)
  | true, _ =>
    raise (atThread 0x0402 c k cause x.pc.toNat) (setThr t.num { x with tra := x.pc, state := .halted } s2)

/-- The PC past an instruction of n words that took no branch, with the loop count of R224. -/
def Thread.advance (x : Thread) (n : Nat) : Thread :=
  let next := x.pc + BitVec.ofNat 32 n
  match x.loops with
  | [] => { x with pc := next }
  | top :: rest =>
    if top.stop = x.pc.toNat + n - 1 then
      if 1 < top.count then { x with pc := BitVec.ofNat 32 top.start, loops := { top with count := top.count - 1 } :: rest }
      else { x with pc := next, loops := rest }
    else { x with pc := next }

/-- A taken branch: every entry whose body does not contain the target is popped (R224) (DEDUCED, log entry 13). -/
def Thread.branch (x : Thread) (target : Word32) : Thread :=
  { x with pc := target,
           loops := x.loops.filter (fun e => decide (e.start ≤ target.toNat) && decide (target.toNat ≤ e.stop)) }

/-- How an instruction's decode is checked (R234): its words, opcode class, and its first illegal field's word. -/
structure Form where
  words : List Word64
  legal : Bool := true
  hubOnly : Bool := false
  priv : Bool := false
  bad : Option Nat := none
  /-- The guard: PG and PN (R220). -/
  pg : Nat
  pn : Bool
  /-- The tag field of records, 0xFFFF without a tag (Table SPM-8). -/
  tag : Nat := 0xFFFF

/-- Bits of the first word. -/
def Form.word0 (f : Form) : Nat := (f.words.headD 0).toNat

/-- What becomes of the thread: an instruction of n words issued in a state. -/
def Effect.carry (t : Who) (n : Nat) (s0 : State) : Effect → State
  | .pass s1 => onThr t.num (fun y => y.advance n) s1
  | .jump s1 target => onThr t.num (fun y => y.branch target) s1
  | .stay s1 => s1
  | .trap cause event i0 i1 tag => takeTrap t cause event i0 i1 tag s0
  | .refused s1 cause event i0 i1 tag => takeTrap t cause event i0 i1 tag s1

/-- Words of the code of a thread's program. -/
def codeLength (s : State) (t : Who) : Nat :=
  match s.program? (s.thr t.num).program with
  | some p => p.codeWords
  | none => 0

/-- Does an instruction of n words at a thread's PC stay inside the loop body it is in (R224)? -/
def insideLoop (s : State) (t : Who) (n : Nat) : Bool :=
  match (s.thr t.num).loops with
  | [] => true
  | top :: _ => !(decide (top.start ≤ (s.thr t.num).pc.toNat) && decide ((s.thr t.num).pc.toNat ≤ top.stop)
      && decide (top.stop < (s.thr t.num).pc.toNat + n - 1))

/-- An instruction carried out for the chosen thread: the checks of R234 in order, the guard, its work, and the PC. -/
def issue (t : Who) (f : Form) (body : State → Effect) (s : State) : State :=
  if !chosen s t then s
  else
    let x := s.thr t.num
    let s0 := toBack t.c.val x.prio t.k.val s
    let n := f.words.length
    let code := codeLength s t
    let fail (cause i1 : Nat) : State := takeTrap t cause (trapEvent cause) f.word0 i1 f.tag s0
    if code < x.pc.toNat + n then takeTrap t 0x18 (trapEvent 0x18) x.pc.toNat code 0xFFFF s0
    else if !f.legal || (f.hubOnly && decide (4 ≤ t.c.val)) then fail 0x10 0
    else if !insideLoop s t n then
      takeTrap t 0x11 (trapEvent 0x11) f.word0 (s.drawn % n) f.tag (skipFree 1 s0)
    else
      match f.bad with
      | some i => fail 0x11 i
      | none =>
        if f.priv && !x.priv then fail 0x12 0
        else if x.pred f.pg == f.pn then onThr t.num (fun y => y.advance n) s0
        else
          (body s0).carry t n s0

/-- A trap with its cause's own event. -/
def Effect.fail (cause i0 i1 tag : Nat) : Effect := .trap cause (trapEvent cause) i0 i1 tag

/-! Control words (R222). -/

/-- An instruction's first word from its opcode and the command's bits. -/
def fullWord (op : Nat) (w : Head) : Word64 := BitVec.ofNat 8 op ++ w

/-- A control word's form: guard in [55:53] and [52]; bits that must be 0 decide the illegal field. -/
def control (op : Nat) (w : Head) (fieldsOk : Bool) (priv : Bool := false) : Form :=
  { words := [fullWord op w], priv := priv, bad := if fieldsOk then none else some 0,
    pg := bits w.toNat 55 53, pn := bit w.toNat 52 }

/-- Bits [hi:lo] of a command's word. -/
def fld (w : Head) (hi lo : Nat) : Nat := bits w.toNat hi lo

/-- Sign extension of a field to 64 bits. -/
def sext (n x : Nat) : Word64 := BitVec.ofInt 64 (signed n x)

/-- The thread's register named by a field. -/
def State.g (s : State) (t : Who) (i : Nat) : Word64 := (s.thr t.num).reg i

/-- A register written. -/
def setG (t : Who) (i : Nat) (v : Word64) (s : State) : State := onThr t.num (fun x => x.setReg i v) s

/-- A predicate written. -/
def setP (t : Who) (i : Nat) (v : Bool) (s : State) : State := onThr t.num (fun x => x.setPred i v) s

/-- An R-format instruction: RD ← RA op RB. -/
def opR (op : Nat) (f : Word64 → Word64 → Word64) (t : Who) (w : Head) (s : State) : State :=
  issue t (control op w (fld w 33 0 == 0))
    (fun s => .pass (setG t (fld w 51 46) (f (s.g t (fld w 45 40)) (s.g t (fld w 39 34))) s)) s

/-- An I-format instruction: RD ← RA op IMM40. -/
def opI (op : Nat) (f : Word64 → Word64 → Word64) (t : Who) (w : Head) (s : State) : State :=
  issue t (control op w true)
    (fun s => .pass (setG t (fld w 51 46) (f (s.g t (fld w 45 40)) (sext 40 (fld w 39 0))) s)) s

/-- The unsigned quotient; by 0 all ones (R223). -/
def divu (a b : Word64) : Word64 := if b = 0 then 0xFFFFFFFFFFFFFFFF#64 else a / b
/-- The unsigned remainder; by 0 the dividend (R223). -/
def remu (a b : Word64) : Word64 := if b = 0 then a else a % b
/-- The high half of the unsigned product (R223). -/
def mulhu (a b : Word64) : Word64 := BitVec.ofNat 64 (a.toNat * b.toNat / 2 ^ 64)
/-- Shift amounts are the low six bits (R223). -/
def shamt (b : Word64) : Nat := b.toNat % 64
/-- Shift left. -/
def shlW (a b : Word64) : Word64 := a <<< shamt b
/-- Logical shift right. -/
def shrW (a b : Word64) : Word64 := a >>> shamt b
/-- Arithmetic shift right. -/
def sarW (a b : Word64) : Word64 := a.sshiftRight (shamt b)
/-- Signed minimum. -/
def minW (a b : Word64) : Word64 := if a.slt b then a else b
/-- Signed maximum. -/
def maxW (a b : Word64) : Word64 := if a.slt b then b else a
/-- Unsigned minimum. -/
def minuW (a b : Word64) : Word64 := if a < b then a else b
/-- Unsigned maximum. -/
def maxuW (a b : Word64) : Word64 := if a < b then b else a

/-- COND codes 0 to 5: EQ, NE, LT, GE, LTU, GEU (R222). -/
def cond (code : Nat) (a b : Word64) : Bool :=
  match code with
  | 0 => a == b
  | 1 => a != b
  | 2 => a.slt b
  | 3 => !a.slt b
  | 4 => decide (a < b)
  | _ => decide (b ≤ a)

/-- NOP (R222). -/
def effNop (t : Who) (w : Head) (s : State) : State := issue t (control 0x01 w (fld w 51 0 == 0)) (fun s => .pass s) s

/-- B: PC ← PC + OFF32. -/
def effB (t : Who) (w : Head) (s : State) : State :=
  issue t (control 0x02 w (fld w 51 32 == 0)) (fun s => .jump s ((s.thr t.num).pc + BitVec.ofNat 32 (fld w 31 0))) s

/-- CALL: RD ← PC + 1; PC ← PC + OFF32; RA is not used and 0 (DEDUCED, log entry 11). -/
def effCall (t : Who) (w : Head) (s : State) : State :=
  issue t (control 0x03 w (fld w 39 32 == 0))
    (fun s =>
      let pc := (s.thr t.num).pc
      .jump (setG t (fld w 51 46) ((pc + 1).setWidth 64) s) (pc + BitVec.ofNat 32 (fld w 31 0))) s

/-- JR: RD ← PC + 1; PC ← RA[31:0], RA read before RD is written. -/
def effJr (t : Who) (w : Head) (s : State) : State :=
  issue t (control 0x04 w (fld w 39 0 == 0))
    (fun s =>
      .jump (setG t (fld w 51 46) (((s.thr t.num).pc + 1).setWidth 64) s) ((s.g t (fld w 45 40)).setWidth 32)) s

/-- A LOOP of count 0 passes the LEN words, unless it ends the body around it and that repeats (R224). -/
def Thread.skip (x : Thread) (len : Nat) : Thread :=
  let y := x.advance 1
  if y.pc = x.pc + 1 then { y with pc := x.pc + 1 + BitVec.ofNat 32 len } else y

/-- A body of LEN words pushed for n iterations; the LOOP may itself stand at its end when LEN is 0 (R224) (DEDUCED, log entry 25). -/
def Thread.enter (x : Thread) (len n : Nat) : Thread :=
  { x with loops := ⟨x.pc.toNat + 1, x.pc.toNat + len, n⟩ :: x.loops }.advance 1

/-- LOOP (R224) (DEDUCED, log entry 25). -/
def effLoop (t : Who) (w : Head) (s : State) : State :=
  issue t (control 0x05 w (fld w 51 46 == 0 && fld w 39 16 == 0))
    (fun s =>
      let x := s.thr t.num
      let n := (s.g t (fld w 45 40)).toNat
      let len := fld w 15 0
      if n = 0 then .stay (setThr t.num (x.skip len) s)
      else if x.loops.length = 4 then .fail 0x17 n 4 0xFFFF
      else .stay (setThr t.num (x.enter len n) s)) s

/-- CMP: PD ← (RA COND RB). -/
def effCmp (t : Who) (w : Head) (s : State) : State :=
  issue t (control 0x08 w (fld w 33 0 == 0 && decide (fld w 48 46 < 6)))
    (fun s => .pass (setP t (fld w 51 49) (cond (fld w 48 46) (s.g t (fld w 45 40)) (s.g t (fld w 39 34))) s)) s

/-- CMPI: PD ← (RA COND IMM40). -/
def effCmpi (t : Who) (w : Head) (s : State) : State :=
  issue t (control 0x09 w (decide (fld w 48 46 < 6)))
    (fun s => .pass (setP t (fld w 51 49) (cond (fld w 48 46) (s.g t (fld w 45 40)) (sext 40 (fld w 39 0))) s)) s

/-- A P-format instruction: PD ← PA op PB. -/
def opP (op : Nat) (f : Bool → Bool → Bool) (t : Who) (w : Head) (s : State) : State :=
  issue t (control op w (fld w 42 0 == 0))
    (fun s =>
      let x := s.thr t.num
      .pass (setP t (fld w 51 49) (f (x.pred (fld w 48 46)) (x.pred (fld w 45 43))) s)) s

/-- LI: RD ← IMM46, sign-extended. -/
def effLi (t : Who) (w : Head) (s : State) : State :=
  issue t (control 0x27 w true) (fun s => .pass (setG t (fld w 51 46) (sext 46 (fld w 45 0)) s)) s

/-- LUI: RD[63:32] ← IMM46[31:0]; RD[31:0] kept; IMM46[45:32] must be 0. -/
def effLui (t : Who) (w : Head) (s : State) : State :=
  issue t (control 0x28 w (fld w 45 32 == 0))
    (fun s => .pass (setG t (fld w 51 46)
      (BitVec.ofNat 64 (fld w 31 0 * 2 ^ 32 + (s.g t (fld w 51 46)).toNat % 2 ^ 32)) s)) s

/-- The address of a load or store: RA + IMM40. -/
def dataAddr (s : State) (t : Who) (w : Head) : Nat := (s.g t (fld w 45 40) + sext 40 (fld w 39 0)).toNat

/-- The value a scalar load returns: the bytes, or 0 from a poisoned line (R303, DEDUCED, log entry 12). -/
def loadValue (s : State) (a n : Nat) : Nat := if s.mem.poisoned a then 0 else s.mem.readLe a n

/-- LD of n bytes (R222, R225) (DEDUCED, log entry 12). -/
def effLd (op n : Nat) (t : Who) (w : Head) (s : State) : State :=
  issue t (control op w true)
    (fun s =>
      let a := dataAddr s t w
      if scalarOk s (s.thr t.num).program a n then
        let v := loadValue s a n
        let s1 := setG t (fld w 51 46) (BitVec.ofNat 64 v) (wakeBanks [a] s)
        .pass (if s.mem.poisoned a then raise (atThread 0x0502 t.c.val t.k.val (a / 64 * 64) 0) s1 else s1)
      else .fail 0x16 a n 0xFFFF) s

/-- ST of n bytes (R222, R225). -/
def effSt (op n : Nat) (t : Who) (w : Head) (s : State) : State :=
  issue t (control op w true)
    (fun s =>
      let a := dataAddr s t w
      if scalarOk s (s.thr t.num).program a n then
        .pass (writeMem (run a (leBytes n (s.g t (fld w 51 46)).toNat)) (wakeBanks [a] s))
      else .fail 0x16 a n 0xFFFF) s

/-- YIELD: the thread moves to the back of its rotation. -/
def effYield (t : Who) (w : Head) (s : State) : State :=
  issue t (control 0x30 w (fld w 51 0 == 0))
    (fun s => .pass (toBack t.c.val (s.thr t.num).prio t.k.val s)) s

/-- Opcodes the tables assign (Tables SPM-6, STI-1). -/
def assignedOps : List Nat :=
  [0x01, 0x02, 0x03, 0x04, 0x05, 0x08, 0x09, 0x0A, 0x0B, 0x0C, 0x0D] ++ (List.range 16).map (0x10 + ·) ++
  (List.range 9).map (0x20 + ·) ++ [0x2C, 0x2D, 0x2E, 0x2F] ++ (List.range 11).map (0x30 + ·) ++
  [0x3C, 0x3D, 0x3E, 0x3F, 0x80, 0x81] ++ (List.range 7).map (0x88 + ·) ++ [0xA0, 0xA8, 0xA9, 0xAA, 0xAB, 0xAC] ++
  (List.range 5).map (0xC0 + ·) ++ [0xC8, 0xC9, 0xD0, 0xD1, 0xD8, 0xD9] ++ (List.range 6).map (0xE0 + ·)

/-- TRAP (cause 0x1A), or any word of an opcode no table assigns (cause 0x10, R219). A word of another assigned opcode
is no TRAP and does nothing here: its own command carries it out. -/
def effTrap (t : Who) (w : Word64) (s : State) : State :=
  let op := bits w.toNat 63 56
  if op = 0x31 then
    issue t { words := [w], bad := if bits w.toNat 51 16 = 0 then none else some 0,
              pg := bits w.toNat 55 53, pn := bit w.toNat 52 }
      (fun _ => .fail 0x1A (bits w.toNat 15 0) 0 0xFFFF) s
  else if assignedOps.contains op then s
  else issue t { words := [w], legal := false, pg := 0, pn := false } (fun s => .pass s) s

/-- ERET: PC ← RA[31:0]; TM ← 0; the loop stack stays, but for the entries that its branch leaves (R222, R224) (DEDUCED, log entry 13). -/
def effEret (t : Who) (w : Head) (s : State) : State :=
  issue t (control 0x32 w (fld w 45 0 == 0))
    (fun s => .stay (onThr t.num (fun x => { x.branch ((x.reg (fld w 51 46)).setWidth 32) with tm := false }) s)) s

/-- HALT (R233). -/
def effHalt (t : Who) (w : Head) (s : State) : State :=
  issue t (control 0x33 w (fld w 51 0 == 0))
    (fun s => .stay (onThr t.num (fun x => { x.advance 1 with state := .halted }) s)) s

/-- TID: RD ← 8 × conductor + thread. -/
def effTid (t : Who) (w : Head) (s : State) : State :=
  issue t (control 0x39 w (fld w 45 0 == 0)) (fun s => .pass (setG t (fld w 51 46) (BitVec.ofNat 64 t.num) s)) s

/-- TKILL (R233): the named thread stops; a held instruction is abandoned (DEDUCED, log entry 26). -/
def effTkill (t : Who) (w : Head) (s : State) : State :=
  issue t (control 0x38 w (fld w 51 46 == 0 && fld w 37 0 == 0 && decide (fld w 45 41 < 20)) true)
    (fun s =>
      let n := fld w 45 41 * 8 + fld w 40 38
      let s0 := onThr t.num (fun x => x.advance 1) s
      let s1 := { s0 with arr := { s0.arr with sweeps := { s0.arr.sweeps with
        waiting := s0.arr.sweeps.waiting.filter (fun y => y.c * 8 + y.k != n) } } }
      .stay (onThr n (fun x =>
        if x.state = .ready ∨ x.state = .waiting then { x with state := .stopping, held := none } else x) s1)) s

/-- A thread's tags, by number. -/
def Thread.ownTags (x : Thread) : List Nat := (List.range x.tagCount).map (x.tagBase + ·)

/-- Is any tag of a range PENDING? -/
def anyPending (s : State) (c : Nat) (tags : List Nat) : Bool := tags.any (fun g => s.tag c g == .pending)

/-- A STOPPING thread none of whose tags is PENDING becomes IDLE (R233) (DEDUCED, log entry 26). -/
def effThreadStopped (t : Who) (s : State) : State :=
  let x := s.thr t.num
  if x.state = .stopping ∧ !anyPending s t.c.val x.ownTags then setThr t.num {} s else s

/-! Tags (R226 to R229). -/

/-- The trap of a tag that may not be issued on (R226), if any. -/
def tagFault (s : State) (t : Who) (tag : Nat) : Option Effect :=
  let x := s.thr t.num
  if tag < x.tagBase ∨ x.tagBase + x.tagCount ≤ tag then some (.fail 0x13 tag x.tagBase tag)
  else if s.tag t.c.val tag = .pending then some (.fail 0x14 tag 0 tag)
  else none

/-- The tags a WAIT names: bit i of the mask names TBASE + i (R227). -/
def namedTags (mask : Word64) (base : Nat) : List Nat :=
  ((List.range 64).filter (fun i => mask.getLsbD i)).map (base + ·)

/-- A named tag outside the thread's range (R227), if any. -/
def outside (x : Thread) (tags : List Nat) : Option Nat :=
  tags.find? (fun g => decide (g < x.tagBase) || decide (x.tagBase + x.tagCount ≤ g))

/-- A W-format control word's form. -/
def controlW (op : Nat) (w : Head) (ok : Bool) : Form := control op w (fld w 36 27 == 0 && fld w 15 0 == 0 && ok)

/-- WAIT.ALL carried out: none when it must hold (R227). -/
def waitAllNow (t : Who) (pd : Nat) (tags : List Nat) (s : State) : Option State :=
  let c := t.c.val
  if anyPending s c tags then none
  else
    let faulted := tags.any (fun g => s.tag c g == .faulted)
    let s1 := tags.foldl (fun u g => if u.tag c g = .done then setTag c g .free u else u) s
    some (setP t pd faulted s1)

/-- WAIT.ANY carried out: none when it must hold (R227). -/
def waitAnyNow (t : Who) (rd pd : Nat) (tags : List Nat) (s : State) : Option State :=
  let c := t.c.val
  match tags.find? (fun g => s.tag c g == .done || s.tag c g == .faulted) with
  | some g =>
    some (setP t pd (s.tag c g == .faulted) (setG t rd (BitVec.ofNat 64 g) (setTag c g .free s)))
  | none =>
    if anyPending s c tags then none
    else some (setP t pd false (setG t rd 0xFFFFFFFFFFFFFFFF#64 s))

/-- FENCE may complete: no transaction of the thread is PENDING (R229) (DEDUCED, log entry 95). -/
def fenceOpen (s : State) (t : Who) : Bool := !s.txs.any (fun x => x.c == t.c.val && x.k == t.k.val)

/-- A thread held at its instruction (R214). -/
def hold (t : Who) (k : HoldKind) (ws : List Word64) (s : State) : State :=
  onThr t.num (fun x => { x with state := .waiting, held := some ⟨k, ws⟩ }) s

/-- A held instruction completes: the thread passes it and is READY. -/
def unhold (t : Who) (n : Nat) (s : State) : State :=
  onThr t.num (fun x => { x.advance n with state := .ready, held := none }) s

/-- WAIT.ALL (R227). -/
def effWaitAll (t : Who) (w : Head) (s : State) : State :=
  issue t (controlW 0x3C w (fld w 51 46 == 0 && fld w 17 16 == 0))
    (fun s =>
      let tags := namedTags (s.g t (fld w 45 40)) (fld w 26 18)
      match outside (s.thr t.num) tags with
      | some g => .fail 0x13 g (s.thr t.num).tagBase 0xFFFF
      | none =>
        match waitAllNow t (fld w 39 37) tags s with
        | some s1 => .pass s1
        | none => .stay (hold t .waitAll [fullWord 0x3C w] s)) s

/-- WAIT.ANY (R227). -/
def effWaitAny (t : Who) (w : Head) (s : State) : State :=
  issue t (controlW 0x3D w (fld w 17 16 == 0))
    (fun s =>
      let tags := namedTags (s.g t (fld w 45 40)) (fld w 26 18)
      match outside (s.thr t.num) tags with
      | some g => .fail 0x13 g (s.thr t.num).tagBase 0xFFFF
      | none =>
        match waitAnyNow t (fld w 51 46) (fld w 39 37) tags s with
        | some s1 => .pass s1
        | none => .stay (hold t .waitAny [fullWord 0x3D w] s)) s

/-- A held instruction's word. -/
def Held.word (h : Held) : Nat := (h.words.headD 0).toNat

/-- A held WAIT ends when its condition holds, and completes as one instruction (R227). -/
def effWaitRelease (t : Who) (s : State) : State :=
  let x := s.thr t.num
  match x.state, x.held with
  | .waiting, some h =>
    let f (hi lo : Nat) : Nat := bits h.word hi lo
    let tags := namedTags (s.g t (f 45 40)) (f 26 18)
    match h.kind with
    | .waitAll =>
      match waitAllNow t (f 39 37) tags s with
      | some s1 => unhold t 1 s1
      | none => s
    | .waitAny =>
      match waitAnyNow t (f 51 46) (f 39 37) tags s with
      | some s1 => unhold t 1 s1
      | none => s
    | _ => s
  | _, _ => s

/-- FENCE (R229) (DEDUCED, log entry 95). -/
def effFence (t : Who) (w : Head) (s : State) : State :=
  issue t (control 0x3E w (fld w 51 0 == 0))
    (fun s => if fenceOpen s t then .pass s else .stay (hold t .fence [fullWord 0x3E w] s)) s

/-- A held FENCE ends (R229). -/
def effFenceRelease (t : Who) (s : State) : State :=
  let x := s.thr t.num
  match x.state, x.held with
  | .waiting, some h => if h.kind = .fence ∧ fenceOpen s t then unhold t 1 s else s
  | _, _ => s

/-- The tag state WHICH names (R222) (DEDUCED, log entry 24). -/
def whichState : Nat → TagState
  | 0 => .pending | 1 => .done | _ => .faulted

/-- TSTAT: RD ← mask of the window's tags in state WHICH, the window being the 64 tags from TBASE (R222, R226) (DEDUCED, log entry 24). -/
def effTstat (t : Who) (w : Head) (s : State) : State :=
  issue t (controlW 0x3F w (decide (fld w 17 16 < 3)))
    (fun s =>
      let m := (List.range 64).foldl (fun a i =>
        if s.tag t.c.val (fld w 26 18 + i) = whichState (fld w 17 16) ∧ fld w 26 18 + i < 512 then a + 2 ^ i else a) 0
      .pass (setG t (fld w 51 46) (BitVec.ofNat 64 m) s)) s

/-! The meanings. -/

/-- ADD: RD ← RA op RB (R222, R223). -/
def execAdd (t : Who) (w : Head) (s : State) : Host.Outcome State Fault Refusal := done (opR 0x10 (· + ·) t w s)

/-- SUB: RD ← RA op RB (R222, R223). -/
def execSub (t : Who) (w : Head) (s : State) : Host.Outcome State Fault Refusal := done (opR 0x11 (· - ·) t w s)

/-- MUL: RD ← RA op RB (R222, R223). -/
def execMul (t : Who) (w : Head) (s : State) : Host.Outcome State Fault Refusal := done (opR 0x12 (· * ·) t w s)

/-- MULHU: RD ← RA op RB (R222, R223). -/
def execMulhu (t : Who) (w : Head) (s : State) : Host.Outcome State Fault Refusal := done (opR 0x13 Sys2Proof.Machine.mulhu t w s)

/-- DIVU: RD ← RA op RB (R222, R223). -/
def execDivu (t : Who) (w : Head) (s : State) : Host.Outcome State Fault Refusal := done (opR 0x14 Sys2Proof.Machine.divu t w s)

/-- REMU: RD ← RA op RB (R222, R223). -/
def execRemu (t : Who) (w : Head) (s : State) : Host.Outcome State Fault Refusal := done (opR 0x15 Sys2Proof.Machine.remu t w s)

/-- AND: RD ← RA op RB (R222, R223). -/
def execAnd (t : Who) (w : Head) (s : State) : Host.Outcome State Fault Refusal := done (opR 0x16 (· &&& ·) t w s)

/-- OR: RD ← RA op RB (R222, R223). -/
def execOr (t : Who) (w : Head) (s : State) : Host.Outcome State Fault Refusal := done (opR 0x17 (· ||| ·) t w s)

/-- XOR: RD ← RA op RB (R222, R223). -/
def execXor (t : Who) (w : Head) (s : State) : Host.Outcome State Fault Refusal := done (opR 0x18 (· ^^^ ·) t w s)

/-- SHL: RD ← RA op RB (R222, R223). -/
def execShl (t : Who) (w : Head) (s : State) : Host.Outcome State Fault Refusal := done (opR 0x19 shlW t w s)

/-- SHR: RD ← RA op RB (R222, R223). -/
def execShr (t : Who) (w : Head) (s : State) : Host.Outcome State Fault Refusal := done (opR 0x1A shrW t w s)

/-- SAR: RD ← RA op RB (R222, R223). -/
def execSar (t : Who) (w : Head) (s : State) : Host.Outcome State Fault Refusal := done (opR 0x1B sarW t w s)

/-- MIN: RD ← RA op RB (R222, R223). -/
def execMin (t : Who) (w : Head) (s : State) : Host.Outcome State Fault Refusal := done (opR 0x1C minW t w s)

/-- MAX: RD ← RA op RB (R222, R223). -/
def execMax (t : Who) (w : Head) (s : State) : Host.Outcome State Fault Refusal := done (opR 0x1D maxW t w s)

/-- MINU: RD ← RA op RB (R222, R223). -/
def execMinu (t : Who) (w : Head) (s : State) : Host.Outcome State Fault Refusal := done (opR 0x1E minuW t w s)

/-- MAXU: RD ← RA op RB (R222, R223). -/
def execMaxu (t : Who) (w : Head) (s : State) : Host.Outcome State Fault Refusal := done (opR 0x1F maxuW t w s)

/-- ADDI: RD ← RA op IMM40 (R222, R223). -/
def execAddi (t : Who) (w : Head) (s : State) : Host.Outcome State Fault Refusal := done (opI 0x20 (· + ·) t w s)

/-- ANDI: RD ← RA op IMM40 (R222, R223). -/
def execAndi (t : Who) (w : Head) (s : State) : Host.Outcome State Fault Refusal := done (opI 0x21 (· &&& ·) t w s)

/-- ORI: RD ← RA op IMM40 (R222, R223). -/
def execOri (t : Who) (w : Head) (s : State) : Host.Outcome State Fault Refusal := done (opI 0x22 (· ||| ·) t w s)

/-- XORI: RD ← RA op IMM40 (R222, R223). -/
def execXori (t : Who) (w : Head) (s : State) : Host.Outcome State Fault Refusal := done (opI 0x23 (· ^^^ ·) t w s)

/-- SHLI: RD ← RA op IMM40 (R222, R223). -/
def execShli (t : Who) (w : Head) (s : State) : Host.Outcome State Fault Refusal := done (opI 0x24 shlW t w s)

/-- SHRI: RD ← RA op IMM40 (R222, R223). -/
def execShri (t : Who) (w : Head) (s : State) : Host.Outcome State Fault Refusal := done (opI 0x25 shrW t w s)

/-- SARI: RD ← RA op IMM40 (R222, R223). -/
def execSari (t : Who) (w : Head) (s : State) : Host.Outcome State Fault Refusal := done (opI 0x26 sarW t w s)

/-- PAND: PD ← PA op PB (R222). -/
def execPand (t : Who) (w : Head) (s : State) : Host.Outcome State Fault Refusal := done (opP 0x0A (fun a b => a && b) t w s)

/-- POR: PD ← PA op PB (R222). -/
def execPor (t : Who) (w : Head) (s : State) : Host.Outcome State Fault Refusal := done (opP 0x0B (fun a b => a || b) t w s)

/-- PXOR: PD ← PA op PB (R222). -/
def execPxor (t : Who) (w : Head) (s : State) : Host.Outcome State Fault Refusal := done (opP 0x0C (fun a b => a != b) t w s)

/-- PANDN: PD ← PA op PB (R222). -/
def execPandn (t : Who) (w : Head) (s : State) : Host.Outcome State Fault Refusal := done (opP 0x0D (fun a b => a && !b) t w s)

/-- NOP (R222). -/
def execNop (t : Who) (w : Head) (s : State) : Host.Outcome State Fault Refusal := done (effNop t w s)

/-- B (R222). -/
def execB (t : Who) (w : Head) (s : State) : Host.Outcome State Fault Refusal := done (effB t w s)

/-- CALL (R222). -/
def execCall (t : Who) (w : Head) (s : State) : Host.Outcome State Fault Refusal := done (effCall t w s)

/-- JR (R222). -/
def execJr (t : Who) (w : Head) (s : State) : Host.Outcome State Fault Refusal := done (effJr t w s)

/-- LOOP (R224). -/
def execLoop (t : Who) (w : Head) (s : State) : Host.Outcome State Fault Refusal := done (effLoop t w s)

/-- CMP (R222). -/
def execCmp (t : Who) (w : Head) (s : State) : Host.Outcome State Fault Refusal := done (effCmp t w s)

/-- CMPI (R222). -/
def execCmpi (t : Who) (w : Head) (s : State) : Host.Outcome State Fault Refusal := done (effCmpi t w s)

/-- LI (R222). -/
def execLi (t : Who) (w : Head) (s : State) : Host.Outcome State Fault Refusal := done (effLi t w s)

/-- LUI (R222). -/
def execLui (t : Who) (w : Head) (s : State) : Host.Outcome State Fault Refusal := done (effLui t w s)

/-- YIELD (R222). -/
def execYield (t : Who) (w : Head) (s : State) : Host.Outcome State Fault Refusal := done (effYield t w s)

/-- ERET (R222). -/
def execEret (t : Who) (w : Head) (s : State) : Host.Outcome State Fault Refusal := done (effEret t w s)

/-- HALT (R233). -/
def execHalt (t : Who) (w : Head) (s : State) : Host.Outcome State Fault Refusal := done (effHalt t w s)

/-- TID (R222). -/
def execTid (t : Who) (w : Head) (s : State) : Host.Outcome State Fault Refusal := done (effTid t w s)

/-- TKILL (R233). -/
def execTkill (t : Who) (w : Head) (s : State) : Host.Outcome State Fault Refusal := done (effTkill t w s)

/-- WAIT.ALL (R227). -/
def execWaitAll (t : Who) (w : Head) (s : State) : Host.Outcome State Fault Refusal := done (effWaitAll t w s)

/-- WAIT.ANY (R227). -/
def execWaitAny (t : Who) (w : Head) (s : State) : Host.Outcome State Fault Refusal := done (effWaitAny t w s)

/-- FENCE (R229). -/
def execFence (t : Who) (w : Head) (s : State) : Host.Outcome State Fault Refusal := done (effFence t w s)

/-- TSTAT (R222). -/
def execTstat (t : Who) (w : Head) (s : State) : Host.Outcome State Fault Refusal := done (effTstat t w s)

/-- LD.64 (R225). -/
def execLd64 (t : Who) (w : Head) (s : State) : Host.Outcome State Fault Refusal := done (effLd 0x2C 8 t w s)

/-- LD.32 (R225). -/
def execLd32 (t : Who) (w : Head) (s : State) : Host.Outcome State Fault Refusal := done (effLd 0x2D 4 t w s)

/-- ST.64 (R225). -/
def execSt64 (t : Who) (w : Head) (s : State) : Host.Outcome State Fault Refusal := done (effSt 0x2E 8 t w s)

/-- ST.32 (R225). -/
def execSt32 (t : Who) (w : Head) (s : State) : Host.Outcome State Fault Refusal := done (effSt 0x2F 4 t w s)

/-- TRAP (R222, R235). -/
def execTrap (t : Who) (w : Word64) (s : State) : Host.Outcome State Fault Refusal := done (effTrap t w s)

/-- THREAD_STOPPED (R233). -/
def execThreadStopped (t : Who) (s : State) : Host.Outcome State Fault Refusal := done (effThreadStopped t s)

/-- WAIT_RELEASE (R227). -/
def execWaitRelease (t : Who) (s : State) : Host.Outcome State Fault Refusal := done (effWaitRelease t s)

/-- FENCE_RELEASE (R229). -/
def execFenceRelease (t : Who) (s : State) : Host.Outcome State Fault Refusal := done (effFenceRelease t s)

end Sys2Proof.Machine
end

