-- ==== Sys2Proof/Machine/Sign.lean ====
section
/-! DEFINITION. Owners, and the checks of signed objects (R406, R407, R415 to R418). -/

namespace Sys2Proof.Machine

/-- The current owner's slot: the highest written and not revoked (R415). -/
def currentOwner (s : State) : Option Nat :=
  ((List.range 4).reverse).find? (fun i => match s.sec.fuses.owners[i]? with
    | some o => !o.revoked
    | none => false)

/-- The current owner's key hash; 0 for none (R407). -/
def ownerHash (s : State) : Nat :=
  match (currentOwner s).bind (fun i => s.sec.fuses.owners[i]?) with
  | some o => o.hash
  | none => 0

/-- Bytes of the signature block that ends a signed object (Table SEC-6) (DEDUCED, log entry 100). -/
def sigBlock (bytes : List Byte) : List Byte := bytes.drop (bytes.length - 344)
/-- The signed message: every byte before the block (DEDUCED, log entry 100). -/
def sigMessage (bytes : List Byte) : List Byte := bytes.take (bytes.length - 344)

/-- SIGNER, KEY_INDEX, KEY_HASH and PUBKEY of a block. -/
def signer (b : List Byte) : Nat := leAt b 4 1
/-- KEY_INDEX. -/
def keyIndex (b : List Byte) : Nat := leAt b 5 1
/-- KEY_HASH. -/
def keyHash (b : List Byte) : Nat := beAt b 8 64
/-- PUBKEY. -/
def pubKey (b : List Byte) : List Byte := (b.drop 72).take 133

/-- Check 1 of R418: MAGIC, the reserved bytes, and KEY_HASH over PUBKEY. -/
def blockShaped (b : List Byte) : Bool :=
  b.length == 344 && leAt b 0 4 == 0x43474953 && leAt b 6 2 == 0 && leAt b 337 7 == 0 && keyHash b == Config.sha512 (pubKey b)
    && (signer b == 0 || signer b == 3 || keyIndex b == 0)

/-- Check 3 of R418: is the signer allowed? An object's model id matters for a publisher alone. -/
def signerAllowed (s : State) (b : List Byte) (model : Nat) : Bool :=
  match signer b with
  | 0 => decide (keyIndex b ≤ 3) && pubKey b == Config.romKey false (keyIndex b) && !s.sec.fuses.revoke.getLsbD (keyIndex b)
  | 3 => decide (keyIndex b ≤ 3) && pubKey b == Config.romKey true (keyIndex b) && !s.sec.fuses.revoke.getLsbD (4 + keyIndex b)
  | 1 => (currentOwner s).isSome && keyHash b == ownerHash s
  | 2 => s.sec.delegs.any (fun d => d.pubHash == keyHash b && (d.model == 0 || d.model == model))
  | _ => false

/-- The first check of R418 that refuses a block, 1 to 5; the curve's verdicts are operands (DESIGN CHOICE, log entry 9). -/
def blockCheck (s : State) (b : List Byte) (onCurve sigOk : Bool) (takes : Nat → Bool) (model : Nat) : Option Nat :=
  if !blockShaped b then some 1
  else if !onCurve then some 2
  else if !signerAllowed s b model then some 3
  else if !takes (signer b) then some 4
  else if !sigOk then some 5
  else none

/-- A signed object's first failing check. -/
def signedCheck (s : State) (o : SignedObj) (takes : Nat → Bool) (model : Nat) : Option Nat :=
  blockCheck s (sigBlock o.bytes) o.onCurve o.sigOk takes model

/-- SIG_REFUSED counts a refused object (Table SEC-8). -/
def refuseSig (s : State) : State := bump 0x00010060 1 s

end Sys2Proof.Machine
end

