-- ==== Sys2Proof/Machine/Program.lean ====
section
/-! DEFINITION. Programs: loading, starting and unloading them (R237 to R240). -/

namespace Sys2Proof.Machine

/-- A program image's header (Table SPM-9) read from memory. -/
structure Header where
  kind : Nat
  target : Nat
  svn : Nat
  codeWords : Nat
  dataBytes : Nat
  trapEntry : Nat
  entries : List Nat
  tagWords : List Nat
  prios : List Nat
  reservedOk : Bool
  deriving DecidableEq, Repr

/-- The header at an address. -/
def readHeader (m : Mem) (a : Nat) : Header :=
  let w (o n : Nat) : Nat := m.readLe (a + o) n
  { kind := w 6 1, target := w 7 1, svn := w 8 4, codeWords := w 12 4, dataBytes := w 16 4, trapEntry := w 20 4,
    entries := (List.range 8).map (fun k => w (24 + 4 * k) 4), tagWords := (List.range 8).map (fun k => w (56 + 4 * k) 4),
    prios := (List.range 8).map (fun k => w (88 + k) 1),
    reservedOk := w 0 4 == 0x594E4C53 && w 4 2 == 1 && w 96 32 == 0 }

/-- Check 1 of R238: every header field is legal (Table SPM-9). -/
def Header.legal (h : Header) : Bool :=
  let off (x : Nat) : Bool := x == 0xFFFFFFFF || decide (x < h.codeWords)
  h.reservedOk && decide (h.kind ≤ 1) && decide (h.target < 4) && decide (1 ≤ h.codeWords) && decide (h.codeWords ≤ 1048576)
    && decide (h.dataBytes ≤ 268435456) && off h.trapEntry && (h.kind == 1 || h.trapEntry != 0xFFFFFFFF)
    && h.entries.all off
    && h.tagWords.all (fun x => bits x 15 9 == 0 && bits x 31 26 == 0 && decide (bits x 25 16 ≤ 512))
    && h.prios.all (fun x => decide (x ≤ 3))

/-- Does the whole image, its signature block included, lie in one hub bank (R237, R238)? -/
def imageInHub (a : Nat) (h : Header) : Bool :=
  match bankOf a, bankOf (a + 471 + 8 * h.codeWords + h.dataBytes) with
  | some x, some y => x == y && decide (x < 8)
  | _, _ => false

/-- The addresses of an image. -/
def imageSpan (a : Nat) (h : Header) : List Nat := span a (472 + 8 * h.codeWords + h.dataBytes)

/-- The minimum SVN of a KIND (R238, R420). -/
def minSvn (s : State) (kind : Nat) : Nat := if kind = 0 then s.sec.fuses.fwMin else s.sec.fuses.svcMin

/-- An image's signature block in memory (R237). -/
def imageBlock (s : State) (a : Nat) (h : Header) : List Byte := s.mem.readN (a + 128 + 8 * h.codeWords + h.dataBytes) 344

/-- The first check of R238 that fails, 1 to 5 (DEDUCED, log entry 23). -/
def imageCheck (s : State) (a id : Nat) (h : Header) (onCurve sigOk : Bool) : Option Nat :=
  if !h.legal || !imageInHub a h then some 1
  else if (blockCheck s (imageBlock s a h) onCurve sigOk (· == h.kind) 0).isSome then some 2
  else if h.svn < minSvn s h.kind then some 3
  else if (s.program? id).isSome || id = 0 then some 4
  else if h.dataBytes ≠ 0 && (scratchBases s (ceilDiv h.dataBytes 65536 * 65536)).isEmpty then some 5
  else none

/-- A word offset or none. -/
def entryOf (x : Nat) : Option Nat := if x = 0xFFFFFFFF then none else some x

/-- A checked image becomes a program (R238): its code read-only until PUNLOAD, its data allocation made and filled (DESIGN CHOICE, log entry 21). -/
def installProgram (a id : Nat) (h : Header) (s : State) : State :=
  let size := ceilDiv h.dataBytes 65536 * 65536
  let bases := scratchBases s size
  let dh := if h.dataBytes = 0 then 0 else (freeHandle s).getD 0
  let base := if h.dataBytes = 0 then 0 else nthD 0 bases (s.drawn % Nat.max 1 bases.length)
  let s1 := skipFree 1 s
  let s2 := if h.dataBytes = 0 then s1 else { s1 with mem := s1.mem.addAlloc ⟨dh, 3, id, base, size⟩ }
  let s3 := { s2 with mem := { s2.mem with code := s2.mem.code ++ [(id, a + 128, 8 * h.codeWords)] } }
  let s4 := writeMem (run base (s.mem.readN (a + 128 + 8 * h.codeWords) h.dataBytes)) s3
  { s4 with programs := s4.programs ++
      [{ id := id, firmware := h.kind == 0, target := h.target, svn := h.svn, codeWords := h.codeWords,
         trapEntry := entryOf h.trapEntry, entries := h.entries.map entryOf,
         tagBases := h.tagWords.map (fun x => bits x 8 0), tagCounts := h.tagWords.map (fun x => bits x 25 16),
         prios := h.prios, codeBase := a + 128, dataHandle := dh, dataBase := base,
         digest := Config.sha512 ((imageSpan a h).map s.mem.read) }] }

/-- PLOAD (R238) (DEDUCED, log entry 23). -/
def effPload (t : Who) (w : Head) (s : State) : State :=
  let tag := fld w 39 31
  issue t { control 0x36 w (fld w 30 0 == 0) true with tag := tag }
    (fun s =>
      match tagFault s t tag with
      | some e => e
      | none =>
        .pass (addTx { c := t.c.val, tag := tag, k := t.k.val, pc := (s.thr t.num).pc.toNat,
                       op := .pload (s.g t (fld w 51 46)).toNat ((s.g t (fld w 45 40)).toNat % 256) } s)) s

/-- PLOAD completes with Chevik's verdicts on the signature (R238, R418); an image with a poisoned line is not installed (R303). -/
def effPloadDone (c : Fin 20) (tag : Fin 512) (onCurve sigOk : Bool) (s : State) : State :=
  match s.tx? c.val tag.val with
  | some x =>
    match x.op with
    | .pload a id =>
      let s := wakeBanks [a] s
      let h := readHeader s.mem a
      match poisonAt s.mem (if h.legal then imageSpan a h else span a 128) with
      | some l => raise { code := 0x0502, info0 := l } (faultTx x 0x0502 l 0 s)
      | none =>
        match imageCheck s a id h onCurve sigOk with
        | none => doneTx x (installProgram a id h s)
        | some n => raise (atThread 0x0403 x.c x.k n 0) (faultTx x 0x0403 n 0 (if n = 2 ∨ n = 3 then refuseSig s else s))
    | _ => s
  | none => s

/-- Priorities R216 allows a kind of image. -/
def prioAllowed (firmware : Bool) (prio : Nat) : Bool := if firmware then decide (2 ≤ prio) else decide (prio ≤ 2)

/-- The first check of R239 that fails, 1 to 5, for a program on thread k of conductor c. -/
def startCheck (s : State) (id c k prio : Nat) : Option Nat :=
  match s.program? id with
  | none => some 1
  | some p =>
    let base := nthD 0 p.tagBases k
    let count := nthD 0 p.tagCounts k
    if !bit p.target (if c < 4 then 0 else 1) then some 1
    else if (nthD none p.entries k).isNone then some 2
    else if p.firmware != (decide (c < 4) && decide (k < 2)) then some 3
    else if !prioAllowed p.firmware prio then some 4
    else if 512 < base + count || (List.range 8).any (fun j =>
        let x := s.thr (c * 8 + j)
        x.state != .idle && x.state != .halted && meets (base, count) (x.tagBase, x.tagCount)) then some 5
    else none

/-- May the start go ahead (R239)? The target is not STOPPING and no tag of the new range is PENDING. -/
def startOpen (s : State) (p : Program) (c k : Nat) : Bool :=
  (s.thr (c * 8 + k)).state != .stopping
    && !anyPending s c ((List.range (nthD 0 p.tagCounts k)).map (nthD 0 p.tagBases k + ·))

/-- A thread as R239 starts it. -/
def freshThread (p : Program) (k prio : Nat) : Thread :=
  let x : Thread :=
    { pc := BitVec.ofNat 32 ((nthD none p.entries k).getD 0), prio := prio, priv := p.firmware, program := p.id,
      tagBase := nthD 0 p.tagBases k, tagCount := nthD 0 p.tagCounts k, state := .ready }
  (x.setReg 1 (BitVec.ofNat 64 p.dataHandle)).setReg 2 (BitVec.ofNat 64 p.dataBase)

/-- The thread started, its tags FREE (R239). -/
def startThread (p : Program) (c k prio : Nat) (s : State) : State :=
  let tags := (List.range (nthD 0 p.tagCounts k)).map (nthD 0 p.tagBases k + ·)
  setThr (c * 8 + k) (freshThread p k prio) (tags.foldl (fun u g => setTag c g .free u) s)

/-- TSTART (R239). -/
def effTstart (t : Who) (w : Head) (s : State) : State :=
  issue t (control 0x37 w (fld w 35 0 == 0 && decide (fld w 45 41 < 20)) true)
    (fun s =>
      let id := (s.g t (fld w 51 46)).toNat % 256
      let c := fld w 45 41
      let k := fld w 40 38
      match startCheck s id c k (fld w 37 36), s.program? id with
      | some n, _ => .fail 0x1B (c * 8 + k) n 0xFFFF
      | none, none => .fail 0x1B (c * 8 + k) 1 0xFFFF
      | none, some p =>
        if startOpen s p c k then
          .stay (startThread p c k (fld w 37 36) (onThr t.num (fun x => x.advance 1) s))
        else .stay (hold t .tstart [fullWord 0x37 w, BitVec.ofNat 64 id] s)) s

/-- A held TSTART goes ahead (R239). -/
def effTstartRelease (t : Who) (s : State) : State :=
  let x := s.thr t.num
  match x.state, x.held with
  | .waiting, some h =>
    let f (hi lo : Nat) : Nat := bits h.word hi lo
    match s.program? (nthD 0 h.words 1).toNat with
    | some p =>
      if h.kind = .tstart ∧ startOpen s p (f 45 41) (f 40 38) then
        startThread p (f 45 41) (f 40 38) (f 37 36) (unhold t 1 s)
      else s
    | none => s
  | _, _ => s

/-- May a program be unloaded (R240)? Every thread that runs it is IDLE or HALTED. -/
def unloadOpen (s : State) (id : Nat) : Bool :=
  (List.range 160).all (fun n =>
    let x := s.thr n
    x.state == .idle || x.state == .halted || x.program != id)

/-- A program unloaded: its allocations released, its id free, its HALTED threads IDLE (R240). -/
def unloadProgram (id : Nat) (s : State) : State :=
  match s.program? id with
  | none => s
  | some p =>
    let s1 := (List.range 160).foldl (fun u n =>
      let x := u.thr n
      if x.state = .halted ∧ x.program = id then setThr n {} u else u) s
    retireWaiting { s1 with
      programs := s1.programs.filter (fun q => q.id != id)
      mem := { s1.mem with allocs := s1.mem.allocs.filter (fun x =>
        !(x.handle == p.dataHandle && p.dataHandle != 0)), code := s1.mem.code.filter (fun e => e.1 != id) } }

/-- PUNLOAD (R240). -/
def effPunload (t : Who) (w : Head) (s : State) : State :=
  issue t (control 0x3A w (fld w 45 0 == 0) true)
    (fun s =>
      let id := (s.g t (fld w 51 46)).toNat % 256
      if unloadOpen s id then .pass (unloadProgram id s)
      else .stay (hold t .punload [fullWord 0x3A w, BitVec.ofNat 64 id] s)) s

/-- A held PUNLOAD goes ahead (R240). -/
def effPunloadRelease (t : Who) (s : State) : State :=
  let x := s.thr t.num
  match x.state, x.held with
  | .waiting, some h =>
    let id := (nthD 0 h.words 1).toNat
    if h.kind = .punload ∧ unloadOpen s id then unloadProgram id (unhold t 1 s) else s
  | _, _ => s

/-- PLOAD (R238). -/
def execPload (t : Who) (w : Head) (s : State) : Host.Outcome State Fault Refusal := done (effPload t w s)
/-- PLOAD_DONE (R238). -/
def execPloadDone (c : Fin 20) (tag : Fin 512) (onCurve sigOk : Bool) (s : State) : Host.Outcome State Fault Refusal :=
  done (effPloadDone c tag onCurve sigOk s)
/-- TSTART (R239). -/
def execTstart (t : Who) (w : Head) (s : State) : Host.Outcome State Fault Refusal := done (effTstart t w s)
/-- TSTART_RELEASE (R239). -/
def execTstartRelease (t : Who) (s : State) : Host.Outcome State Fault Refusal := done (effTstartRelease t s)
/-- PUNLOAD (R240). -/
def execPunload (t : Who) (w : Head) (s : State) : Host.Outcome State Fault Refusal := done (effPunload t w s)
/-- PUNLOAD_RELEASE (R240). -/
def execPunloadRelease (t : Who) (s : State) : Host.Outcome State Fault Refusal := done (effPunloadRelease t s)

end Sys2Proof.Machine
end

