-- ==== Sys2Proof/Machine/Tensor.lean ====
section
/-! DEFINITION. Tensor instructions: their heads, their operands, the descriptor instructions and DMA.COPY
(R221, R243 to R249, R516). -/

namespace Sys2Proof.Machine

/-- A tensor instruction's form (Table SPM-5): NEXT must be the number of extension words, and an instruction without a tag
holds 0 in TAG. bad is the word index of the first other illegal field. -/
def tensor (op : Nat) (w : Head) (ext : List Word64) (tagged hubOnly priv : Bool) (bad : Option Nat) : Form :=
  { words := fullWord op w :: ext, hubOnly := hubOnly, priv := priv,
    bad := if fld w 55 54 = ext.length ∧ (tagged ∨ fld w 49 41 = 0) then bad else some 0,
    pg := fld w 53 51, pn := bit w.toNat 50, tag := if tagged then fld w 49 41 else 0xFFFF }

/-- A field's legality as the index of a bad word. -/
def need (ok : Bool) (i : Nat := 0) : Option Nat := if ok then none else some i

/-- Operands of a transaction in R234's order: slots that are empty (0x15), then the tag (0x13, 0x14). -/
def operands (s : State) (t : Who) (slots : List Nat) (tag : Nat) (k : List Desc → Effect) : Effect :=
  let x := s.thr t.num
  match slots.find? (fun i => (x.desc i).isNone) with
  | some i => .fail 0x15 i 0 tag
  | none =>
    match tagFault s t tag with
    | some e => e
    | none => k (slots.filterMap x.desc)

/-- An issue check that fails without an event of its own (R245) (DEDUCED, log entry 27). -/
def refuse (check info1 tag : Nat) : Effect := .trap 0x19 0x0409 check info1 tag

/-- The allocation kind of a descriptor. -/
def Desc.kind (m : Mem) (d : Desc) : Nat := match m.alloc? d.handle with
  | some x => x.kind
  | none => 0

/-- May an operation name a descriptor's allocation: STAGE only as LOAD's or DMA.COPY's source, KVAPPEND only as a sweep's
destination (Table MEM-2)? -/
def kindAllowed (m : Mem) (op : TxOp) (d : Desc) : Bool :=
  match d.kind m, op with
  | 6, _ => false
  | 4, .load _ _ => true
  | 4, .dmaCopy src _ => d == src
  | 4, _ => false
  | _, _ => true

/-- A transaction issued on its tag (R226, R230); a slot of a kind the operation may not name is refused as check 1. -/
def launch (s : State) (t : Who) (tag : Nat) (slots : List Nat) (op : TxOp) : Effect :=
  match slots.find? (fun i => ((s.thr t.num).desc i).any (fun d => !kindAllowed s.mem op d)) with
  | some i => refuse 1 i tag
  | none => .pass (addTx { c := t.c.val, tag := tag, k := t.k.val, pc := (s.thr t.num).pc.toNat, op := op, slots := slots } s)

/-- The first slot that breaks a rule, in the order given (DEDUCED, log entry 27). -/
def firstBad (l : List (Nat × Bool)) : Option Nat := (l.find? (fun x => !x.2)).map Prod.fst

/-! Descriptor instructions (R247, R248). -/

/-- A 64-byte record as an instruction reads it: in a poisoned line every byte reads 0 (R303, DEDUCED, log entry 12). -/
def lineBytes (m : Mem) (a : Nat) : List Byte := if m.poisoned a then List.replicate 64 0#8 else m.readN a 64

/-- DESC.CREATE. -/
def effDescCreate (t : Who) (w : Head) (s : State) : State :=
  issue t (tensor 0x80 w [] false false false (need (fld w 26 0 == 0)))
    (fun s =>
      let x := s.thr t.num
      let slot := fld w 40 33
      let a := (x.reg (fld w 32 27)).toNat
      if !scalarOk s x.program a 64 then .fail 0x16 a 64 0xFFFF
      else
        match checkDesc s x.program (lineBytes s.mem a) with
        | .error n =>
          if s.mem.poisoned a then .refused (raise (atThread 0x0502 t.c.val t.k.val (a / 64 * 64) 0) s) n (trapEvent n) slot 0 0xFFFF
          else .fail n slot 0 0xFFFF
        | .ok d =>
          if (x.desc slot).isSome then .trap 0x19 0x040C slot 0xFF 0xFFFF
          else .pass (onThr t.num (fun y => y.setDesc slot (some d)) (wakeBanks [a] s))) s

/-- No PENDING transaction of the thread names the slot (R230). -/
def slotFree (s : State) (t : Who) (slot : Nat) : Bool :=
  !s.txs.any (fun x => x.c == t.c.val && x.k == t.k.val && x.slots.contains slot)

/-- DESC.DROP. -/
def effDescDrop (t : Who) (w : Head) (s : State) : State :=
  issue t (tensor 0x81 w [] false false false (need (fld w 32 0 == 0)))
    (fun s =>
      let slot := fld w 40 33
      if ((s.thr t.num).desc slot).isNone then .fail 0x15 slot 0 0xFFFF
      else if slotFree s t slot then .pass (onThr t.num (fun y => y.setDesc slot none) s)
      else .stay (hold t .descDrop [fullWord 0x81 w] s)) s

/-- A held DESC.DROP goes ahead (R230). -/
def effDescDropRelease (t : Who) (s : State) : State :=
  let x := s.thr t.num
  match x.state, x.held with
  | .waiting, some h =>
    let slot := bits h.word 40 33
    if h.kind = .descDrop ∧ slotFree s t slot then unhold t 1 (onThr t.num (fun y => y.setDesc slot none) s) else s
  | _, _ => s

/-! Copies of rows as they are stored (R128, R249). -/

/-- Row p of a source written as row q of a destination, with its scales and side records as they are stored. -/
def copyRow (m : Mem) (src dst : Desc) (p q : Nat) : List (Nat × Byte) :=
  (dst.dataAddrs q).zip (src.dataBytes m p) ++ run (dst.scaleAddr q 0) (src.scaleBytes m p) ++ run (dst.sideAddr q 0) (src.sideRecords m p)

/-! DMA.COPY (R249). -/

/-- Check 2 of Table STI-3: the shapes and types agree. -/
def sameShape (a b : Desc) : Bool :=
  a.etype == b.etype && a.stype == b.stype && a.block == b.block && a.esc == b.esc && a.channels == b.channels
    && a.ndim == b.ndim && a.sizes == b.sizes

/-- DMA.COPY. -/
def effDmaCopy (t : Who) (w : Head) (s : State) : State :=
  issue t (tensor 0x88 w [] true false false (need (fld w 24 0 == 0)))
    (fun s =>
      let tag := fld w 49 41
      let a := fld w 40 33
      let b := fld w 32 25
      operands s t [a, b] tag (fun ds =>
        match ds with
        | [src, dst] =>
          if !dst.wr then refuse 1 b tag
          else if !sameShape src dst then refuse 2 b tag
          else if src.overlaps dst then refuse 3 b tag
          else launch s t tag [a, b] (.dmaCopy src dst)
        | _ => .fail 0x15 a 0 tag)) s

/-- What a finished transaction leaves: its writes, counts, a fault and the events raised beside them. -/
structure Result where
  writes : List (Nat × Byte) := []
  counts : Counts := {}
  fault : Option (Nat × Nat × Nat) := none
  raises : List Raise := []
  deriving DecidableEq, Repr

/-- A transaction's end: its writes become visible, its events are raised in order, and its tag leaves PENDING
(R100, R226, R228, R303). A poisoned line among its sources, or among other addresses it reads, faults it with the first line read. -/
def finish (x : Tx) (sources : List Desc) (r : Result) (s : State) (others : List Nat := []) : State :=
  let poison := (firstPoison s.mem sources).orElse (fun _ => poisonAt s.mem others)
  let s1 := writeMem r.writes (wakeBanks (r.writes.map Prod.fst ++ (sources.map Desc.base)) s)
  let pr := match poison with
    | some a => [atThread 0x0502 x.c x.k a 0]
    | none => []
  let s2 := raiseAll (pr ++ r.counts.raises x.c x.k ++ r.raises)
    (if poison.isSome then markReplay (x.c * 512 + x.tag) 0 s1 else s1)
  match poison, r.fault, x.fault with
  | some a, _, _ => faultTx x 0x0502 a 0 s2
  | none, some f, _ => faultTx x f.1 f.2.1 f.2.2 s2
  | none, none, some f => faultTx x f.1 f.2.1 f.2.2 s2
  | none, none, none => doneTx x s2

/-- DMA.COPY's work from the byte of the image it has reached: element for element, with scales and side arrays. Poison met before a
soft fault and gone since is still reported. -/
def dmaResult (m : Mem) (src dst : Desc) (x : Tx) : Result :=
  { writes := imageWritesFrom dst x.moved ((imageBytes m src).drop x.moved),
    raises := match firstPoison m [src], x.fault with
      | none, some f => [atThread f.1 x.c x.k f.2.1 0]
      | _, _ => [] }

/-- The first of some addresses that lies in a page that is not staged (R298), with its place among them. -/
def unstagedAt (s : State) (d : Desc) (l : List Nat) : Option Nat :=
  if (s.mem.alloc? d.handle).any (fun x => x.kind == 4) then firstBelow l.length (fun i => s.kv.unstaged.contains (nthD 0 l i / 65536))
  else none

/-- The first staging page a transfer touches that is not staged (R298), if any. -/
def unstagedPage (s : State) (d : Desc) : Option Nat := (unstagedAt s d d.imageAddrs).map (fun i => nthD 0 d.imageAddrs i / 65536)

/-- A transaction's number. -/
def Tx.num (x : Tx) : Nat := x.c * 512 + x.tag

/-- A transaction replaced by one of the same tag. -/
def setTx (x : Tx) (s : State) : State :=
  { s with txs := s.txs.map (fun y => if y.c == x.c && y.tag == x.tag then x else y) }

/-- A fetch joined, or begun (R298, R299: one fetch a page). -/
def joinFetch (key tx : Nat) : List Fetch → List Fetch
  | [] => [{ key := key, waiting := [tx] }]
  | f :: r => if f.key = key then { f with waiting := addOnce f.waiting tx } :: r else f :: joinFetch key tx r

/-- A transaction takes a soft fault on a page (R232, R298): it waits for the page, counted once in SOFT_FAULTS and
in KV_SOFT or STAGE_SOFT. -/
def softFault (x : Tx) (key : Nat) (s : State) : State :=
  if s.kv.fetches.any (fun f => f.key == key && f.waiting.contains x.num) then s
  else
    let s1 := { s with kv := { s.kv with fetches := joinFetch key x.num s.kv.fetches } }
    let s2 := bump (if key < 2 ^ 32 then 0x00080010 else 0x0008000C) 1 s1
    if x.soft then s2 else setTx { x with soft := true } (bump (0x00090004 + x.c * 0x400) 1 s2)

/-- What a DMA.COPY moves before the page of its source's byte n: it keeps it, and goes on from there (R249, R299). -/
def moveUpTo (x : Tx) (src dst : Desc) (n : Nat) (s : State) : Tx × State :=
  let ws := imageWritesFrom dst x.moved (((imageBytes s.mem src).take n).drop x.moved)
  let bad := (poisonAt s.mem ((src.imageAddrs.take n).drop x.moved)).map (fun a => (0x0502, a, 0))
  let y := { x with moved := n, fault := x.fault.orElse (fun _ => bad) }
  (y, setTx y (writeMem ws (wakeBanks (ws.map Prod.fst ++ [src.base]) s)))

/-- DMA_COPY_DONE: the copy ends, unless a page that it has yet to read is not staged, which it waits for (R232, R249, R298) (DESIGN
CHOICE, log entry 7). -/
def effDmaCopyDone (c : Fin 20) (tag : Fin 512) (env : MemEnv) (s : State) : State :=
  match s.tx? c.val tag.val with
  | some x =>
    match x.op with
    | .dmaCopy src dst =>
      let s1 := environment env s
      let rest := src.imageAddrs.drop x.moved
      match unstagedAt s src rest with
      | some i =>
        let r := moveUpTo x src dst (x.moved + i) s1
        softFault r.1 (nthD 0 rest i / 65536) r.2
      | none => finish x [src] (dmaResult s1.mem src dst x) s1
    | _ => s
  | none => s

/-- DESC_CREATE (R247). -/
def execDescCreate (t : Who) (w : Head) (s : State) : Host.Outcome State Fault Refusal := done (effDescCreate t w s)
/-- DESC_DROP (R248). -/
def execDescDrop (t : Who) (w : Head) (s : State) : Host.Outcome State Fault Refusal := done (effDescDrop t w s)
/-- DESC_DROP_RELEASE (R230). -/
def execDescDropRelease (t : Who) (s : State) : Host.Outcome State Fault Refusal := done (effDescDropRelease t s)
/-- DMA_COPY (R249). -/
def execDmaCopy (t : Who) (w : Head) (s : State) : Host.Outcome State Fault Refusal := done (effDmaCopy t w s)

end Sys2Proof.Machine
end

