-- ==== Sys2Proof/Machine/Vector.lean ====
section
/-! DEFINITION. Vector instructions, gather, scatter-add and transposition (R125 to R130, R263 to R267, R269, R270). -/

namespace Sys2Proof.Machine

/-! What they compute. -/

/-- VBIN's functions (R264). -/
def vbinFn (fn : Nat) (a b : F32) : F32 :=
  match fn with
  | 0 => fAdd a b
  | 1 => fSub a b
  | 2 => fMul a b
  | 3 => fMax a b
  | 4 => fMin a b
  | _ => fDiv a b

/-- VUN's functions (R264). -/
def vunFn (fn : Nat) (a : F32) : F32 :=
  match fn with
  | 0 => relu2 a
  | 1 => silu a
  | 2 => geluTanh a
  | 3 => exp32 a
  | 4 => sigmoid32 a
  | 5 => fDiv fOne a
  | 6 => fDiv fOne (fSqrt a)
  | 7 => fAbs a
  | _ => fNeg a

/-- Rows written to a destination and the counts of their conversion. -/
def rowsResult (d : Desc) (escMax ratio : Nat) (rows : List (List F32)) (orphans : Nat) : Result :=
  let r := writeRows d escMax ratio ((List.range rows.length).map (fun p => (p, nthD [] rows p)))
  { writes := r.1, counts := r.2.add { orphan := orphans } }

/-- VBIN's second operand (BC of R264). -/
def vbinOther (m : Mem) (bc : Nat) (b : Desc) (p c : Nat) : F32 :=
  match bc with
  | 0 => b.value m p c
  | 1 => b.value m 0 c
  | 2 => b.value m p 0
  | _ => b.value m 0 0

/-- VBIN's result. -/
def vbinResult (m : Mem) (fn bc : Nat) (a b d : Desc) : Result :=
  rowsResult d 0 2
    ((List.range a.rows).map (fun p =>
      (List.range a.channels).map (fun c => vbinFn fn (a.value m p c) (vbinOther m bc b p c))))
    (a.orphans m + b.orphans m)

/-- VUN's result. -/
def vunResult (m : Mem) (fn : Nat) (a d : Desc) : Result :=
  rowsResult d 0 2 ((List.range a.rows).map (fun p => (a.row m p).map (vunFn fn))) (a.orphans m)

/-- RATIO codes (Table STI-7). -/
def ratioOf (code : Nat) : Nat := 2 ^ (code + 1)

/-- VCVT's result (R265): with GIVEN the destination's own scale array gives the scales, and is kept. -/
def vcvtResult (m : Mem) (escMax ratio : Nat) (given : Bool) (a d : Desc) : Result :=
  let qs := (List.range a.rows).map (fun p =>
    let g := if given then some ((List.range d.blocks).map (fun b => d.scale m p (b * d.block))) else none
    (p, quantRow d escMax ratio g (a.row m p)))
  { writes := (qs.map (fun r => d.rowWrites r.1 r.2 (!given))).flatten,
    counts := (Counts.sum (qs.map (fun r => r.2.counts))).add { orphan := a.orphans m } }

/-- VSCALE's result (R266): every FP16 scale entry times its row's factor. -/
def vscaleResult (m : Mem) (a b : Desc) : Result :=
  let rs := (List.range a.rows).map (fun p =>
    (p, (List.range a.blocks).map (fun k => fmtFP16.convert (fdec (fMul (a.scale m p (k * a.block)) (b.value m p 0))))))
  { writes := (rs.map (fun r => a.scaleWrites r.1 (r.2.map Prod.fst))).flatten,
    counts := Counts.sum (rs.map (fun r => Counts.sum (r.2.map (fun x => x.2.counts)))) }

/-- VFILL's element (R267): the pattern converted, or the signed integer saturated. -/
def fillCode (t : EType) (v : Word32) : Nat × Cvt :=
  match t with
  | .int4 => let r := satInt 4 v.toInt; (toBits 4 r.1, r.2)
  | .int8 => let r := satInt 8 v.toInt; (toBits 8 r.1, r.2)
  | .int32 => (v.toNat, .ok)
  | _ => t.encode v

/-- VFILL's result. -/
def vfillResult (v : Word32) (d : Desc) : Result :=
  if d.etype = .act8 then rowsResult d 0 2 (List.replicate d.rows (List.replicate d.channels v)) 0
  else
    let r := fillCode d.etype v
    { writes := ((List.range d.rows).map (fun p => d.dataWrites p (List.replicate d.channels r.1))).flatten,
      counts := Counts.sum (List.replicate (d.rows * d.channels) r.2.counts) }

/-- Is an index in range (R130)? -/
def indexOk (i : Int) (n : Nat) : Bool := decide (0 ≤ i) && decide (i < n)

/-- The fault of out-of-range indices: first position and count (R130). -/
def indexFault (bad : List Nat) : Option (Nat × Nat × Nat) :=
  match bad with
  | [] => none
  | p :: _ => some (0x0206, p, bad.length)

/-- GATHER's result (R128, R130). -/
def gatherResult (c k : Nat) (m : Mem) (src idx dst : Desc) : Result :=
  let ix := (List.range idx.channels).map (fun i => (i, idx.int m 0 i))
  let bad := (ix.filter (fun x => !indexOk x.2 (src.size 1))).map Prod.fst
  { writes := ((ix.filter (fun x => indexOk x.2 (src.size 1))).map (fun x => copyRow m src dst x.2.toNat x.1)).flatten,
    fault := indexFault bad,
    raises := if bad.isEmpty then [] else [atThread 0x0206 c k (bad.headD 0) bad.length] }

/-- SCATTER.ADD's result (R129, R130, R269). -/
def scatterResult (c k : Nat) (m : Mem) (src idx dst : Desc) (gate : Option Desc) (skip : Bool) : Result :=
  let all := (List.range idx.channels).map (fun i => (i, idx.int m 0 i))
  let ix := all.filter (fun x => !(skip && x.2 == -1))
  let good := ix.filter (fun x => indexOk x.2 (dst.size 1))
  let bad := (ix.filter (fun x => !indexOk x.2 (dst.size 1))).map Prod.fst
  let rows := (List.range (dst.size 1)).filter (fun r => good.any (fun x => x.2.toNat == r))
  let term (i ch : Nat) : F32 :=
    match gate with
    | some g => fMul (src.value m i ch) (g.value m 0 i)
    | none => src.value m i ch
  let out := rows.map (fun r =>
    (r, (List.range dst.channels).map (fun ch =>
      (good.filter (fun x => x.2.toNat == r)).foldl (fun a x => fAdd a (term x.1 ch)) (dst.value m r ch))))
  let w := writeRows dst 0 2 out
  { writes := w.1, counts := w.2, fault := indexFault bad,
    raises := if bad.isEmpty then [] else [atThread 0x0206 c k (bad.headD 0) bad.length] }

/-- A row's position in the transposed tensor: dimension 1 becomes the channel, the rest stays (R270). -/
def xposeResult (m : Mem) (src dst : Desc) : Result :=
  let n1 := src.size 1
  { writes := ((List.range (dst.rows)).map (fun p =>
      let i := p % dst.size 1
      let rest := p / dst.size 1
      dst.dataWrites p ((List.range dst.channels).map (fun c => src.codeAt m (rest * n1 + c) i)))).flatten }

/-! What they check at issue (R263 to R270, R516). -/

/-- Types the vector instructions read (R263). -/
def vecSource (d : Desc) : Bool :=
  d.etype == .fp32 || d.etype == .bf16 || d.etype == .fp16 || d.etype == .act8
/-- Types VBIN and VUN write (R263). -/
def vecDest (d : Desc) : Bool := d.etype == .fp32 || d.etype == .bf16 || d.etype == .fp16
/-- The same CHANNELS and sizes. -/
def sameSizes (a b : Desc) : Bool := a.channels == b.channels && a.sizes == b.sizes
/-- DD may equal DA with an identical footprint; any other overlap of a source is refused (R263) (DEDUCED, log entry 92). -/
def aliasOk (a d : Desc) : Bool := a.inPlace d || !a.overlaps d

/-- DB's shape under BC (R264) (DEDUCED, log entry 92). -/
def vbinShape (bc : Nat) (a b : Desc) : Bool :=
  match bc with
  | 0 => sameSizes a b
  | 1 => b.channels == a.channels && b.rows == 1
  | 2 => b.channels == 1 && b.rows == a.rows
  | _ => b.channels == 1 && b.rows == 1

/-- A transaction over slots that pass their rules; otherwise check 1, naming the slot (R263, R516). -/
def launchIf (s : State) (t : Who) (tag : Nat) (slots : List Nat) (rules : List (Nat × Bool)) (op : TxOp) : Effect :=
  match firstBad rules with
  | some i => refuse 1 i tag
  | none => launch s t tag slots op

/-- VBIN. -/
def effVbin (t : Who) (w : Head) (s : State) : State :=
  let fn := fld w 16 13
  let bc := fld w 12 11
  issue t (tensor 0xA8 w [] true false false (need (decide (fn < 6) && fld w 10 0 == 0)))
    (fun s =>
      let tag := fld w 49 41
      let (ia, ib, id) := (fld w 40 33, fld w 32 25, fld w 24 17)
      operands s t [ia, ib, id] tag (fun ds =>
        match ds with
        | [a, b, d] =>
          launchIf s t tag [ia, ib, id]
            [(ia, vecSource a), (ib, vecSource b && vbinShape bc a b),
             (id, d.wr && vecDest d && sameSizes a d && aliasOk a d && !b.overlaps d)] (.vbin fn bc a b d)
        | _ => .fail 0x15 ia 0 tag)) s

/-- VUN. -/
def effVun (t : Who) (w : Head) (s : State) : State :=
  let fn := fld w 16 13
  issue t (tensor 0xA9 w [] true false false (need (decide (fn < 9) && fld w 12 0 == 0 && fld w 32 25 == 0)))
    (fun s =>
      let tag := fld w 49 41
      let (ia, id) := (fld w 40 33, fld w 24 17)
      operands s t [ia, id] tag (fun ds =>
        match ds with
        | [a, d] =>
          launchIf s t tag [ia, id]
            [(ia, vecSource a), (id, d.wr && vecDest d && sameSizes a d && aliasOk a d)] (.vun fn a d)
        | _ => .fail 0x15 ia 0 tag)) s

/-- VCVT. -/
def effVcvt (t : Who) (w : Head) (s : State) : State :=
  let esc := fld w 16 13
  issue t (tensor 0xAA w [] true false false (need (decide (esc ≤ 8) && fld w 9 0 == 0 && fld w 32 25 == 0)))
    (fun s =>
      let tag := fld w 49 41
      let (ia, id) := (fld w 40 33, fld w 24 17)
      operands s t [ia, id] tag (fun ds =>
        match ds with
        | [a, d] =>
          launchIf s t tag [ia, id] [(ia, vecSource a), (id, d.wr && sameSizes a d && aliasOk a d)]
            (.vcvt esc (ratioOf (fld w 12 11)) (bit w.toNat 10) a d)
        | _ => .fail 0x15 ia 0 tag)) s

/-- VSCALE. -/
def effVscale (t : Who) (w : Head) (s : State) : State :=
  issue t (tensor 0xAB w [] true false false (need (fld w 24 0 == 0)))
    (fun s =>
      let tag := fld w 49 41
      let (ia, ib) := (fld w 40 33, fld w 32 25)
      operands s t [ia, ib] tag (fun ds =>
        match ds with
        | [a, b] =>
          launchIf s t tag [ia, ib]
            [(ia, a.wr && a.stype == .fp16), (ib, b.etype == .fp32 && b.channels == 1 && b.rows == a.rows)] (.vscale a b)
        | _ => .fail 0x15 ia 0 tag)) s

/-- VFILL. -/
def effVfill (t : Who) (w : Head) (s : State) : State :=
  issue t (tensor 0xAC w [] true false false (need (fld w 40 25 == 0 && fld w 10 0 == 0)))
    (fun s =>
      let tag := fld w 49 41
      let id := fld w 24 17
      operands s t [id] tag (fun ds =>
        match ds with
        | [d] => launchIf s t tag [id] [(id, d.wr && d.stype == .none && !d.esc)]
                   (.vfill ((s.g t (fld w 16 11)).setWidth 32) d)
        | _ => .fail 0x15 id 0 tag)) s

/-- GATHER (R128, R269): CHANNELS and ESC must agree too (DESIGN CHOICE, log entry 143). -/
def effGather (t : Who) (w : Head) (s : State) : State :=
  issue t (tensor 0xC8 w [] true false false (need (fld w 16 0 == 0)))
    (fun s =>
      let tag := fld w 49 41
      let (ia, ix, id) := (fld w 40 33, fld w 32 25, fld w 24 17)
      operands s t [ia, ix, id] tag (fun ds =>
        match ds with
        | [a, i, d] =>
          launchIf s t tag [ia, ix, id]
            [(ia, a.ndim == 2), (ix, i.etype == .int32 && i.ndim == 1),
             (id, d.wr && d.ndim == 2 && d.size 1 == i.channels && d.channels == a.channels && d.etype == a.etype
                && d.stype == a.stype && d.block == a.block && d.esc == a.esc)] (.gather a i d)
        | _ => .fail 0x15 ia 0 tag)) s

/-- FP32 or BF16 (R129). -/
def addType (d : Desc) : Bool := d.etype == .fp32 || d.etype == .bf16

/-- SCATTER.ADD (R129, R269): gates are FP32 or BF16, as R129 has them (DESIGN CHOICE, log entry 143). -/
def effScatterAdd (t : Who) (w : Head) (s : State) : State :=
  let gated := bit w.toNat 8
  issue t (tensor 0xC9 w [] true false false (need (fld w 6 0 == 0 && (gated || fld w 16 9 == 0))))
    (fun s =>
      let tag := fld w 49 41
      let (ia, ix, id, ig) := (fld w 40 33, fld w 32 25, fld w 24 17, fld w 16 9)
      let slots := [ia, ix, id] ++ (if gated then [ig] else [])
      operands s t slots tag (fun ds =>
        match ds with
        | a :: i :: d :: g =>
          launchIf s t tag slots
            ([(ia, addType a && a.ndim == 2 && a.size 1 == i.channels), (ix, i.etype == .int32 && i.ndim == 1),
              (id, d.wr && addType d && d.ndim == 2 && d.channels == a.channels)]
              ++ g.map (fun x => (ig, addType x && x.channels == i.channels)))
            (.scatterAdd a i d g.head? (bit w.toNat 7))
        | _ => .fail 0x15 ia 0 tag)) s

/-- A transposition (R270): XPOSE.NET takes 8-, 16- and 32-bit types, XPOSE.STRIDE INT4 too; a dimension beyond NDIM has size 1, so an
operand of NDIM 1 is one row (DESIGN CHOICE, log entry 143). -/
def effXpose (op : Nat) (hubOnly int4 : Bool) (t : Who) (w : Head) (s : State) : State :=
  issue t (tensor op w [] true hubOnly false (need (fld w 24 0 == 0)))
    (fun s =>
      let tag := fld w 49 41
      let (ia, id) := (fld w 40 33, fld w 32 25)
      operands s t [ia, id] tag (fun ds =>
        match ds with
        | [a, d] =>
          launchIf s t tag [ia, id]
            [(ia, a.stype == .none && !a.esc && (int4 || a.etype != .int4)),
             (id, d.wr && d.etype == a.etype && d.stype == .none && !d.esc && d.channels == a.size 1
                && d.size 1 == a.channels && (List.range 3).all (fun k => d.size (k + 2) == a.size (k + 2)))] (.xpose a d)
        | _ => .fail 0x15 ia 0 tag)) s

/-- VBIN (R264). -/
def execVbin (t : Who) (w : Head) (s : State) : Host.Outcome State Fault Refusal := done (effVbin t w s)
/-- VUN (R264). -/
def execVun (t : Who) (w : Head) (s : State) : Host.Outcome State Fault Refusal := done (effVun t w s)
/-- VCVT (R265). -/
def execVcvt (t : Who) (w : Head) (s : State) : Host.Outcome State Fault Refusal := done (effVcvt t w s)
/-- VSCALE (R266). -/
def execVscale (t : Who) (w : Head) (s : State) : Host.Outcome State Fault Refusal := done (effVscale t w s)
/-- VFILL (R267). -/
def execVfill (t : Who) (w : Head) (s : State) : Host.Outcome State Fault Refusal := done (effVfill t w s)
/-- GATHER (R128). -/
def execGather (t : Who) (w : Head) (s : State) : Host.Outcome State Fault Refusal := done (effGather t w s)
/-- SCATTER.ADD (R129). -/
def execScatterAdd (t : Who) (w : Head) (s : State) : Host.Outcome State Fault Refusal := done (effScatterAdd t w s)
/-- XPOSE.NET (R270). -/
def execXposeNet (t : Who) (w : Head) (s : State) : Host.Outcome State Fault Refusal := done (effXpose 0xD0 true false t w s)
/-- XPOSE.STRIDE (R270). -/
def execXposeStride (t : Who) (w : Head) (s : State) : Host.Outcome State Fault Refusal := done (effXpose 0xD1 false true t w s)

end Sys2Proof.Machine
end

