-- ==== Sys2Proof/Machine/Reduce.lean ====
section
/-! DEFINITION. Row reductions and the RED instructions (R147 to R153, R268). -/

namespace Sys2Proof.Machine

/-- The row tree (R147): lane trees of the 32 lanes of each vector, then the vector tree, padding lanes empty. -/
def rowTree {α : Type} (f : α → α → α) (leaves : List α) : Option α :=
  let vectors := (chunks 32 leaves).map (fun v =>
    treeReduce f (v.map some ++ List.replicate (32 - v.length) none))
  treeReduce f vectors

/-- A MEANVAR node: count, mean, M2 (R150). -/
structure MeanVar where
  n : Nat
  mean : F32
  m2 : F32
  deriving DecidableEq, Repr

/-- Two children combined (R150). -/
def MeanVar.join (a b : MeanVar) : MeanVar :=
  let n := a.n + b.n
  let dl := fSub b.mean a.mean
  let f := fDiv (fOfNat b.n) (fOfNat n)
  let m := fAdd a.mean (fMul dl f)
  let c := fMul (fOfNat a.n) f
  ⟨n, m, fAdd (fAdd a.m2 b.m2) (fMul (fMul dl dl) c)⟩

/-- Rank of an element for TOPK, lower first: larger values, −0 equal to +0, NaN below every number (R152). -/
def topRank (x : F32) : Nat :=
  if fIsNaN x then 2 ^ 33
  else
    let key : Int := if fAbs x = fZero then 0 else if x.getLsbD 31 then -((fAbs x).toNat : Int) else (x.toNat : Int)
    (2 ^ 32 - key).toNat

/-- The k largest with their indices (R152). -/
def topK (k : Nat) (xs : List F32) : List (F32 × Int) :=
  let order := sortBy (fun i => topRank (nthD fZero xs i)) (List.range xs.length)
  (List.range k).map (fun j =>
    match order[j]? with
    | some i => (fCanon (nthD fZero xs i), (i : Int))
    | none => (fNaN, -1))

/-- A statistics record (Table ACC-3): 4 lanes, or 16 for TOPK. -/
def statistic (kind : RedKind) (k : Nat) (xs : List F32) : List F32 :=
  let n := fOfNat xs.length
  let one (v : F32) : List F32 := [fCanon v, fZero, n, fZero]
  match kind with
  | .sum => one ((rowTree fAdd xs).getD fZero)
  | .sumsq => one ((rowTree fAdd (xs.map (fun x => fMul x x))).getD fZero)
  | .max => one ((rowTree fMax xs).getD fZero)
  | .absmax => one ((rowTree fMax (xs.map fAbs)).getD fZero)
  | .meanvar =>
    let r := (rowTree MeanVar.join (xs.map (fun x => ⟨1, x, fZero⟩))).getD ⟨0, fZero, fZero⟩
    [fCanon r.mean, fDiv r.m2 (fOfNat r.n), n, fZero]
  | .topk =>
    let ts := topK k xs
    let lane (j : Nat) : F32 := if j < 8 then (nthD (fZero, (0 : Int)) ts j).1 else fOfInt (nthD (fZero, (0 : Int)) ts (j - 8)).2
    (List.range 16).map (fun j => if j % 8 < k then lane j else fZero)

/-- A statistics output's CHANNELS (R153). -/
def statChannels (kind : RedKind) : Nat := if kind = .topk then 16 else 4

/-- A RED instruction's result: one record per row (R148, R268). -/
def redResult (m : Mem) (kind : RedKind) (k : Nat) (a d : Desc) : Result :=
  { writes := ((List.range a.rows).map (fun p =>
      d.dataWrites p ((statistic kind k (a.row m p)).map BitVec.toNat))).flatten,
    counts := { orphan := a.orphans m } }

/-- The kinds RED opcodes 0xC0 to 0xC4 select; ABS turns MAX into ABSMAX (R268). -/
def redKind (op : Nat) (abs : Bool) : RedKind :=
  match op with
  | 0xC0 => .sum | 0xC1 => .sumsq | 0xC2 => .meanvar | 0xC3 => if abs then .absmax else .max | _ => .topk

/-- RED.* (R268). -/
def effRed (op : Nat) (t : Who) (w : Head) (s : State) : State :=
  let kind := redKind op (bit w.toNat 21)
  issue t (tensor op w [] true false false
      (need (fld w 20 0 == 0 && (op == 0xC4 || fld w 24 22 == 0) && (op == 0xC3 || fld w 21 21 == 0))))
    (fun s =>
      let tag := fld w 49 41
      let (ia, id) := (fld w 40 33, fld w 32 25)
      operands s t [ia, id] tag (fun ds =>
        match ds with
        | [a, d] =>
          launchIf s t tag [ia, id]
            [(id, d.wr && d.etype == .fp32 && d.channels == statChannels kind && d.rows == a.rows)]
            (.red kind (fld w 24 22 + 1) a d)
        | _ => .fail 0x15 ia 0 tag)) s

/-- RED.SUM (R149). -/
def execRedSum (t : Who) (w : Head) (s : State) : Host.Outcome State Fault Refusal := done (effRed 0xC0 t w s)
/-- RED.SUMSQ (R149). -/
def execRedSumsq (t : Who) (w : Head) (s : State) : Host.Outcome State Fault Refusal := done (effRed 0xC1 t w s)
/-- RED.MEANVAR (R150). -/
def execRedMeanvar (t : Who) (w : Head) (s : State) : Host.Outcome State Fault Refusal := done (effRed 0xC2 t w s)
/-- RED.MAX (R151). -/
def execRedMax (t : Who) (w : Head) (s : State) : Host.Outcome State Fault Refusal := done (effRed 0xC3 t w s)
/-- RED.TOPK (R152). -/
def execRedTopk (t : Who) (w : Head) (s : State) : Host.Outcome State Fault Refusal := done (effRed 0xC4 t w s)

end Sys2Proof.Machine
end

