-- ==== Sys2Proof/Machine/Memory.lean ====
section
/-! DEFINITION. Allocations, banks and DRAM hot spots (R278, R279, R283, R285, R286, R288). -/

namespace Sys2Proof.Machine

/-- ALLOC_RESULT's address. -/
def allocResult : Nat := 0x0008020C

/-- ALLOC_RESULT set: STATUS and HANDLE (Table MEM-13). -/
def setAllocResult (status handle : Nat) (s : State) : State :=
  setWord allocResult (BitVec.ofNat 32 (status * 2 ^ 28 + handle)) s

/-- The granule of an allocation kind; 0 for a kind that cannot be created (R278, Table MEM-2). -/
def kindGranule (kind : Nat) : Nat :=
  match kind with
  | 1 => 4096 | 2 => 4096 | 3 => 65536 | 4 => 65536 | 5 => 65536 | 7 => 4096 | _ => 0

/-- Does a range lie inside another? -/
def insideRange (a n : Nat) (r : Nat × Nat) : Bool := decide (r.1 ≤ a) && decide (a + n ≤ r.1 + r.2)

/-- May a bank be accessed, or be woken by an access (R285)? -/
def Bank.usable (x : Bank) : Bool := x.current != .off && x.moving != some .off && x.reverse != some .off

/-- Is a range within the memory of its kind (R278, Tables MEM-1, MEM-2)? A bank allocation lies in one bank, never in
one owned by Feed, Finish or Send, never in one that is OFF (R285) (DESIGN CHOICE, log entry 148), and never on a retired segment
(R460). -/
def kindRange (s : State) (kind a n : Nat) : Bool :=
  let bankOk (hub : Bool) : Bool :=
    match bankOf a with
    | some b =>
      insideRange a n (bankRange b) && (!hub || decide (b < 8)) && !([20, 22, 23].contains (s.mem.owner b))
        && (look {} s.mem.banks b).usable
        && !(s.mem.segments ++ s.mem.untested).any (fun g => decide (g < a + n) && decide (a < g + 65536))
    | none => false
  match kind with
  | 1 => bankOk false
  | 7 => bankOk true
  | 2 => insideRange a n (tileBase, 10240 * 0x40000)
  | 3 => inDramPart s 3 a n
  | 4 => inDramPart s 0 a n
  | _ => inDramPart s 1 a n

/-- Does a range overlap a live allocation? -/
def overlapsAlloc (s : State) (a n : Nat) : Bool :=
  s.mem.allocs.any (fun x => decide (a < x.base + x.size) && decide (x.base < a + n))

/-- The STATUS a create answers with (R278, Table MEM-13): 0 when it may be made. -/
def createStatus (s : State) (kind a n : Nat) : Nat :=
  let g := kindGranule kind
  if g = 0 || n = 0 || a % g ≠ 0 || n % g ≠ 0 then 3
  else if !kindRange s kind a n || overlapsAlloc s a n then 1
  else if (freeHandle s).isNone then 4
  else 0

/-- ALLOC create (R278): the range is that of ALLOC_BASE and ALLOC_SIZE. -/
def effAllocCreate (kind : BitVec 4) (program : BitVec 8) (s : State) : State :=
  let a := (s.word 0x00080200).toNat * 256
  let n := (s.word 0x00080204).toNat * 4096
  let st := createStatus s kind.toNat a n
  if st = 0 then
    let h := (freeHandle s).getD 0
    setAllocResult 0 h
      (skipFree 1 { s with mem := s.mem.addAlloc ⟨h, kind.toNat, program.toNat, a, n⟩ })
  else setAllocResult st 0 s

/-- Does any descriptor in any thread's table name an allocation (R279)? -/
def named (s : State) (h : Nat) : Bool :=
  s.threads.any (fun t => t.2.d.any (fun e => e.2.any (fun d => d.handle == h)))

/-- ALLOC release (R278, R279, R460). -/
def effAllocRelease (handle : BitVec 16) (s : State) : State :=
  let h := handle.toNat
  if (s.mem.alloc? h).isNone then setAllocResult 1 0 s
  else if named s h then setAllocResult 2 0 (raise { code := 0x0507 } s)
  else setAllocResult 0 0 (retireWaiting { s with mem := { s.mem with allocs := s.mem.allocs.filter (fun x => x.handle != h) } })

/-! Banks. -/

/-- A bank's control state. -/
def State.bank (s : State) (b : Nat) : Bank := look {} s.mem.banks b

/-- A bank's control state changed. -/
def onBank (b : Nat) (f : Bank → Bank) (s : State) : State :=
  { s with mem := { s.mem with banks := change {} s.mem.banks b f } }

/-- Live allocations in a bank. -/
def bankAllocs (s : State) (b : Nat) : Nat := (s.mem.allocs.filter (fun x => bankOf x.base == some b)).length

/-- STATE codes; 0b11 is ignored (Table MEM-13). -/
def bankStateOf : Nat → Option BankState
  | 0 => some .on | 1 => some .retention | 2 => some .off | _ => none

/-- A STATE request (R286): OFF is refused while the bank holds a live allocation; a request that reverses a transition
in progress waits for it. -/
def effBankStateRequest (b : BankId) (state : BitVec 2) (s : State) : State :=
  let n := b.num
  match bankStateOf state.toNat with
  | none => s
  | some st =>
    if st = .off ∧ bankAllocs s n ≠ 0 then raise (atBank 0x0507 n 0 0) s
    else onBank n (fun x =>
      match x.moving with
      | some m => { x with request := st, reverse := if m = st then none else some st }
      | none => { x with request := st, moving := if x.current = st then none else some st }) s

/-- A transition completes (R285, R286): OFF loses the contents, and with them the poison; a reverse request then begins (DEDUCED, log entry 69). -/
def effBankTransitionDone (b : BankId) (s : State) : State :=
  let n := b.num
  match (s.bank n).moving with
  | none => s
  | some st =>
    let s1 := onBank n (fun x =>
      { x with current := st, moving := (match x.reverse with
                                          | some r => if r = st then none else some r
                                          | none => none), reverse := none }) s
    if st = .off then
      let r := bankRange n
      { s1 with mem := { s1.mem with
          cells := s1.mem.cells.filter (fun e => !(decide (r.1 ≤ e.1) && decide (e.1 < r.1 + r.2)))
          poison := s1.mem.poison.filter (fun e => !(decide (r.1 ≤ 64 * e.1) && decide (64 * e.1 < r.1 + r.2))) } }
    else s1

/-- Are the Feed, Finish and Send stages idle? -/
def stagesIdle (s : State) : Bool := s.arr.sweeps.array.isNone && s.arr.sweeps.finishing.isEmpty

/-- An OWNER write (R283). -/
def effBankOwnerWrite (b : BankId) (owner : BitVec 8) (s : State) : State :=
  if bankAllocs s b.num = 0 ∧ stagesIdle s then onBank b.num (fun x => { x with owner := some owner.toNat }) s
  else raise (atBank 0x0507 b.num 0 0) s

/-! Pseudo-channels (R287). -/

/-- A column of a hash matrix. -/
def hashColumn (h : BitVec 176) (i : Nat) : Nat := bits h.toNat (8 * i + 7) (8 * i)

/-- The columns that a number's bits select, added over GF(2). -/
def columnSum (h : BitVec 176) (lo n x : Nat) : Nat := (List.range n).foldl (fun a i => if bit x i then a ^^^ hashColumn h (lo + i) else a) 0

/-- Are every 8 consecutive columns linearly independent? -/
def spreads (h : BitVec 176) : Bool := (List.range 15).all (fun lo => (List.range 255).all (fun x => columnSum h lo 8 (x + 1) != 0))

/-- The matrix of a draw: Chevik draws among those that spread. -/
def hashMatrix (draw : Nat) : BitVec 176 :=
  if spreads (Config.hashColumns draw) then Config.hashColumns draw
  else BitVec.ofNat 176 (sumOf ((List.range 22).map (fun i => 2 ^ (8 * i + i % 8))))

/-- The pseudo-channel of a DRAM address, once the matrix is drawn. -/
def Mem.pci (m : Mem) (a : Nat) : Option Nat := m.hashDraw.map (fun n => bits a 15 8 ^^^ columnSum (hashMatrix n) 0 22 (bits a 37 16))

/-- A pseudo-channel's stack, channel, and place in its channel. -/
def pciPlace (p : Nat) : Nat × Nat × Nat := (bits p 7 6, bits p 5 1, bits p 0 0)

/-- HOTSPOT_CHECK (R288): queues of the pseudo-channels held for 10 µs; each above four times the mean counts. -/
def effHotspotCheck (queues : List Nat) (s : State) : State :=
  let hot := queues.filter (fun q => decide (4 * sumOf queues < q * queues.length))
  if hot.isEmpty then s else raise { code := 0x0508 } (bump 0x00080024 hot.length s)

/-- ALLOC_CREATE (R278). -/
def execAllocCreate (kind : BitVec 4) (program : BitVec 8) (s : State) : Host.Outcome State Fault Refusal :=
  done (effAllocCreate kind program s)
/-- ALLOC_RELEASE (R279). -/
def execAllocRelease (handle : BitVec 16) (s : State) : Host.Outcome State Fault Refusal := done (effAllocRelease handle s)
/-- BANK_STATE_REQUEST (R286). -/
def execBankStateRequest (b : BankId) (state : BitVec 2) (s : State) : Host.Outcome State Fault Refusal :=
  done (effBankStateRequest b state s)
/-- BANK_TRANSITION_DONE (R285). -/
def execBankTransitionDone (b : BankId) (s : State) : Host.Outcome State Fault Refusal := done (effBankTransitionDone b s)
/-- BANK_OWNER_WRITE (R283). -/
def execBankOwnerWrite (b : BankId) (owner : BitVec 8) (s : State) : Host.Outcome State Fault Refusal :=
  done (effBankOwnerWrite b owner s)
/-- HOTSPOT_CHECK (R288). -/
def execHotspotCheck (queues : List Nat) (s : State) : Host.Outcome State Fault Refusal := done (effHotspotCheck queues s)

end Sys2Proof.Machine
end

