-- ==== Sys2Proof/Machine/Macro.lean ====
section
/-! DEFINITION. The macro pairs: placements, stored weights, group results, correction and trim
(R23 to R47, R57 to R64, R82, R87 to R91, R109 to R116). -/

namespace Sys2Proof.Machine

/-! Access. -/

/-- A pair's state, its fused spares taken at manufacture counted in use from spare 11 down (R88). -/
def State.pair (s : State) (n : Nat) : Pair := look {} s.arr.pairs n

/-- A pair's state changed. -/
def onPair (n : Nat) (f : Pair → Pair) (s : State) : State :=
  { s with arr := { s.arr with pairs := change {} s.arr.pairs n f } }

/-- A tile's state. -/
def State.tile (s : State) (t : Nat) : Tile := look {} s.arr.tiles t

/-- A tile's state changed. -/
def onTile (t : Nat) (f : Tile → Tile) (s : State) : State :=
  { s with arr := { s.arr with tiles := change {} s.arr.tiles t f } }

/-- A column's trim word. -/
def Pair.trim (p : Pair) (c : Nat) : TrimWord := look {} p.trims c

/-- A column's trim word changed. -/
def Pair.onTrim (p : Pair) (c : Nat) (f : TrimWord → TrimWord) : Pair := { p with trims := change {} p.trims c f }

/-- A spare's use: fuse repair's, or a service remap's (R88). -/
def spareUse (n : Nat) (p : Pair) (i : Nat) : SpareUse :=
  let fused := Config.fusedSpares n
  match p.spares.find? (fun e => e.1 == i) with
  | some e => e.2
  | none =>
    if 11 - i < Nat.min 4 fused.length ∧ i ≤ 11 then
      { fused := true, inUse := true, column := (nthD 0 fused (11 - i)).val }
    else {}

/-- The physical column that serves a logical one (R24, R88). -/
def physical (n : Nat) (p : Pair) (c : Nat) : Nat :=
  match (List.range 12).find? (fun i => (spareUse n p i).inUse && (spareUse n p i).column == c) with
  | some i => 256 + i
  | none => c

/-- Is a logical column retired or uncovered (R91): does the STATE of the column that serves it say so? -/
def lost (n : Nat) (p : Pair) (c : Nat) : Bool := decide (2 ≤ (p.trim (physical n p c)).state)

/-- A row's cell key. -/
def cell (row col : Nat) : Nat := row * 512 + col

/-- The pattern of a barometer column (Table CAL-4), which firmware writes at start (R67). -/
def baroLevel (row b : Nat) : Nat :=
  match b with
  | 0 => 3
  | 1 => if row % 2 = 0 then 3 else 0
  | 2 => row % 4
  | _ => 0

/-- The level of an A cell that nothing has written: 0, and in a barometer column its pattern (R67). -/
def plainLevel (row pc : Nat) : Nat := if 268 ≤ pc then baroLevel row (pc - 268) else 0

/-- The charge level of an A cell by physical column (R37). -/
def Pair.level (p : Pair) (row pc : Nat) : Nat := look (plainLevel row pc) p.a (cell row pc)

/-- An A cell's level written. -/
def Pair.setLevel (p : Pair) (row pc v : Nat) : Pair := { p with a := put (plainLevel row pc) p.a (cell row pc) v }

/-- The lo-sum of a 32-row half in a physical column (R64). -/
def Pair.lo (p : Pair) (half pc : Nat) : Nat := look 0 p.los (half * 512 + pc)

/-! Placements (R26): PLACE 0 A4, 1 D4, 2 A8, 3 D8. -/

/-- Pairs of a set. -/
def setSize (place : Nat) : Nat := match place with | 0 => 1 | 1 => 2 | 2 => 3 | _ => 4
/-- Weight bits. -/
def placeBits (place : Nat) : Nat := if place < 2 then 4 else 8
/-- Does a placement use A-macro cells? -/
def analog (place : Nat) : Bool := place == 0 || place == 2
/-- The pair of a set whose A-macro holds bits 1:0. -/
def aPair (place lead : Nat) : Nat := lead + setSize place - 1
/-- Stored rows of a group: 32, 64 or 128 (Table MAC-4). -/
def groupRows (gmode : Nat) : Nat := 32 * 2 ^ gmode

/-- Bits of a weight held by the i-th pair of a set, as its two-bit D value; the A part is bits 1:0. -/
def dPart (place i w : Nat) : Nat := bits w (placeBits place - 1 - 2 * i) (placeBits place - 2 - 2 * i)

/-- A stored weight's signed value and its D-plane value 4·w_hi, from the cells (R26, R114). -/
def storedWeight (s : State) (tile lead place row col : Nat) : Int × Int :=
  let nb := placeBits place
  let parts := (List.range (setSize place)).map (fun i =>
    let n := tile * 48 + lead + i
    let p := s.pair n
    look 0 p.d (cell row (physical n p col)) * 2 ^ (nb - 2 - 2 * i))
  let hi := sumOf parts
  let n := tile * 48 + aPair place lead
  let p := s.pair n
  let lo := if analog place then p.level row (physical n p col) else 0
  (signed nb (hi + lo), signed nb hi)

/-- The A level of a row and column. -/
def aLevel (s : State) (n row col : Nat) : Nat := (s.pair n).level row (physical n (s.pair n) col)

/-! Regions (R52, R256). -/

/-- Stored rows of a region. -/
def Region.rows (r : Region) : Nat := 64 * r.ngroups
/-- Groups of a region in its mode. -/
def Region.groups (r : Region) : Nat := r.rows / groupRows r.gmode
/-- The span of a group (R112). -/
def Region.span (r : Region) : Nat := groupRows r.gmode * (if r.masked then 2 else 1)
/-- First stored row. -/
def Region.row0 (r : Region) : Nat := 64 * r.first
/-- Input elements a tile's rows cover (R253). -/
def Region.covers (r : Region) : Nat := (if r.masked then 128 else 64) * r.ngroups
/-- The pairs of the set. -/
def Region.pairs (r : Region) : List Nat := (List.range (setSize r.place)).map (fun i => r.tile * 48 + r.lead + i)
/-- The A-macro's pair. -/
def Region.apair (r : Region) : Nat := r.tile * 48 + aPair r.place r.lead
/-- Is a region present for sweeps? -/
def Region.resident (r : Region) : Bool := r.state == .resident

/-- The position field of a stored row's mask (R167). -/
def maskPos (p : Pair) (row : Nat) : Nat := bits (look 0 p.masks (row / 16)) (2 * (row % 16) + 1) (2 * (row % 16))

/-- The input element, counted from the region's first on its tile, that a stored row is driven from (R170). -/
def Region.element (s : State) (r : Region) (i : Nat) : Nat :=
  if r.masked then 4 * (i / 2) + maskPos (s.pair (r.tile * 48 + r.lead)) (r.row0 + i) else i

/-- Columns of a pair that are uncovered (R91). -/
def Pair.uncovered (p : Pair) : Bool := p.trims.any (fun e => e.2.state == 3)

/-! The corrected A part (R59). -/

/-- Rounding of num/den (den > 0) to the nearest integer, ties to even. -/
def rneRat (num : Int) (den : Nat) : Int :=
  let q := num / (den : Int)
  let r := num % (den : Int)
  if 2 * r > den || (2 * r == den && q % 2 == 1) then q + 1 else q

/-- The converter's LSB in product units (Table MAC-3) at G = 1; a higher gain divides it. -/
def lambda1 (gmode : Nat) : Nat := if gmode = 0 then 96 else 192

/-- The largest code: 255 for the SAR, 511 for the TDC (R41). -/
def nMax (gmode : Nat) : Nat := if gmode = 2 then 511 else 255

/-- Â in 1/64 of a product unit (R47, R59): code n, gain G, and d the temperature difference in 0.25 degree. -/
def correct (pn : Nat) (p : Pair) (col gmode gain n : Nat) (d : Int) : Int :=
  let pc := physical pn p col
  let t := p.trim pc
  if 2 ≤ t.state then 0
  else
    let g32 := col / 32
    let cG : Int := if gain = 2 then look 0 p.gcor2 g32 else if gain = 4 then look 0 p.gcor4 g32 else 0
    let fNum : Int := (4096 + (t.gain : Int) - 512) * (262144 + (Config.kappaG pn).toInt * d) * (2048 + cG)
    let den : Nat := 4096 * 262144 * 2048
    -- n × F + O over the common denominator den
    let o : Int := t.offset * ((den / 16 : Nat) : Int) + (Config.kappaO pn).toInt * d * ((den / 1024 : Nat) : Int)
    let lam : Int := ((lambda1 gmode / gain : Nat) : Int)
    rneRat (64 * lam * ((n : Int) * fNum + o)) den

/-- P as FP32: (D + Â − Z) with Â in 1/64 (R46, R47, R113). -/
def groupP (dPartSum aHat64 z : Int) : F32 :=
  let v := 64 * (dPartSum - z) + aHat64
  frnd (v < 0) v.natAbs (-6)

/-! Trim (R62, R63). -/

/-- One step of the trim LFSR (R62). -/
def lfsr (x : Nat) : Nat :=
  let b := (x / 2 ^ 31 + x / 2 ^ 21 + x / 2 + x) % 2
  (2 * x + b) % 2 ^ 32

/-- n bytes from the LFSR: each the low 8 bits after a step; the state after them. -/
def lfsrBytes : Nat → Nat → List Nat × Nat
  | 0, x => ([], x)
  | n + 1, x =>
    let y := lfsr x
    let r := lfsrBytes n y
    (y % 256 :: r.1, r.2)

/-- The drive byte of a trim word: bits 7:6 cleared above G = 1, and 0 becomes 1 (R62). -/
def trimByte (gain b : Nat) : Nat :=
  let x := if gain = 1 then b else b % 64
  if x = 0 then 1 else x

/-- The 24 words of one group: gains and drive bytes (R62 step 1). -/
def trimWords (rows : Nat) : List Nat → Nat → List (Nat × List Nat) × Nat
  | [], x => ([], x)
  | g :: gs, x =>
    let b := lfsrBytes rows x
    let r := trimWords rows gs b.2
    ((g, b.1.map (trimByte g)) :: r.1, r.2)

/-- The gains of a group's words: 16 at 1, 4 at 2, 4 at 4. -/
def trimGains : List Nat := List.replicate 16 1 ++ List.replicate 4 2 ++ List.replicate 4 4

/-- A word that trim or recalibration drives: its first row, its group's mode, its gain, its drive bytes. -/
structure DriveWord where
  row0 : Nat
  gmode : Nat
  gain : Nat
  drive : List Nat
  deriving DecidableEq, Repr

/-- The words of groups given by first row and mode, group after group without reseeding (R62 step 1). -/
def trimSequence : List (Nat × Nat) → Nat → List DriveWord
  | [], _ => []
  | (r0, gm) :: rest, x =>
    let w := trimWords (groupRows gm) trimGains x
    w.1.map (fun y => ⟨r0, gm, y.1, y.2⟩) ++ trimSequence rest w.2

/-- An A sum in 1/192 of its mode's λ, so that groups of 32 and of 64 fit together (R62; Table MAC-3). -/
def inLambdas (gmode sum : Nat) : Nat := sum * (192 / lambda1 gmode)

/-- Sums for a least-squares fit of codes n against A sums S, these in 1/192 of λ. -/
structure Fit where
  k : Nat := 0
  sx : Nat := 0
  sy : Nat := 0
  sxx : Nat := 0
  sxy : Nat := 0
  syy : Nat := 0
  deriving DecidableEq, Repr

/-- A point added. -/
def Fit.add (f : Fit) (x y : Nat) : Fit :=
  ⟨f.k + 1, f.sx + x, f.sy + y, f.sxx + x * x, f.sxy + x * y, f.syy + y * y⟩

/-- k² times the variance of x, and k² times the covariance. -/
def Fit.var (f : Fit) : Int := (f.k : Int) * f.sxx - (f.sx : Int) * f.sx
/-- See `Fit.var`. -/
def Fit.cov (f : Fit) : Int := (f.k : Int) * f.sxy - (f.sx : Int) * f.sy
/-- k² times the variance of y. -/
def Fit.vary (f : Fit) : Int := (f.k : Int) * f.syy - (f.sy : Int) * f.sy

/-- Quotient rounded to nearest even, for any non-zero denominator. -/
def rneDiv (num den : Int) : Int := if den < 0 then rneRat (-num) den.natAbs else rneRat num den.natAbs

/-- GAIN a = 512 + rne(4096 (1/g − 1)) with g = 192 cov/var (R62 step 3); none where the fit has no slope (DEDUCED, log entry 30). -/
def Fit.gainCode (f : Fit) : Option Int :=
  if f.cov = 0 then none else some (512 + rneDiv (4096 * (f.var - 192 * f.cov)) (192 * f.cov))

/-- OFFSET b = rne(−16 o/g), o = (Σy − (cov/var) Σx)/k, so o/g = (Σy var − cov Σx)/(192 k cov) (DEDUCED, log entry 30). -/
def Fit.offsetCode (f : Fit) : Option Int :=
  if f.cov = 0 || f.k = 0 then none
  else some (rneDiv (-16 * ((f.sy : Int) * f.var - f.cov * f.sx)) ((f.k : Int) * 192 * f.cov))

/-- The offset alone: b = rne(−16 × mean(n − S/λ)) (R62 step 3, R69). -/
def Fit.offsetOnly (f : Fit) : Int :=
  if f.k = 0 then 0 else rneDiv (-16 * (192 * (f.sy : Int) - f.sx)) ((f.k : Int) * 192)

/-- Does the rms residual exceed num/den of a code: (vary − cov²/var)/k² > (num/den)² (R63, R70)? -/
def Fit.rough (f : Fit) (num den : Nat) : Bool :=
  if f.var = 0 then decide (f.vary * (den * den : Nat) > (num * num : Nat) * ((f.k * f.k : Nat) : Int))
  else decide ((f.vary * f.var - f.cov * f.cov) * (den * den : Nat) > (num * num : Nat) * ((f.k * f.k : Nat) : Int) * f.var)

/-- Does the rms residual of an offset-only fit exceed num/den of a code: the variance of n − S/λ (R63, R70)? -/
def Fit.roughOffset (f : Fit) (num den : Nat) : Bool :=
  let sq : Int := 36864 * (f.syy : Int) - 384 * f.sxy + f.sxx
  let sum : Int := 192 * (f.sy : Int) - f.sx
  decide (((f.k : Int) * sq - sum * sum) * (den * den : Nat) > (num * num : Nat) * ((f.k * f.k * 36864 : Nat) : Int))

/-- Row groups of an A-macro that hold A-placed rows, ascending: first row, and the mode of the group's region (R61, R62). -/
def aGroups (s : State) (n : Nat) : List (Nat × Nat) :=
  sortBy Prod.fst (((s.arr.regions.filter (fun r => analog r.place && r.apair == n)).map (fun r =>
    (List.range r.groups).map (fun g => (r.row0 + g * groupRows r.gmode, r.gmode)))).flatten)

/-- MODE (Table CAL-2): 0 without A-placed rows, 1 SAR, 2 TDC (R58, R61). -/
def macroMode (s : State) (n : Nat) : Nat :=
  match s.arr.regions.find? (fun r => analog r.place && r.apair == n) with
  | some r => if r.gmode = 2 then 2 else 1
  | none => 0

/-- The A sum of a word in a physical column: Σ u × w_lo over its rows (R38). -/
def Pair.aSum (p : Pair) (pc r0 : Nat) (drive : List Nat) : Nat :=
  sumOf ((List.range drive.length).map (fun i => nthD 0 drive i * p.level (r0 + i) pc))

/-- L_g of a group in a physical column: the lo-sums of its halves (R64). -/
def Pair.groupLo (p : Pair) (pc r0 gmode : Nat) : Nat :=
  sumOf ((List.range (groupRows gmode / 32)).map (fun h => p.lo (r0 / 32 + h) pc))

/-- L_g of a group in a logical column. -/
def groupLo (s : State) (n col r0 gmode : Nat) : Nat := (s.pair n).groupLo (physical n (s.pair n) col) r0 gmode

/-- Lo-sums of a physical column over groups (R64). -/
def Pair.loSum (p : Pair) (pc : Nat) (groups : List (Nat × Nat)) : Nat := sumOf (groups.map (fun g => p.groupLo pc g.1 g.2))

/-- A free integer from a free value. -/
def freeInt (x : Nat) : Int := if x % 2 = 0 then ((x / 2 : Nat) : Int) else -((x / 2 + 1 : Nat) : Int)

/-- The ideal code of an A sum (R41): floor(S/λ + 0.5) up to the largest code (DESIGN CHOICE, log entry 31). -/
def idealCode (gmode gain sum : Nat) : Nat :=
  let lam := lambda1 gmode / gain
  Nat.min (nMax gmode) ((2 * sum + lam) / (2 * lam))

/-- A conversion (R41, R55): the ideal code and an error that is a free value (DESIGN CHOICE, log entry 3), within the converter's range (DESIGN CHOICE, log entry 31). -/
def convert (s : State) (gmode gain sum i : Nat) : Nat :=
  Nat.min (nMax gmode) ((idealCode gmode gain sum : Int) + freeInt (Config.freeNat (s.free + i))).toNat

/-- A physical column's points in words driven at G = 1, the words' draws numbered from base (R62 step 3). -/
def columnFit (s : State) (n pc : Nat) (words : List DriveWord) (base : Nat) : Fit :=
  (List.range words.length).foldl (fun (f : Fit) j =>
    match words[j]? with
    | some w =>
      if w.gain = 1 then
        let x := (s.pair n).aSum pc w.row0 w.drive
        f.add (inLambdas w.gmode x) (convert s w.gmode 1 x (base + j))
      else f
    | none => f) {}

/-- One physical column's trim: gain and offset codes, whether its gain was fitted, and whether it fails (R62, R63). -/
def trimColumn (s : State) (n pc lo : Nat) (words : List DriveWord) (base : Nat) : Int × Int × Bool × Bool :=
  let f := columnFit s n pc words base
  if lo < 64 then
    let b := f.offsetOnly
    (512, b, false, b < -128 || b > 127 || f.roughOffset 35 100)
  else
    match f.gainCode, f.offsetCode with
    | some a, some b => (a, b, true, a < 0 || a > 1023 || b < -128 || b > 127 || f.rough 35 100)
    | _, _ => (512, 0, true, true)

/-- The correction c_G of a 32-column group by a least-squares factor ĝ = Σ x y / Σ x² over column-corrected codes
(R62 step 4): the code before limiting. -/
def gainCorrection (pts : List (Nat × Int)) : Int :=
  let sxx : Int := (pts.map (fun x => (x.1 : Int) * x.1)).foldl (· + ·) 0
  let sxy : Int := (pts.map (fun x => (x.1 : Int) * x.2)).foldl (· + ·) 0
  if sxy = 0 then 0 else rneDiv (2048 * (sxx - sxy)) sxy

/-- What a trim of one A-macro finds: per column its codes and verdicts, and c_2, c_4 per 32-column group. -/
structure TrimResult where
  columns : List (Nat × (Int × Int × Bool × Bool))
  c2 : List Int
  c4 : List Int
  drawn : Nat
  deriving DecidableEq, Repr

/-- The trim of R62 on one A-macro. -/
def trimMacro (s : State) (n : Nat) : TrimResult :=
  let groups := aGroups s n
  let words := trimSequence groups (n + 1)
  let k := words.length
  let p := s.pair n
  let cols := (List.range 256).map (fun c => let pc := physical n p c; (c, trimColumn s n pc (p.loSum pc groups) words (c * k)))
  let cor (gain : Nat) (g32 : Nat) : Int :=
    let pts := ((cols.filter (fun x => x.1 / 32 == g32 && x.2.2.2.1)).map (fun x =>
      (List.range k).filterMap (fun j =>
        match words[j]? with
        | some w =>
          if w.gain = gain then
            -- S in 1/192 of λ against the column-corrected code n·f + b/16 in the same units, both times 65,536
            let sum := p.aSum (physical n p x.1) w.row0 w.drive
            let n' : Int := (convert s w.gmode gain sum (x.1 * k + j) : Int) * (4096 + x.2.1 - 512) * 16 + x.2.2.1 * 4096
            some (inLambdas w.gmode sum * 65536, n' * ((192 / gain : Nat) : Int))
          else none
        | none => none))).flatten
    gainCorrection pts
  { columns := cols, c2 := (List.range 8).map (cor 2), c4 := (List.range 8).map (cor 4), drawn := 256 * k }

/-- A correction within its 8-bit range. -/
def limit8 (x : Int) : Int := if x < -128 then -128 else if x > 127 then 127 else x

/-- Columns of a trim that failed and are not lost already. -/
def TrimResult.failed (r : TrimResult) : List Nat := (r.columns.filter (fun x => x.2.2.2.2)).map Prod.fst

/-- What a trim clears of a column's Weathervane state: the means and the baseline (Table CAL-9). -/
def Weathervane.retrimmed (w : Weathervane) : Weathervane :=
  { w with mean := 0, msq := 0, baseMean := 0, baseDev := 0, qualified := 0, drifting := false, recalled := false, persist := 0 }

/-- The trim words, corrections, GLIM, T_CAL and age written (R62 step 5); Weathervane's means and the barometers start again. A
column's FAILS becomes 0 (DEDUCED, log entry 131). -/
def writeTrim (n : Nat) (r : TrimResult) (now : Nat) (temp : Int) (p : Pair) : Pair :=
  let out (i : Nat) : Bool := limit8 (nthD 0 r.c2 i) != nthD 0 r.c2 i || limit8 (nthD 0 r.c4 i) != nthD 0 r.c4 i
  let p1 := r.columns.foldl (fun q x =>
    if x.2.2.2.2 || lost n q x.1 then q
    else q.onTrim (physical n q x.1) (fun t =>
      { t with gain := x.2.1.toNat, offset := x.2.2.1, state := 1, fails := 0, base := x.2.1.toNat })) p
  { p1 with
    gcor2 := putAll 0 p1.gcor2 ((List.range 8).map (fun i => (i, limit8 (nthD 0 r.c2 i))))
    gcor4 := putAll 0 p1.gcor4 ((List.range 8).map (fun i => (i, limit8 (nthD 0 r.c4 i))))
    glim := sumOf ((List.range 8).map (fun i => if out i then 2 ^ i else 0))
    calAt := some now, tCal := temp, wv := (p1.wv.map (fun e => (e.1, e.2.retrimmed))).filter (fun e => e.2 != {})
    baro := p1.baro.map (fun e => (e.1, (e.2.1, e.2.1))) }

/-! Parity and checksums (R23, R82). -/

/-- Even parity of a row's eight segments, over logical columns (R23, R24). -/
def rowParity (n : Nat) (p : Pair) (row : Nat) : Nat :=
  sumOf ((List.range 8).map (fun i =>
    let ones := sumOf ((List.range 32).map (fun j =>
      let v := look 0 p.d (cell row (physical n p (32 * i + j)))
      v / 2 + v % 2))
    (ones % 2) * 2 ^ i))

/-- The five 2-bit checksums of levels of a row by physical column (R82). -/
def levelsChecksum (level : Nat → Nat) : Nat :=
  let seg (lo hi : Nat) : Nat := sumOf ((List.range (hi - lo)).map (fun j => level (lo + j))) % 4
  seg 0 64 + 4 * seg 64 128 + 16 * seg 128 192 + 64 * seg 192 256 + 256 * seg 256 272

/-- The checksums of a row's cells (R82). -/
def rowChecksum (p : Pair) (row : Nat) : Nat := levelsChecksum (p.level row)

/-- The checksums of a row that holds only the barometers' patterns. -/
def plainChecksum (row : Nat) : Nat := levelsChecksum (plainLevel row)

/-- The stored checksums of a row (R82). -/
def Pair.checksum (p : Pair) (row : Nat) : Nat := look (plainChecksum row) p.cksum row

/-- A row's parity and checksums written from its cells. -/
def sealRow (n row : Nat) (p : Pair) : Pair :=
  { p with parity := put 0 p.parity row (rowParity n p row), cksum := put (plainChecksum row) p.cksum row (rowChecksum p row) }

/-- A row written again from its copy (R36, R83): its D and A cells by the columns that serve, a lost column's A cell at level 0,
the barometers' patterns (DESIGN CHOICE, log entry 130), then its parity and checksums. -/
def reloadRow (n row : Nat) (p : Pair) : Pair :=
  let q := (List.range 256).foldl (fun (u : Pair) c =>
    let v := look 0 p.image (cell row c)
    let pc := physical n p c
    { u with d := put 0 u.d (cell row pc) (v / 4) }.setLevel row pc (if lost n p c then 0 else v % 4)) p
  sealRow n row ((List.range 4).foldl (fun (u : Pair) b => u.setLevel row (268 + b) (baroLevel row b)) q)

/-- Logical columns whose A cell in a row differs from its copy (R83). -/
def wrongCells (n row : Nat) (p : Pair) : List Nat :=
  (List.range 256).filter (fun c => !lost n p c && p.level row (physical n p c) != look 0 p.image (cell row c) % 4)

/-- The mask word and status word of a row written again from their copies (R169). -/
def reloadMask (row : Nat) (p : Pair) : Pair :=
  { p with masks := putAll 0 p.masks [(row / 16, look 0 p.maskImage (row / 16)), (128 + row / 64, look 0 p.maskImage (128 + row / 64))] }

/-- A region's rows and masks written again from their copies on every pair of its set (R438). -/
def rewriteRegion (r : Region) (s : State) : State :=
  r.pairs.foldl (fun u n => onPair n (fun p => (List.range r.rows).foldl (fun q i =>
    reloadMask (r.row0 + i) (reloadRow n (r.row0 + i) q)) p) u) s

/-! Side lists (R109, R110). -/

/-- Free side entries of a tile. -/
def Tile.freeSide (t : Tile) : Nat := 8192 - t.side.length

/-- Entries added in the lowest free slots. -/
def addSide : List SideEntry → Tile → Tile
  | [], t => t
  | e :: r, t =>
    match firstBelow 8192 (fun i => (look none t.side i).isNone) with
    | some i => addSide r { t with side := put none t.side i (some e) }
    | none => t

/-! Retirement and remap (R87 to R91). -/

/-- The lowest spare that is neither fused nor in use (R88), nor has failed its trim or left use before (DESIGN CHOICE, log entry 132). -/
def freeSpare (n : Nat) (p : Pair) : Option Nat :=
  firstBelow 12 (fun i =>
    let u := spareUse n p i
    !u.inUse && !u.fused && !u.spent && !p.remaps.any (fun r => r.spare == i))

/-- The retirement entries of a column over a region: one for every stored row whose w_lo, by the row's copy, is not 0 (R91). -/
def retireEntries (s : State) (r : Region) (col : Nat) : List SideEntry :=
  (List.range r.rows).filterMap (fun i =>
    let lo := look 0 (s.pair r.apair).image (cell (r.row0 + i) col) % 4
    if lo = 0 then none
    else some ⟨1, r.row0 + i, r.lead, col, (fmtBF16.convert (fdec (fOfNat lo))).1⟩)

/-- Z terms of a column of a region (R46, R111): 128 × Σ w per group, the D value alone for a lost column. -/
def zTerm (s : State) (r : Region) (g col : Nat) (dOnly : Bool) : Int :=
  128 * ((List.range (groupRows r.gmode)).map (fun i =>
    let w := storedWeight s r.tile r.lead r.place (r.row0 + g * groupRows r.gmode + i) col
    if dOnly then w.2 else w.1)).foldl (· + ·) 0

/-- A region changed, by id. -/
def onRegion (id : Nat) (f : Region → Region) (s : State) : State :=
  { s with arr := { s.arr with regions := s.arr.regions.map (fun r => if r.id == id then f r else r) } }

/-- A column's cells at level 0 and its STATE, 2 retired or 3 uncovered, in the trim word of the column that serves it; the rows
that held charge sealed again (R91 steps 1 to 3). -/
def dropColumn (n col st : Nat) (p : Pair) : Pair :=
  let pc := physical n p col
  let q := { p with a := p.a.filter (fun (e : Nat × Nat) => !(e.1 % 512 == pc)) }.onTrim pc (fun t => { t with state := st, spare := 15 })
  (List.range 2048).foldl (fun u row => if p.level row pc != 0 then sealRow n row u else u) q

/-- A column retired by R91, for want of a spare (cause 1) or for its converter (cause 2, Table TST-2): its A cells at level 0, its Z terms by D planes, its entries added if all
fit, its STATE and the counts, and ARR_SPARES_OUT. -/
def retireColumn (cause n col : Nat) (s : State) : State :=
  let tile := n / 48
  let rs := s.arr.regions.filter (fun r => analog r.place && r.apair == n)
  let es := (rs.map (fun r => retireEntries s r col)).flatten
  let fits := decide (es.length ≤ (s.tile tile).freeSide)
  let s1 := if fits then onTile tile (addSide es) s else s
  let s2 := onPair n (dropColumn n col (if fits then 2 else 3)) s1
  let s3 := rs.foldl (fun u r =>
    onRegion r.id (fun x => { x with z := putAll 0 x.z ((List.range r.groups).map (fun g => (g * 256 + col, zTerm u r g col true))) }) u) s2
  raise (atPair 0x010C n col (if fits then es.length else 0))
    (logHealth 2 [tile, n % 48, col, if fits then 1 else 2, cause] s3)

/-- A column must be remapped (R87), by a trigger of Table TST-4 (1 trim, 2 recalibration, 3 stuck, 4 checksum, 5 ADDER): a spare is chosen and its fetch begins, or the column is retired. -/
def startRemap (n col trigger : Nat) (s : State) : State :=
  let p := s.pair n
  if p.remaps.any (fun r => r.column == col) || lost n p col then s
  else
    match freeSpare n p with
    | some i => onPair n (fun q => { q with remaps := q.remaps ++ [{ column := col, spare := i, trigger := trigger }] }) s
    | none => retireColumn 1 n col s

/-- Automatic gain stays at G = 1 where GLIM says so: the regions' G_auto of such groups starts again (R58, R62, R77). -/
def limitGains (n : Nat) (s : State) : State :=
  let glim := (s.pair n).glim
  if glim = 0 then s
  else
    { s with arr := { s.arr with regions := s.arr.regions.map (fun r =>
        if analog r.place && r.apair == n then { r with gauto := r.gauto.filter (fun e => !bit glim e.1) } else r) } }

/-- A trim carried out on an A-macro (R62, R63): words written, failures raised and remapped. -/
def trimPair (n : Nat) (s : State) : State :=
  let r := trimMacro s n
  let temp := (s.tile (n / 48)).temp
  let s1 := limitGains n (skipFree r.drawn (onPair n (writeTrim n r s.now temp) s))
  r.failed.foldl (fun u c =>
    if lost n (u.pair n) c then u else startRemap n c 1 (raise (atPair 0x0103 n 0 0) u)) s1

end Sys2Proof.Machine
end

