-- ==== Sys2Proof/Machine/Load.lean ====
section
/-! DEFINITION. LOAD and UNLOAD, keep bitmaps and the pruning unit (R108 to R111, R164 to R180, R253 to R257). -/

namespace Sys2Proof.Machine

/-- A plan record read from its bytes (Table STI-5). -/
def parsePlan (bs : List Byte) : Plan :=
  let w := recordWords bs
  let f (i hi lo : Nat) : Nat := bits (nthD 0 w i) hi lo
  { layer := f 0 63 48, expert := f 0 47 40, inst := f 0 39 36, lead := f 0 35 30, place := f 0 29 28, gmode := f 0 27 26,
    first := f 0 25 21, ngroups := f 0 20 15, role := f 0 14 13, sparse := f 0 12 11, reprune := bit (nthD 0 w 0) 10,
    routed := bit (nthD 0 w 0) 9, tile0 := f 1 63 50, ntiles := f 1 49 36, outvec0 := f 1 35 20, inwidth := f 1 12 0,
    inelem0 := f 2 63 40, keepBase := f 2 39 0, escBase := f 3 39 0, rrecBase := f 4 39 0, keepOut := f 5 39 0,
    fcParams := f 6 63 0, fcB := bit (nthD 0 w 7) 16, fcE := f 7 15 8, fcG := f 7 5 0,
    reservedOk := f 0 8 0 == 0 && f 1 19 13 == 0 && f 3 63 40 == 0 && f 4 63 40 == 0 && f 5 63 40 == 0
      && f 7 63 17 == 0 && f 7 7 6 == 0 }

/-- Input elements a tile's rows cover (R253). -/
def Plan.covers (p : Plan) : Nat := (if p.sparse = 0 then 64 else 128) * p.ngroups

/-- Check 1 of Table STI-6. -/
def Plan.fieldsOk (p : Plan) : Bool :=
  p.reservedOk && p.gmode != 3 && p.role != 3 && p.sparse != 3 && decide (p.tile0 ≤ 10239) && decide (1 ≤ p.ntiles)
    && decide (p.ntiles ≤ 10240 - p.tile0) && decide (1 ≤ p.ngroups) && decide (p.ngroups ≤ 32) && decide (p.inst ≤ 8)
    && (p.routed || (p.expert == 0 && p.inst == 0))
    && (if p.sparse = 1 then decide (1 ≤ p.inwidth) && decide (p.inwidth ≤ 128 * p.ngroups)
        else !p.reprune && p.keepBase == 0 && p.inwidth == 0)
    && (p.sparse == 2 || p.reprune || (p.rrecBase == 0 && p.keepOut == 0))
    && (if p.fcB then p.role == 1 && decide (1 ≤ p.fcG) else p.fcParams == 0 && p.fcE == 0 && p.fcG == 0)

/-- Check 3 of Table STI-6. -/
def Plan.sourceOk (p : Plan) (d : Desc) : Bool :=
  d.etype == (if p.place < 2 then .int4 else .int8) && decide (1 ≤ d.channels) && decide (d.channels ≤ p.covers)
    && d.ndim == 3 && d.size 1 == 256 && d.size 2 == p.ntiles

/-- Check 4 of Table STI-6. -/
def Plan.placedOk (p : Plan) : Bool :=
  let span := groupRows p.gmode * (if p.sparse = 0 then 1 else 2)
  (p.place == 0 || p.lead % setSize p.place == 0) && decide (p.lead + setSize p.place ≤ 48)
    && decide (p.first + p.ngroups ≤ 32) && (p.gmode != 2 || (p.first % 2 == 0 && p.ngroups % 2 == 0))
    && p.inelem0 % span == 0

/-- The tiles of a plan. -/
def Plan.tiles (p : Plan) : List Nat := (List.range p.ntiles).map (p.tile0 + ·)

/-- Do two ranges of groups on pair sets of one tile share a row group? -/
def Region.clashes (r : Region) (tile lead place first ngroups : Nat) : Bool :=
  r.tile == tile && decide (r.lead < lead + setSize place) && decide (lead < r.lead + setSize r.place)
    && decide (r.first < first + ngroups) && decide (first < r.first + r.ngroups)

/-- Check 5 of Table STI-6. -/
def Plan.free (p : Plan) (s : State) : Bool :=
  !s.arr.regions.any (fun r => p.tiles.contains r.tile && r.clashes r.tile p.lead p.place p.first p.ngroups)

/-- Check 6 of Table STI-6: SAR and TDC modes on one A-macro. -/
def Plan.modeOk (p : Plan) (s : State) : Bool :=
  !analog p.place || !s.arr.regions.any (fun r =>
    analog r.place && p.tiles.contains r.tile && aPair r.place r.lead == aPair p.place p.lead
      && (r.gmode == 2) != (p.gmode == 2))

/-- Keep bitmap bytes of one tile: two quads a byte (R174). -/
def Plan.keepBytes (p : Plan) : Nat := 16 * p.ngroups

/-- Check 8 of Table STI-6: each address named lies, with what is known of its extent, in an allocation of the program
that permits scalar access (R225). -/
def Plan.addressesOk (p : Plan) (s : State) (program : Nat) : Bool :=
  let ok (a n : Nat) : Bool := a == 0 || (scalarOk s program a 1 &&
    s.mem.within a n (fun x => x.program == program && (x.kind == 1 || x.kind == 3)))
  ok p.keepBase (p.keepBytes * p.ntiles) && (p.escBase % 2 == 0) && ok p.escBase 2 && ok p.rrecBase (32 * p.ntiles)
    && ok p.keepOut (p.keepBytes * p.ntiles)

/-- The first check of Table STI-6 that refuses a LOAD, 1 to 8 (DEDUCED, log entry 124). -/
def loadCheck (s : State) (program : Nat) (p : Plan) (d : Desc) : Option Nat :=
  if !p.fieldsOk then some 1
  else if p.role = 1 ∧ analog p.place then some 2
  else if !p.sourceOk d then some 3
  else if !p.placedOk then some 4
  else if !p.free s then some 5
  else if !p.modeOk s then some 6
  else if p.role = 2 ∧ p.outvec0 % 8 ≠ 0 then some 7
  else if !p.addressesOk s program then some 8
  else none

/-- The region of a plan on its j-th tile, loading (R254, R256). -/
def Plan.region (p : Plan) (root : Nat) (d : Desc) (id j : Nat) : Region :=
  { id := id, tile := p.tile0 + j, lead := p.lead, place := p.place, gmode := p.gmode, first := p.first,
    ngroups := p.ngroups, layer := p.layer, expert := p.expert, inst := p.inst, routed := p.routed, role := p.role,
    masked := p.sparse != 0, sparse := p.sparse, reprune := p.reprune, outvec0 := p.outvec0, inelem0 := p.inelem0 + j * p.covers,
    inwidth := if p.sparse = 1 then p.inwidth else d.channels, fcB := p.fcB, fcE := p.fcE, fcG := p.fcG,
    fcParams := p.fcParams, state := .loading
    rank := Config.shareRank root p.layer p.expert (p.inelem0 + j * p.covers) (32 * p.outvec0) }

/-- LOAD at issue (R253, R254). -/
def effLoad (t : Who) (w : Head) (s : State) : State :=
  issue t (tensor 0x8D w [] true true true (need (fld w 26 0 == 0)))
    (fun s =>
      let tag := fld w 49 41
      let slot := fld w 40 33
      let a := (s.g t (fld w 32 27)).toNat
      let program := (s.thr t.num).program
      operands s t [slot] tag (fun ds =>
        match ds with
        | [d] =>
          if !scalarOk s program a 64 then .fail 0x16 a 64 tag
          else if s.mem.poisoned a then
            .refused (raise (atThread 0x0502 t.c.val t.k.val (a / 64 * 64) 0) s) 0x19 0x0502 (a / 64 * 64) 0 tag
          else
            let p := parsePlan (s.mem.readN a 64)
            match loadCheck s program p d with
            | some n => refuse n (if n = 3 then slot else 0) tag
            | none =>
              let rs := (List.range p.ntiles).map (fun j => p.region s.modelRoot d (s.arr.nextRegion + j) j)
              let s1 := wakeBanks [a] s
              launch { s1 with arr := { s1.arr with regions := s1.arr.regions ++ rs, nextRegion := s1.arr.nextRegion + p.ntiles } }
                t tag [slot] (.load d p)
        | _ => .fail 0x15 slot 0 tag)) s

/-! Weight files (R108, R174 to R178). -/

/-- A weight file's code. -/
def fileCode (m : Mem) (d : Desc) (j col row : Nat) : Nat := d.codeAt m (j * 256 + col) row

/-- Is a code an INT4 escape (R108)? -/
def isEscape (d : Desc) (code : Nat) : Bool := d.etype == .int4 && code == 8

/-- Which escape of the file, in image order, stands at an element (R108). -/
def escapeIndex (m : Mem) (d : Desc) (j col row : Nat) : Nat :=
  sumOf ((List.range (j * 256 + col)).map (fun p => ((List.range d.channels).filter (fun c => isEscape d (d.codeAt m p c))).length))
    + ((List.range row).filter (fun c => isEscape d (fileCode m d j col c))).length

/-- An escape's BF16 code from the table; none without a table. -/
def escapeValue (m : Mem) (d : Desc) (p : Plan) (j col row : Nat) : Option Nat :=
  if p.escBase = 0 then none else some (m.readLe (p.escBase + 2 * escapeIndex m d j col row) 2)

/-- A weight's value for the norm: the code, or the escape's value; 0 for an escape without a table (R108, R177). -/
def weightValue (m : Mem) (d : Desc) (p : Plan) (j col row : Nat) : F32 :=
  let code := fileCode m d j col row
  if isEscape d code then
    match escapeValue m d p j col row with
    | some b => bf16Value b
    | none => fZero
  else d.etype.value code

/-- The weight scale of a column for a file row (R112); 1.0 beyond the file's rows (DESIGN CHOICE, log entry 133). -/
def weightScale (m : Mem) (d : Desc) (j col row : Nat) : F32 :=
  if d.channels ≤ row then fOne else d.scale m (j * 256 + col) row

/-- N of a file row (R177). -/
def rowNorm (m : Mem) (d : Desc) (p : Plan) (j row : Nat) : F32 :=
  (List.range 256).foldl (fun a c => fAdd a (fMul (fAbs (weightValue m d p j c row)) (fAbs (weightScale m d j c row)))) fZero

/-- The declared positions of a quad in a tile's keep bitmap (R174). -/
def keepQuad (m : Mem) (p : Plan) (j q : Nat) : List Nat :=
  let b := (m.read (p.keepBase + j * p.keepBytes + q / 2)).toNat
  (List.range 4).filter (fun k => bit b (4 * (q % 2) + k))

/-- Quads of a tile's region. -/
def Plan.quads (p : Plan) : Nat := 32 * p.ngroups

/-- A stored row of a masked region: position, file row if it has one, and its norm's place among the kept. -/
structure StoredRow where
  pos : Nat
  src : Option Nat
  deriving DecidableEq, Repr

/-- The two rows of a quad from the rows kept, completed by fillers (R165, R176). -/
def fillQuad (inwidth q : Nat) (kept : List (Nat × Nat)) : List StoredRow :=
  let rows : List StoredRow := kept.map (fun x => ⟨x.1, some x.2⟩)
  let pick (l : List StoredRow) : List StoredRow :=
    if 2 ≤ l.length then l
    else
      let free := (List.range 4).filter (fun k => !l.any (fun x => x.pos == k))
      let inside := free.filter (fun k => decide (4 * q + k < inwidth))
      match inside, free with
      | k :: _, _ => l ++ [⟨k, none⟩]
      | [], k :: _ => l ++ [⟨k, none⟩]
      | [], [] => l
  sortBy StoredRow.pos (pick (pick rows))

/-- Norm order: larger first, the lower position on a tie, NaN below every number (R177). -/
def normRank (x : F32) : Nat := topRank x

/-- What the load path does to one quad: rows kept as (position, file row), norms kept and removed, and whether it was
re-pruned. -/
structure QuadResult where
  kept : List (Nat × Nat)
  keptN : List F32
  removedN : List F32
  repruned : Bool
  deriving DecidableEq, Repr

/-- A quad of a file: first is the file row of its first declared row; declared are its candidates (R175, R177). -/
def pruneQuad (m : Mem) (d : Desc) (p : Plan) (j first : Nat) (declared : List Nat) : QuadResult :=
  let c := (List.range declared.length).map (fun i => (nthD 0 declared i, first + i, rowNorm m d p j (first + i)))
  let top := (sortBy (fun x => normRank x.2.2) c).take 2
  let isTop (x : Nat × Nat × F32) : Bool := top.any (fun y => y.1 == x.1)
  { kept := (c.filter isTop).map (fun x => (x.1, x.2.1)), keptN := (c.filter isTop).map (fun x => x.2.2),
    removedN := (c.filter (fun x => !isTop x)).map (fun x => x.2.2), repruned := decide (2 < declared.length) && p.sparse == 1 }

/-- The quads of a tile in order, each with the file row its declared rows begin at (R174). -/
def tileQuads (m : Mem) (d : Desc) (p : Plan) (j : Nat) : List QuadResult :=
  let step (acc : List QuadResult × Nat) (q : Nat) : List QuadResult × Nat :=
    if p.sparse = 2 then
      (acc.1 ++ [pruneQuad m d p j (4 * q) ((List.range 4).filter (fun k => decide (4 * q + k < d.channels)))], acc.2)
    else
      let decl := keepQuad m p j q
      (acc.1 ++ [pruneQuad m d p j acc.2 decl], acc.2 + decl.length)
  ((List.range p.quads).foldl step ([], 0)).1

/-- The stored rows of a tile: position and file row (R173, R176, R253). -/
def storedRows (m : Mem) (d : Desc) (p : Plan) (j : Nat) : List StoredRow :=
  if p.sparse = 0 then (List.range (64 * p.ngroups)).map (fun i => ⟨0, if i < d.channels then some i else none⟩)
  else
    let w := if p.sparse = 1 then p.inwidth else d.channels
    let qs := tileQuads m d p j
    ((List.range qs.length).map (fun q =>
      match qs[q]? with
      | some r => fillQuad w q r.kept
      | none => [])).flatten

/-- The keep bitmap checks of one tile in order (R175): event, quad. -/
def keepCheck (m : Mem) (d : Desc) (p : Plan) (j : Nat) : Option (Nat × Nat) :=
  let step (acc : Option (Nat × Nat) × Nat) (q : Nat) : Option (Nat × Nat) × Nat :=
    match acc.1 with
    | some _ => acc
    | none =>
      let decl := keepQuad m p j q
      let n := acc.2 + decl.length
      if decl.any (fun k => decide (p.inwidth ≤ 4 * q + k)) then (some (0x0303, q), n)
      else if d.channels < n then (some (0x0303, q), n)
      else if 2 < decl.length ∧ !p.reprune then (some (0x0301, q), n)
      else (none, n)
  ((List.range p.quads).foldl step (none, 0)).1

/-- The first tile whose keep bitmaps refuse the load: event, quad, tile (R175). -/
def keepRefusal (m : Mem) (d : Desc) (p : Plan) : Option (Nat × Nat × Nat) :=
  if p.sparse = 1 then
    (List.range p.ntiles).findSome? (fun j => (keepCheck m d p j).map (fun x => (x.1, x.2, p.tile0 + j)))
  else none

/-- R178: do the file's scale blocks cover whole groups? -/
def scaleBlocksOk (d : Desc) (p : Plan) : Bool :=
  let rows := groupRows p.gmode
  d.stype == .none || (if p.sparse = 2 then d.block % (2 * rows) == 0 else d.block % rows == 0)

/-- The weight-escape side entries of a tile (R108, R109, R179). -/
def escapeEntries (m : Mem) (d : Desc) (p : Plan) (j : Nat) : List SideEntry :=
  let rows := storedRows m d p j
  ((List.range rows.length).map (fun i =>
    match rows[i]? with
    | some ⟨_, some r⟩ =>
      (List.range 256).filterMap (fun col =>
        if isEscape d (fileCode m d j col r) then
          (escapeValue m d p j col r).map (fun v => ⟨0, 64 * p.first + i, p.lead, col, v⟩)
        else none)
    | _ => [])).flatten

/-- Escape codes of the file, for a plan without an escape table (R108). -/
def untabledEscapes (m : Mem) (d : Desc) (p : Plan) : Nat :=
  if p.escBase ≠ 0 then 0
  else sumOf ((List.range (256 * p.ntiles)).map (fun q => ((List.range d.channels).filter (fun c => isEscape d (d.codeAt m q c))).length))

/-- The first tile without room for its weight escapes (R110). -/
def sideShort (s : State) (d : Desc) (p : Plan) : Option Nat :=
  ((List.range p.ntiles).find? (fun j => decide ((s.tile (p.tile0 + j)).freeSide < (escapeEntries s.mem d p j).length))).map (p.tile0 + ·)

/-! Writing the arrays (R27, R168, R255). -/

/-- One region's mask words and status words on a pair (R167). -/
def writeMask (p : Plan) (rows : List StoredRow) (q : Pair) : Pair :=
  let word (i : Nat) : Nat :=
    if p.sparse = 0 then 0
    else sumOf ((List.range 16).map (fun k => (rows[16 * i + k]?.map StoredRow.pos).getD 0 * 4 ^ k))
  let parity (x : Nat) : Nat := sumOf ((List.range 32).map (fun k => b01 (bit x k))) % 2
  let n := 4 * p.ngroups
  let words := (List.range n).map (fun i => (4 * p.first + i, word i))
  let status := (List.range p.ngroups).map (fun g =>
    (128 + p.first + g, if p.sparse = 0 then 0 else 2 ^ 31 + sumOf ((List.range 4).map (fun k => parity (word (4 * g + k)) * 2 ^ k))))
  { q with masks := putAll 0 q.masks (words ++ status), maskImage := putAll 0 q.maskImage (words ++ status) }

/-- The stored code of a row and column: the file's, 0 for an escape, a padding or a filler row (R108, R176). -/
def storedCode (m : Mem) (d : Desc) (j col : Nat) (r : StoredRow) : Nat :=
  match r.src with
  | none => 0
  | some k =>
    let c := fileCode m d j col k
    if isEscape d c then 0 else c

/-- One pair's cells of a region's rows, written in logical columns; unused A cells at level 0 (R26, R27). The rows' copy keeps
what the file gives, and the lo-sums of their halves count it (R64, R83). -/
def writeCells (m : Mem) (d : Desc) (p : Plan) (j i : Nat) (rows : List StoredRow) (n : Nat) (q : Pair) : Pair :=
  let last := i + 1 == setSize p.place
  let rowStep (u : Pair) (k : Nat) : Pair :=
    match rows[k]? with
    | none => u
    | some r =>
      let row := 64 * p.first + k
      let u1 := (List.range 256).foldl (fun v col =>
        let code := storedCode m d j col r
        let pc := physical n v col
        let lo := if last && analog p.place then code % 4 else 0
        { v with d := put 0 v.d (cell row pc) (dPart p.place i code),
                 image := put 0 v.image (cell row col) (4 * dPart p.place i code + lo),
                 los := put 0 v.los (row / 32 * 512 + pc) ((if row % 32 = 0 then 0 else v.lo (row / 32) pc) + lo) }.setLevel
          row pc (if lost n v col then 0 else lo)) u
      sealRow n row u1
  (List.range rows.length).foldl rowStep q

/-- The removal record of one region (R180) (DEDUCED, log entry 124). -/
def removalRecord (d : Desc) (p : Plan) (qs : List QuadResult) : List Byte :=
  let w := if p.sparse = 1 then p.inwidth else d.channels
  let sum (l : List F32) : F32 := l.foldl fAdd fZero
  let ratio (r : QuadResult) : Option F32 :=
    if fAbs (sum r.keptN) = fZero then none else some (fDiv (sum r.removedN) (sum r.keptN))
  let worst := ((List.range qs.length).foldl (fun (a : Option (F32 × Nat)) q =>
    match (qs[q]?).bind ratio, a with
    | some x, none => some (x, q)
    | some x, some b => if fLt b.1 x then some (x, q) else a
    | none, _ => a) none).getD (fZero, 0)
  let filled := sumOf ((List.range qs.length).map (fun q =>
    match qs[q]? with
    | some r => ((fillQuad w q r.kept).filter (fun x => x.src.isNone && decide (4 * q + x.pos < w))).length
    | none => 0))
  leBytes 4 (ceilDiv w 4) ++ leBytes 4 ((qs.filter QuadResult.repruned).length) ++ leBytes 4 filled ++ leBytes 4 0
    ++ leBytes 4 (sum ((qs.map QuadResult.keptN).flatten)).toNat ++ leBytes 4 (sum ((qs.map QuadResult.removedN).flatten)).toNat
    ++ leBytes 4 worst.1.toNat ++ leBytes 4 worst.2

/-- The resulting keep bitmap of a tile (R174, R180): the rows kept from the file. -/
def keepBitmap (qs : List QuadResult) : List Byte :=
  (chunks 2 qs).map (fun l =>
    let nib (i : Nat) : Nat := match l[i]? with
      | some r => sumOf (r.kept.map (fun x => 2 ^ x.1))
      | none => 0
    BitVec.ofNat 8 (nib 0 + 16 * nib 1))

/-- The records a pruning LOAD writes (R180). -/
def pruneWrites (m : Mem) (d : Desc) (p : Plan) : List (Nat × Byte) :=
  ((List.range p.ntiles).map (fun j =>
    let qs := tileQuads m d p j
    (if p.rrecBase = 0 then [] else run (p.rrecBase + 32 * j) (removalRecord d p qs))
      ++ (if p.keepOut = 0 then [] else run (p.keepOut + p.keepBytes * j) (keepBitmap qs)))).flatten

/-- The regions of a load still in the map. -/
def Plan.mine (p : Plan) (r : Region) : Bool :=
  r.layer == p.layer && r.lead == p.lead && r.first == p.first && r.ngroups == p.ngroups && p.tiles.contains r.tile
    && r.place == p.place && r.state == .loading

/-- The tile index of a file whose region is given. -/
def Plan.index (p : Plan) (r : Region) : Nat := r.tile - p.tile0

/-- A region's scales and zero-point terms (R46, R111, R112). -/
def writeTerms (d : Desc) (p : Plan) (r : Region) (s : State) : State :=
  let j := p.index r
  let g0 := groupRows p.gmode
  let ws := ((List.range r.groups).map (fun g =>
    (List.range 256).map (fun col =>
      -- a dense file's blocks count input elements, any other's stored rows (R112, R178)
      let row := if p.sparse = 2 then g * 2 * g0 else g * g0
      (g * 256 + col, weightScale s.mem d j col row)))).flatten
  let n := r.apair
  let z := ((List.range r.groups).map (fun g =>
    (List.range 256).map (fun col => (g * 256 + col, zTerm s r g col (analog p.place && lost n (s.pair n) col))))).flatten
  onRegion r.id (fun x => { x with ws := putAll fOne x.ws ws, z := putAll 0 x.z z }) s

/-- One region written: masks, cells, terms, side entries, retirement entries of lost columns (R91, R110, R255). -/
def writeRegion (d : Desc) (p : Plan) (s : State) (r : Region) : State :=
  let j := p.index r
  let rows := storedRows s.mem d p j
  let s1 := (List.range (setSize p.place)).foldl (fun u i =>
    onPair (r.tile * 48 + r.lead + i) (fun q =>
      writeCells s.mem d p j i rows (r.tile * 48 + r.lead + i) (writeMask p rows q)) u) s
  let s2 := onTile r.tile (fun t =>
    { addSide (escapeEntries s.mem d p j) t with
      cache := t.cache.filter (fun k => !(decide (k / 2048 = r.lead) && decide (r.row0 ≤ k % 2048) && decide (k % 2048 < r.row0 + r.rows))) }) s1
  let s3 := writeTerms d p r s2
  if analog p.place then
    (List.range 256).foldl (fun u col =>
      let n := r.apair
      if lost n (u.pair n) col && ((u.pair n).trim (physical n (u.pair n) col)).state == 2 then
        let es := (List.range rows.length).filterMap (fun i =>
          match rows[i]? with
          | some x =>
            let lo := storedCode s.mem d j col x % 4
            if lo = 0 then none else some ⟨1, 64 * p.first + i, p.lead, col, (fmtBF16.convert (fdec (fOfNat lo))).1⟩
          | none => none)
        if es.length ≤ (u.tile r.tile).freeSide then onTile r.tile (addSide es) u
        else raise (atPair 0x010C n col 0) (logHealth 2 [n / 48, n % 48, col, 2, 1]
          (onPair n (fun q => q.onTrim (physical n q col) (fun t => { t with state := 3 })) u))
      else u) s3
  else s3

/-- The Forecast values of a B matrix (Table STI-5, R208). -/
def forecastOf (p : Plan) : ForecastLayer :=
  { theta := bits p.fcParams 63 48, delta := bits p.fcParams 47 32, thetaMin := bits p.fcParams 31 16, thetaMax := bits p.fcParams 15 0 }

/-- May an instance whose regions are resident join: not one granted that still loads (R200)? -/
def mayJoin (s : State) (m : Nat × Nat × Nat) : Bool := !s.bat.mirrors.any (fun x => (x.layer, x.expert, x.inst) == m && !x.resident)

/-- Does ROUTE name a layer: has one done so, or holds the mirror manager grants of it (DEDUCED, log entry 96)? -/
def routedLayer (s : State) (layer : Nat) : Bool := s.bat.experts.any (fun e => e.1 == layer) || s.bat.mirrors.any (fun m => m.layer == layer)

/-- CON_MIRROR once for each expert of a layer that ROUTE names whose instance count instances that join and leave change (R200). -/
def countChanges (joins out : List (Nat × Nat × Nat)) (s : State) : State :=
  let of (l : List (Nat × Nat × Nat)) (e : Nat × Nat) : Nat := (l.filter (fun m => (m.1, m.2.1) == e)).length
  let es := ((joins ++ out).map (fun m => (m.1, m.2.1))).eraseDups
  (es.filter (fun e => routedLayer s e.1 && of joins e != of out e)).foldl (fun u _ => raise { code := 0x0309 } u) s

/-- A mirror that is resident joins its expert's instances at the next token step boundary; with no token step under way that is now
(R200) (DEDUCED, log entries 32 and 96). -/
def joinMirror (m : Nat × Nat × Nat) (s : State) : State :=
  if s.bat.step.isSome || !mayJoin s m then { s with arr := { s.arr with joining := addOnce s.arr.joining m } }
  else countChanges [m] [] { s with arr := { s.arr with joining := takeOut s.arr.joining m } }

/-- The regions become resident, a mirror's waiting for the next token step boundary, and a Forecast B matrix's values are
recorded (R62, R200, R255, R256). -/
def makeResident (p : Plan) (s : State) : State :=
  let s1 := { s with arr := { s.arr with
    regions := s.arr.regions.map (fun r => if p.mine r then { r with state := .resident } else r) } }
  let known := s.arr.regions.any (fun r => r.routed && (r.layer, r.expert, r.inst) == (p.layer, p.expert, p.inst)
    && (r.state == .resident || r.state == .reloading))
  let s2 := if p.routed && p.inst != 0 && !known then joinMirror (p.layer, p.expert, p.inst) s1 else s1
  if p.fcB then { s2 with arr := { s2.arr with forecast := put {} s2.arr.forecast p.layer (forecastOf p) } } else s2

/-- A refused LOAD's regions leave the map (R255). -/
def dropRegions (p : Plan) (s : State) : State :=
  { s with arr := { s.arr with regions := s.arr.regions.filter (fun r => !p.mine r) } }

/-- A LOAD that fails at a tile: its regions removed, its event raised there, its tag FAULTED (DEDUCED, log entry 93). -/
def failLoad (x : Tx) (p : Plan) (tile event i0 i1 : Nat) (s : State) : State :=
  faultTx x event i0 i1 (raise (atPair event (tile * 48 + p.lead) i0 i1) (dropRegions p s))

/-- A LOAD that meets a poisoned line (R255, R303) (DEDUCED, log entry 93). -/
def poisonLoad (x : Tx) (p : Plan) (line : Nat) (s : State) : State :=
  faultTx x 0x0502 line 0 (raise (atThread 0x0502 x.c x.k line 0) (dropRegions p s))

/-- The A-macros a load touches. -/
def loadMacros (p : Plan) : List Nat :=
  if analog p.place then p.tiles.map (fun t => t * 48 + aPair p.place p.lead) else []

/-- Addresses of the keep bitmaps and the escape table. -/
def tableAddrs (m : Mem) (d : Desc) (p : Plan) : List Nat :=
  (if p.keepBase = 0 then [] else span p.keepBase (p.keepBytes * p.ntiles)) ++
  (if p.escBase = 0 then []
   else span p.escBase (2 * sumOf ((List.range (256 * p.ntiles)).map (fun q => ((List.range d.channels).filter (fun c => isEscape d (d.codeAt m q c))).length))))

/-- The quads a LOAD re-prunes, and its escapes without a table (R108, R175). -/
def loadCounts (d : Desc) (p : Plan) (s : State) : Nat × Nat :=
  (sumOf ((List.range p.ntiles).map (fun j =>
    if p.sparse = 1 then ((tileQuads s.mem d p j).filter QuadResult.repruned).length else 0)), untabledEscapes s.mem d p)

/-- LOAD_COMPLETE's work after the checks: arrays written, records written, trims made (R255). -/
def writeLoad (x : Tx) (d : Desc) (p : Plan) (s : State) : State :=
  let mine := s.arr.regions.filter p.mine
  let pw := if p.sparse = 2 ∨ p.reprune then pruneWrites s.mem d p else []
  let s1 := mine.foldl (writeRegion d p) s
  let s2 := writeMem pw s1
  let s3 := (loadMacros p).foldl (fun u n => trimPair n u) s2
  setTx { x with noted := loadCounts d p s }
    { s3 with arr := { s3.arr with regions := s3.arr.regions.map (fun r => if p.mine r then { r with written := true } else r) } }

/-- A LOAD's end: its regions resident, SPA_REPRUNE and NUM_ESC_ORPHAN raised once with their counts, its tag DONE (R108, R175,
R255). -/
def endLoad (x : Tx) (p : Plan) (s : State) : State :=
  let n := ((s.tx? x.c x.tag).map Tx.noted).getD (0, 0)
  raiseAll ((if n.1 = 0 then [] else [atPair 0x0302 (p.tile0 * 48 + p.lead) n.1 0]) ++ ({ orphan := n.2 } : Counts).raises x.c x.k)
    (doneTx x (makeResident p s))

/-- Do remaps still hold a load back (R63)? -/
def remapsPending (s : State) (p : Plan) : Bool := (loadMacros p).any (fun n => !(s.pair n).remaps.isEmpty)

/-- The pair test group of a pair (R456). -/
def testGroup (tile pair : Nat) : Nat := pair * 320 + tile % 640 % 320

/-- Does a load touch an untested pair (R463)? -/
def touchesUntested (s : State) (p : Plan) : Bool :=
  p.tiles.any (fun t => (List.range (setSize p.place)).any (fun i => s.test.groups.contains (testGroup t (p.lead + i))))

/-- LOAD_COMPLETE (R255, R463): the checks in order, the writing, and DONE when the regions are resident; a load that waits for a
spare completes when its remaps have. -/
def effLoadComplete (c : Fin 20) (tag : Fin 512) (s : State) : State :=
  match s.tx? c.val tag.val with
  | some x =>
    match x.op with
    | .load d p =>
      if s.arr.regions.any (fun r => p.mine r && r.written) then
        if remapsPending s p then s else endLoad x p s
      else if touchesUntested s p then s
      else
        match unstagedPage s d with
        | some page => softFault x page s
        | none =>
          match (tableAddrs s.mem d p).find? s.mem.poisoned with
          | some a => poisonLoad x p (a / 64 * 64) s
          | none =>
            match keepRefusal s.mem d p with
            | some (e, q, tile) => failLoad x p tile e q tile s
            | none =>
              if !scaleBlocksOk d p then failLoad x p p.tile0 0x0305 0 p.tile0 s
              else
                match sideShort s d p with
                | some tile => failLoad x p tile 0x0205 tile 0 s
                | none =>
                  match firstPoison s.mem [d] with
                  | some a => poisonLoad x p a s
                  | none =>
                    let s1 := writeLoad x d p s
                    if remapsPending s1 p then s1 else endLoad x p s1
    | _ => s
  | none => s

/-! UNLOAD (R257). -/

/-- Does a plan of UNLOAD match a region? -/
def Plan.matches (p : Plan) (r : Region) : Bool :=
  r.layer == p.layer && r.expert == p.expert && r.inst == p.inst && r.routed == p.routed && r.lead == p.lead
    && r.first == p.first && r.ngroups == p.ngroups && p.tiles.contains r.tile && (r.state == .resident || r.state == .reloading)

/-- UNLOAD at issue; a record in a poisoned line is refused as LOAD's is (DEDUCED, log entry 12). -/
def effUnload (t : Who) (w : Head) (s : State) : State :=
  issue t (tensor 0x8E w [] true true true (need (fld w 40 33 == 0 && fld w 26 0 == 0)))
    (fun s =>
      let tag := fld w 49 41
      let a := (s.g t (fld w 32 27)).toNat
      operands s t [] tag (fun _ =>
        if !scalarOk s (s.thr t.num).program a 64 then .fail 0x16 a 64 tag
        else if s.mem.poisoned a then
          .refused (raise (atThread 0x0502 t.c.val t.k.val (a / 64 * 64) 0) s) 0x19 0x0502 (a / 64 * 64) 0 tag
        else
          let p := parsePlan (s.mem.readN a 64)
          let ids := (s.arr.regions.filter p.matches).map Region.id
          if ids.isEmpty then refuse 1 p.layer tag
          else
            let s1 := wakeBanks [a] s
            launch { s1 with arr := { s1.arr with
                regions := s1.arr.regions.map (fun r => if ids.contains r.id then { r with state := .leaving } else r) } }
              t tag [] (.unload ids))) s

/-- The layers a transaction's sweeps touch. -/
def TxOp.layers : TxOp → List Nat
  | .sweep op => [op.layer]
  | .forecast op => [op.alayer, op.blayer]
  | _ => []

/-- Does a queued sweep, or one held in the array, use a layer? One that runs in the array leaves it by the time of
UNLOAD_COMPLETE. -/
def layerInUse (s : State) (layer : Nat) : Bool :=
  let p := s.arr.sweeps
  s.txs.any (fun x => x.op.layers.contains layer && (p.queue.contains x.num || (p.stalled && p.array == some x.num)))

/-- The array's sweep goes on to Finish where it uses one of some layers (DEDUCED, log entry 91). -/
def leaveArray (layers : List Nat) (s : State) : State :=
  let p := s.arr.sweeps
  if s.txs.any (fun x => p.array == some x.num && x.op.layers.any layers.contains) then
    { s with arr := { s.arr with sweeps := { p with array := none, finishing := p.finishing ++ p.array.toList } } }
  else s

/-- A region's rows, masks and side entries freed (R257). -/
def freeRegion (s : State) (r : Region) : State :=
  let inRows (row : Nat) : Bool := decide (r.row0 ≤ row) && decide (row < r.row0 + r.rows)
  let s1 := r.pairs.foldl (fun u n => onPair n (fun (q : Pair) =>
    { q with d := q.d.filter (fun e => !inRows (e.1 / 512)), a := q.a.filter (fun e => !(inRows (e.1 / 512) && decide (e.1 % 512 < 268))),
             masks := q.masks.filter (fun e => !((decide (e.1 < 128) && inRows (16 * e.1)) ||
               (decide (128 ≤ e.1) && inRows (64 * (e.1 - 128))))),
             parity := q.parity.filter (fun e => !inRows e.1),
             cksum := q.cksum.filter (fun e => !inRows e.1),
             image := q.image.filter (fun e => !inRows (e.1 / 512)), los := q.los.filter (fun e => !inRows (32 * (e.1 / 512))),
             maskImage := q.maskImage.filter (fun e => !((decide (e.1 < 128) && inRows (16 * e.1)) ||
               (decide (128 ≤ e.1) && inRows (64 * (e.1 - 128))))) }) u) s
  let s2 := onTile r.tile (fun (t : Tile) =>
    { t with side := t.side.filter (fun e => !e.2.any (fun x => x.pair == r.lead && inRows x.row)),
             cache := t.cache.filter (fun k => !(decide (k / 2048 = r.lead) && inRows (k % 2048))) }) s1
  { s2 with arr := { s2.arr with regions := s2.arr.regions.filter (fun x => x.id != r.id) } }

/-- UNLOAD_COMPLETE (R257): once no sweep uses a leaving region, the regions are freed and the tag is DONE (DEDUCED, log entry 91). -/
def effUnloadComplete (c : Fin 20) (tag : Fin 512) (s : State) : State :=
  match s.tx? c.val tag.val with
  | some x =>
    match x.op with
    | .unload ids =>
      let rs := s.arr.regions.filter (fun r => ids.contains r.id)
      if rs.any (fun r => layerInUse s r.layer) then s else doneTx x (rs.foldl freeRegion (leaveArray (rs.map Region.layer) s))
    | _ => s
  | none => s

/-- LOAD (R254). -/
def execLoad (t : Who) (w : Head) (s : State) : Host.Outcome State Fault Refusal := done (effLoad t w s)
/-- LOAD_COMPLETE (R255). -/
def execLoadComplete (c : Fin 20) (tag : Fin 512) (s : State) : Host.Outcome State Fault Refusal := done (effLoadComplete c tag s)
/-- UNLOAD (R257). -/
def execUnload (t : Who) (w : Head) (s : State) : Host.Outcome State Fault Refusal := done (effUnload t w s)
/-- UNLOAD_COMPLETE (R257). -/
def execUnloadComplete (c : Fin 20) (tag : Fin 512) (s : State) : Host.Outcome State Fault Refusal := done (effUnloadComplete c tag s)

end Sys2Proof.Machine
end

