-- ==== Sys2Proof/Machine/Steps.lean ====
section
/-! DEFINITION. The step commands of a word and what the D- and A-macros do in each step (R23, R30 to R33, R35, R37 to R39, R43
to R45). -/

namespace Sys2Proof.Machine

/-- A step command (Table MAC-5). -/
structure StepCmd where
  /-- Bit i asserts row base + i. -/
  drive : Nat
  group : Nat
  upper32 : Bool
  plane : Nat
  div : Nat
  sample : Bool
  fold : Bool
  last : Bool
  deriving DecidableEq, Repr

/-- The 80 bits of a step command (R45). -/
def StepCmd.bits (c : StepCmd) : Nat :=
  c.drive * 2 ^ 16 + c.group * 2 ^ 11 + b01 c.upper32 * 2 ^ 10 + c.plane * 2 ^ 7 + c.div * 2 ^ 3 + b01 c.sample * 4 + b01 c.fold * 2 + b01 c.last

/-- The first row a step command drives: 64 × GROUP + 32 × UPPER32 (R45). -/
def StepCmd.base (c : StepCmd) : Nat := 64 * c.group + 32 * b01 c.upper32

/-- The rows of a word that a step can drive together: at most 64 of them (R23, R44), from a first row. -/
structure Part where
  row0 : Nat
  us : List Nat
  deriving DecidableEq, Repr

/-- A word's drive bytes from its first row in parts: the two halves of a 128-row group, else the whole group (R43, R44). -/
def wordParts (row0 : Nat) (us : List Nat) : List Part :=
  if 64 < us.length then [⟨row0, us.take 64⟩, ⟨row0 + 64, us.drop 64⟩] else [⟨row0, us⟩]

/-- Bit k of each drive byte, as a number whose bit i is row i's (R30). -/
def planeBits (us : List Nat) (k : Nat) : Nat := sumOf ((List.range us.length).map (fun i => b01 (bit (nthD 0 us i) k) * 2 ^ i))

/-- The planes a part drives, least significant first: none whose bits are all 0, and in a folded word not plane 7 (R30 to R32). -/
def drivenPlanes (fold : Bool) (us : List Nat) : List Nat :=
  (List.range 8).filter (fun k => !(fold && k == 7) && planeBits us k != 0)

/-- DIV of a plane whose followers are given: k′ − k, and 8 − k for the last (R38). -/
def divOf (k : Nat) : List Nat → Nat
  | [] => 8 - k
  | k' :: _ => k' - k

/-- The commands of a part's planes: SAMPLE with the last, LAST with it where the part ends the word (R45). -/
def planeSteps (fold ends : Bool) (p : Part) : List Nat → List StepCmd
  | [] => []
  | k :: ks =>
    { drive := planeBits p.us k, group := p.row0 / 64, upper32 := p.us.length == 32 && p.row0 % 64 == 32, plane := k,
      div := divOf k ks, sample := ks.isEmpty, fold := false, last := ends && ks.isEmpty } :: planeSteps fold ends p ks

/-- The step commands of a part. -/
def partSteps (fold ends : Bool) (p : Part) : List StepCmd := planeSteps fold ends p (drivenPlanes fold p.us)

/-- FOLD set on the first command (R45). -/
def markFold (fold : Bool) : List StepCmd → List StepCmd
  | [] => []
  | c :: r => { c with fold := fold } :: r

/-- The step commands Feed passes for a word (R30 to R32, R44, R45); none for a zero word (R33). -/
def wordSteps (fold : Bool) (row0 : Nat) (us : List Nat) : List StepCmd :=
  let ps := wordParts row0 us
  markFold fold (((List.range ps.length).map (fun i =>
    match ps[i]? with
    | some p => partSteps fold (i + 1 == ps.length) p
    | none => [])).flatten)

/-- Popcount of the driven rows whose stored bit is set (R35): the cells are those of the rows from the command's base. -/
def popcount (drive : Nat) (cells : List Bool) : Nat :=
  sumOf ((List.range cells.length).map (fun i => b01 (bit drive i && nthD false cells i)))

/-- Σ w_lo over the asserted rows: T of R37. -/
def chargeIn (drive : Nat) (levels : List Nat) : Nat :=
  sumOf ((List.range levels.length).map (fun i => b01 (bit drive i) * nthD 0 levels i))

/-- The weight of bit-plane j of a weight of nb bits (Table MAC-2). -/
def planeWeight (nb j : Nat) : Int := if j + 1 = nb then -(2 ^ j : Nat) else ((2 ^ j : Nat) : Int)

/-- A column's shift-add accumulator over the steps (R35): cells gives the two-bit D values of the rows of a command, the upper
bit that of plane hi. -/
def accumulate (nb hi : Nat) (cells : StepCmd → List Nat) (steps : List StepCmd) : Int :=
  steps.foldl (fun a c =>
    let v := cells c
    a + ((popcount c.drive (v.map (fun x => bit x 1)) : Nat) : Int) * ((2 ^ c.plane : Nat) : Int) * planeWeight nb hi
      + ((popcount c.drive (v.map (fun x => bit x 0)) : Nat) : Int) * ((2 ^ c.plane : Nat) : Int) * planeWeight nb (hi - 1)) 0

/-- The column's analog side in 1/256 q (R37 to R39, R44): the charge on the column wire and what has been captured or added in
time since the word began. -/
structure Wire where
  charge : Nat := 0
  taken : Nat := 0
  deriving DecidableEq, Repr

/-- One step: the rows' charge, the halving by 2^DIV, and with SAMPLE the capture or the pulse, which discharges the column. -/
def Wire.step (levels : List Nat) (w : Wire) (c : StepCmd) : Wire :=
  let v := (w.charge + 256 * chargeIn c.drive levels) / 2 ^ c.div
  if c.sample then { charge := 0, taken := w.taken + v } else { w with charge := v }

/-- S of a word (R38): 256 V at its sample, or at its two pulses added. -/
def wordCharge (levels : StepCmd → List Nat) (steps : List StepCmd) : Nat :=
  (steps.foldl (fun w c => w.step (levels c) c) ({} : Wire)).taken

/-- The D values of a pair's column at the rows of a command. -/
def Pair.cellsAt (p : Pair) (pc : Nat) (c : StepCmd) : List Nat := (List.range 64).map (fun i => look 0 p.d (cell (c.base + i) pc))

/-- The A levels of a pair's column at the rows of a command. -/
def Pair.levelsAt (p : Pair) (pc : Nat) (c : StepCmd) : List Nat := (List.range 64).map (fun i => p.level (c.base + i) pc)

end Sys2Proof.Machine
end

