-- ==== Sys2Proof/Machine/Sweep.lean ====
section
/-! DEFINITION. The array work of a sweep, from Feed to its Tree sums (R20, R29 to R47, R59, R60, R67, R68, R84 to R86,
R107, R112 to R116, R133 to R137, R143, R169 to R171, R196, R203 to R205, R261). -/

namespace Sys2Proof.Machine

/-! Masks and dispatch lists. -/

/-- Bit i of a mask at an address (R143): bit i mod 8 of byte i div 8; in a poisoned line 0. -/
def maskBit (m : Mem) (base i : Nat) : Bool :=
  let a := base + i / 8
  !m.poisoned a && bit (m.read a).toNat (i % 8)

/-- Is a batch row unmasked? -/
def tokenOn (m : Mem) (mask : Option Nat) (t : Nat) : Bool :=
  match mask with
  | some a => maskBit m a t
  | none => true

/-- A little-endian number with bytes of poisoned lines read as 0 (R303). -/
def cleanLe (m : Mem) (a n : Nat) : Nat :=
  leNat ((List.range n).map (fun i => if m.poisoned (a + i) then 0#8 else m.read (a + i)))

/-- The header's fields of a dispatch table (Table STI-12). -/
structure DispatchHeader where
  t : Nat
  k : Nat
  e : Nat
  layer : Nat
  placed : List Nat
  deriving DecidableEq, Repr

/-- A dispatch table's header. -/
def dispatchHeader (m : Mem) (a : Nat) : DispatchHeader :=
  let w := cleanLe m a 8
  { t := bits w 15 0, k := bits w 23 16, e := bits w 39 24, layer := bits w 63 48,
    placed := (List.range 3).map (fun i => cleanLe m (a + 8 + 4 * i) 4) }

/-- The directory index of an expert, an instance and a sweep (Table STI-12). -/
def directoryIndex (expert inst sweepNo : Nat) : Nat := (expert * 9 + inst) * 3 + sweepNo

/-- One list of a dispatch table, as (combine row, token row). -/
def dispatchList (m : Mem) (a expert inst sweepNo : Nat) : List (Nat × Nat) :=
  let h := dispatchHeader m a
  if h.e ≤ expert then []
  else
    let w := cleanLe m (a + 64 + 8 * directoryIndex expert inst sweepNo) 8
    (List.range (bits w 47 32)).map (fun i =>
      let x := cleanLe m (a + 64 + 216 * h.e + 4 * (bits w 31 0 + i)) 4
      (bits x 31 16, bits x 15 0))

/-- The rows a region takes in a sweep, as (input row, output row), masked tokens left out (R143, R261). -/
def regionRows (m : Mem) (op : SweepOp) (r : Region) : List (Nat × Nat) :=
  match op.disp with
  | none => ((List.range op.din.rows).filter (tokenOn m op.tokMask)).map (fun t => (t, t))
  | some a =>
    ((dispatchList m a r.expert r.inst op.sweepNo).filter (fun x => tokenOn m op.tokMask x.2)).map
      (fun x => (if op.inrow then x.1 else x.2, x.1))

/-- The regions of a layer, in order of tile, lead pair and rows (R133). -/
def layerRegions (s : State) (layer : Nat) : List Region :=
  sortBy (fun r => (r.tile * 64 + r.lead) * 32 + r.first) (s.arr.regions.filter (fun r => r.layer == layer))

/-- The regions a sweep's words are driven on. -/
def sweepRegions (s : State) (op : SweepOp) : List Region :=
  (layerRegions s op.layer).filter (fun r => op.disp.isNone || !(regionRows s.mem op r).isEmpty)

/-- The output rows of a sweep: each row some list names. -/
def sweepRows (s : State) (op : SweepOp) : List Nat :=
  match op.disp with
  | none => (List.range op.din.rows).filter (tokenOn s.mem op.tokMask)
  | some _ => sortBy id (((layerRegions s op.layer).map (fun r => (regionRows s.mem op r).map Prod.snd)).flatten.eraseDups)

/-- The ACTIVE bits in force for an output row; none where nothing is skipped (R203, R204). -/
def activity (m : Mem) (op : SweepOp) (row : Nat) : Option Nat :=
  op.actWords.bind (fun a =>
    let w := cleanLe m (a + 8 * row) 8
    if bit w 63 then none else some (bits w 62 0))

/-- Is an output column's neuron group driven (R204, R205)? -/
def columnOn (act : Option Nat) (col : Nat) : Bool :=
  match act with
  | some w => bit w (col / 64)
  | none => true

/-! Feed (R29, R31 to R33, R107, R143, R170). -/

/-- One stored row's drive byte and, for an escape, its value. -/
structure Drive where
  u : Nat
  esc : Option F32 := none
  deriving DecidableEq, Repr

/-- The drive of a stored row from its input element. -/
def feedRow (s : State) (op : SweepOp) (r : Region) (inRow i : Nat) : Drive :=
  let e := r.element s i
  let ch := r.inelem0 + e
  if r.inwidth ≤ e || op.din.channels ≤ ch then ⟨0x80, none⟩
  else if op.chMask.any (fun a => !maskBit s.mem a (ch / 32)) then ⟨0x80, none⟩
  else
    let code := op.din.codeAt s.mem inRow ch
    if code = 0 then ⟨0x80, op.din.escape s.mem inRow ch⟩ else ⟨code, none⟩

/-- A word: a region's group for one token. -/
structure WordRef where
  r : Region
  g : Nat
  inRow : Nat
  outRow : Nat
  deriving DecidableEq, Repr

/-- A fed word: its drives, whether it is folded, whether it is a zero word. -/
structure Fed where
  drives : List Drive
  fold : Bool
  zero : Bool
  deriving DecidableEq, Repr

/-- The rows of a word's group, within its region. -/
def WordRef.rows (w : WordRef) : List Nat := (List.range (groupRows w.r.gmode)).map (fun i => w.g * groupRows w.r.gmode + i)

/-- Feed's work on a word. -/
def WordRef.feed (s : State) (op : SweepOp) (w : WordRef) : Fed :=
  let ds := w.rows.map (feedRow s op w.r w.inRow)
  { drives := ds, fold := ds.all (fun d => decide (128 ≤ d.u)), zero := ds.all (fun d => d.u == 128) }

/-- u′ of each row (R38). -/
def Fed.primes (f : Fed) : List Nat := f.drives.map (fun d => if f.fold then d.u - 128 else d.u)

/-- The first stored row of a word's group. -/
def WordRef.row0 (w : WordRef) : Nat := w.r.row0 + w.g * groupRows w.r.gmode

/-- The step commands of a word (R45). -/
def WordRef.steps (w : WordRef) (f : Fed) : List StepCmd := wordSteps f.fold w.row0 (f.drives.map Drive.u)

/-- The rows a region takes in a sweep with their turn: the token row, or with dispatch the highest token row so far in the list,
so that each list keeps its own order (R34, R261) (DEDUCED, log entry 134). -/
def turnRows (m : Mem) (op : SweepOp) (r : Region) : List (Nat × Nat × Nat) :=
  match op.disp with
  | none => (regionRows m op r).map (fun x => (x.1, x.1, x.2))
  | some a =>
    ((((dispatchList m a r.expert r.inst op.sweepNo).filter (fun x => tokenOn m op.tokMask x.2)).foldl
      (fun (acc : List (Nat × Nat × Nat) × Nat) x =>
        let turn := Nat.max acc.2 x.2
        (acc.1 ++ [(turn, (if op.inrow then x.1 else x.2), x.1)], turn)) ([], 0))).1

/-- The words of a sweep in issue order: token by token, within a token region by region, and in a region its groups ascending (R34,
R204, R261). -/
def sweepWords (s : State) (op : SweepOp) : List WordKey :=
  let all := ((sweepRegions s op).map (fun r => (turnRows s.mem op r).map (fun x => (x.1, x.2.1, x.2.2, r)))).flatten
  ((sortBy (fun x => x.1) all).map (fun x =>
    let r := x.2.2.2
    let act := if r.role = 2 then activity s.mem op x.2.2.1 else none
    if (List.range 4).any (fun i => columnOn act (32 * r.outvec0 + 64 * i)) then
      (List.range r.groups).map (fun g => ⟨r.id, g, x.2.1, x.2.2.1⟩)
    else [])).flatten

/-- A word with its region. -/
def WordKey.word (s : State) (k : WordKey) : Option WordRef :=
  (s.arr.regions.find? (fun r => r.id == k.region)).map (fun r => ⟨r, k.g, k.inRow, k.outRow⟩)

/-! Macro and Combine (R35, R38, R41, R42, R46, R47, R59, R113). -/

/-- The gain of a column's 32-column group in a sweep (R40, R73, R77). -/
def sweepGain (op : SweepOp) (r : Region) (col : Nat) : Nat :=
  if op.auto then (look (1, false, 0, 0) r.gauto (col / 32)).1 else 1

/-- Free values one word draws: four for each column, two for each barometer column (DESIGN CHOICE, log entry 3). -/
def wordDraws : Nat := 1032

/-- What the macros of a word's set hold after its last step: per pair of the set the accumulators of its 256 columns (R35), and
the columns' A sums (R38). -/
structure MacroOut where
  accs : List (List Int)
  sums : List Nat
  deriving DecidableEq, Repr

/-- A pair's cells or levels at the parts of a word, read once. -/
def partTable (parts : List Part) (read : Nat → List Nat) : List (Nat × List Nat) := parts.map (fun q => (q.row0, read q.row0))

/-- The macros' work on a word: every step command in turn (R30, R35, R37, R38). -/
def WordRef.drive (s : State) (w : WordRef) (f : Fed) : MacroOut :=
  let steps := w.steps f
  let parts := wordParts w.row0 (f.drives.map Drive.u)
  let nb := placeBits w.r.place
  let rows (r0 : Nat) : List Nat := (List.range 64).map (r0 + ·)
  { accs := (List.range (setSize w.r.place)).map (fun i =>
      let n := w.r.tile * 48 + w.r.lead + i
      let p := s.pair n
      (List.range 256).map (fun col =>
        let pc := physical n p col
        let t := partTable parts (fun r0 => (rows r0).map (fun row => look 0 p.d (cell row pc)))
        accumulate nb (nb - 1 - 2 * i) (fun c => look [] t c.base) steps))
    sums := if analog w.r.place then
        let p := s.pair w.r.apair
        (List.range 256).map (fun col =>
          let pc := physical w.r.apair p col
          let t := partTable parts (fun r0 => (rows r0).map (fun row => p.level row pc))
          wordCharge (fun c => look [] t c.base) steps)
      else [] }

/-- The D part of a column: the set's accumulators added (R35). -/
def MacroOut.d (m : MacroOut) (col : Nat) : Int := (m.accs.map (fun l => nthD 0 l col)).foldl (· + ·) 0

/-- A column's conversion: its gain, code and corrected A part in 1/64 of a product unit. -/
structure ColOut where
  col : Nat
  gain : Nat
  code : Nat
  aHat : Int
  deriving DecidableEq, Repr

/-- The temperature difference d in 0.25 °C, the tile's temperature now against the T_CAL latched (R59, R60). -/
def tempSince (s : State) (n : Nat) (latch : Pair) : Int := (s.tile (n / 48)).temp - latch.tCal

/-- The temperature difference against the present T_CAL (R59, R66). -/
def tempDiff (s : State) (n : Nat) : Int := tempSince s n (s.pair n)

/-- What Combine latches of an A-macro when a sweep starts on it (R60). -/
def Pair.latch (p : Pair) : Pair := { trims := p.trims, gcor2 := p.gcor2, gcor4 := p.gcor4, glim := p.glim, tCal := p.tCal, spares := p.spares }

/-- A word's conversion in a column; k is the word's number in the sweep (R41, R47, R59, R60). -/
def convertColumn (s : State) (latch : Pair) (op : SweepOp) (w : WordRef) (m : MacroOut) (k col : Nat) : ColOut :=
  let n := w.r.apair
  let g := sweepGain op w.r col
  let code := convert s w.r.gmode g (nthD 0 m.sums col) (wordDraws * k + 4 * col)
  { col := col, gain := g, code := code, aHat := correct n latch col w.r.gmode g code (tempSince s n latch) }

/-- The group result P as FP32 (R33, R46, R113 step 1); the corrected A part is 0 in D4 and D8. -/
def groupResult (w : WordRef) (f : Fed) (m : MacroOut) (aHat : Int) (col : Nat) : F32 :=
  if f.zero then fZero
  else groupP (m.d col) aHat (if f.fold then 0 else look 0 w.r.z (w.g * 256 + col))

/-- as[g]: the scale of the block that holds the group's span (R112); 1.0 for a group beyond the input's CHANNELS, whose rows are
all padding (DESIGN CHOICE, log entry 133). -/
def inputScale (s : State) (op : SweepOp) (w : WordRef) : F32 :=
  let ch := w.r.inelem0 + w.g * w.r.span
  if op.din.channels ≤ ch then fOne else op.din.scale s.mem w.inRow ch

/-- The full stored weight the outlier unit reads, the D-plane value alone for a lost column (R114). -/
def outlierWeight (s : State) (r : Region) (row col : Nat) : Int :=
  let w := storedWeight s r.tile r.lead r.place row col
  if analog r.place && lost r.apair (s.pair r.apair) col then w.2 else w.1

/-- Side entries of a stored row and column (R113). -/
def sideValues (s : State) (r : Region) (row col : Nat) : List F32 :=
  (s.tile r.tile).side.filterMap (fun e =>
    e.2.bind (fun x => if x.row = row ∧ x.pair = r.lead ∧ x.column = col then some (bf16Value x.value) else none))

/-- The outlier unit's corrections in ascending rows (R113 step 3). -/
def outliers (s : State) (w : WordRef) (f : Fed) (ws as : F32) (col : Nat) (y : F32) : F32 :=
  (List.range f.drives.length).foldl (fun y i =>
    let d := nthD ⟨0x80, none⟩ f.drives i
    let row := w.r.row0 + nthD 0 w.rows i
    let y1 := match d.esc with
      | some e => fAdd y (fMul (fMul (fOfInt (outlierWeight s w.r row col)) ws) e)
      | none => y
    let x := match d.esc with
      | some e => e
      | none => fMul (fOfInt ((d.u : Int) - 128)) as
    (sideValues s w.r row col).foldl (fun y v => fAdd y (fMul (fMul v ws) x)) y1) y

/-- A fed word with its number and what its macros formed. -/
structure NumWord where
  k : Nat
  w : WordRef
  f : Fed
  m : MacroOut
  deriving DecidableEq, Repr

/-- The group value entering Gather (R113). -/
def groupValue (s : State) (op : SweepOp) (x : NumWord) (aHat : Int) (col : Nat) : F32 :=
  let ws := look fOne x.w.r.ws (x.w.g * 256 + col)
  let as := inputScale s op x.w
  outliers s x.w x.f ws as col (fMul (fMul (groupResult x.w x.f x.m aHat col) ws) as)

/-- The activity bits a word obeys (R204). -/
def wordAct (s : State) (op : SweepOp) (w : WordRef) : Option Nat := if w.r.role = 2 then activity s.mem op w.outRow else none

/-- The columns a word converts: none of a zero word, none outside A placements, none predicted inactive (R33, R204). -/
def convertedColumns (s : State) (op : SweepOp) (x : NumWord) : List Nat :=
  if x.f.zero || !analog x.w.r.place then []
  else
    let act := wordAct s op x.w
    (List.range 256).filter (fun c => columnOn act (32 * x.w.r.outvec0 + c))

/-- A word's conversions (R39 to R41). -/
def conversions (s : State) (latched : List (Nat × Pair)) (op : SweepOp) (x : NumWord) : List ColOut :=
  (convertedColumns s op x).map (convertColumn s (look {} latched x.w.r.apair) op x.w x.m x.k)

/-- A word's group values (R113, R204). -/
def wordOut (s : State) (op : SweepOp) (x : NumWord) (cs : List ColOut) : WordOut :=
  let act := wordAct s op x.w
  { tile := x.w.r.tile, rank := x.w.r.rank, row := x.w.outRow, col0 := 32 * x.w.r.outvec0,
    vals := (List.range 256).map (fun c =>
      if columnOn act (32 * x.w.r.outvec0 + c) then
        some (groupValue s op x (((cs.find? (fun y => y.col == c)).map ColOut.aHat).getD 0) c)
      else none) }

/-! Gather and the Tree (R133 to R135). -/

/-- A tile's partial of an output element; none where no region contributes (R133, R204). -/
def gatherTile (outs : List WordOut) (row col tile : Nat) : Option F32 :=
  (outs.filter (fun x => x.row == row && x.tile == tile && decide (x.col0 ≤ col) && decide (col < x.col0 + 256))).foldl
    (fun a x =>
      match a, nthD none x.vals (col - x.col0) with
      | some p, some v => some (fAdd p v)
      | none, v => v
      | a, none => a) none

/-- The tile tree of a stack (R134). -/
def tileTree (outs : List WordOut) (row col stack : Nat) : Option F32 :=
  treeReduce fAdd ((List.range 640).map (fun u => gatherTile outs row col (stack * 640 + u)))

/-- The Tree sum of an output element (R135). -/
def treeSum (outs : List WordOut) (row col : Nat) : F32 :=
  (treeReduce fAdd ((List.range 16).map (tileTree outs row col))).getD fZero

/-- Columns of a sweep's output: the CHANNELS of its destinations. -/
def SweepOp.width (op : SweepOp) : Nat := ((op.d0.map Desc.channels).orElse (fun _ => op.d1.map Desc.channels)).getD 0

/-! What a sweep leaves on the arrays. -/

/-- Does a conversion clip (R42)? -/
def clips (gmode gain code : Nat) : Bool := gain != 1 && code == nMax gmode

/-- The doubling limit of R77. -/
def highLimit (gmode : Nat) : Nat := if gmode = 2 then 127 else 63

/-- One conversion in a group's tally of R77: number, whether one clipped, and how many followed the last clip and high code. -/
def tally (clip high : Bool) (t : Nat × Bool × Nat × Nat) : Nat × Bool × Nat × Nat :=
  (t.1 + 1, t.2.1 || clip, if clip then 0 else t.2.2.1 + 1, if high then 0 else t.2.2.2 + 1)

/-- A word's conversions tallied by region × 8 + 32-column group. -/
def tallyWord (x : NumWord) (cs : List ColOut) (l : List (Nat × (Nat × Bool × Nat × Nat))) : List (Nat × (Nat × Bool × Nat × Nat)) :=
  cs.foldl (fun l c =>
    change (0, false, 0, 0) l (x.w.r.id * 8 + c.col / 32)
      (tally (clips x.w.r.gmode c.gain c.code) (decide (highLimit x.w.r.gmode < c.code)))) l

/-! Weathervane and barometers (R67, R68, R84 to R86). -/

/-- Schedules a recalibration with its trigger (Table CAL-6), ahead of an age-driven one: 1 age, 2 barometer, 3 Weathervane,
4 temperature, 6 retry, 7 an excluded sensor. -/
def scheduleRecal (trigger : Nat) (p : Pair) : Pair :=
  match p.recalDue with
  | some t => if t = 1 then { p with recalDue := some trigger } else p
  | none => { p with recalDue := some trigger }

/-- A running mean in 2^−16 moved toward num/den by weight 1/2^lg; the last bit of the result is a free value where the exact
mean lies between two numbers (DESIGN CHOICE, log entry 14). -/
def moveMean (mean num : Int) (den lg draw : Nat) : Int :=
  let exactNum := mean * ((2 ^ lg - 1 : Nat) : Int) * den + num * 65536
  let d : Int := ((2 ^ lg * den : Nat) : Int)
  let q := exactNum / d
  if exactNum % d = 0 then q else q + (draw % 2 : Nat)

/-- A square root in 2^−16 of a number in 2^−16, its last bit free. -/
def devOf (msq mean : Int) (draw : Nat) : Nat :=
  let v := (msq * 65536 - mean * mean).toNat
  let r := isqrt v 32 0
  if r * r = v then r else r + draw % 2

/-- What Weathervane finds in one word of a column. -/
inductive Finding84 where
  | drift | envelope | stuck
  deriving DecidableEq, Repr

/-- A column's word as Weathervane sees it. -/
structure Seen where
  code : Nat
  largest : Bool
  gain : Nat
  aHat : Int
  lo : Nat
  drive : Nat
  rows : Nat
  fold : Bool
  lam : Nat
  draw : Nat
  deriving DecidableEq, Repr

/-- Does a word qualify (R85)? -/
def Seen.qualifies (x : Seen) : Bool := decide (8 ≤ x.lo) && decide (16 * x.rows ≤ x.drive)

/-- Is a word out of envelope (R85)? Â is in 1/64 of a product unit. -/
def Seen.outside (x : Seen) : Bool :=
  let hi : Int := 64 * (((if x.fold then 127 else 255) * x.lo + 3 * x.lam : Nat) : Int)
  let lo : Int := 64 * ((if x.fold then (0 : Int) else x.lo) - 3 * x.lam)
  decide (x.aHat < lo) || decide (hi < x.aHat)

/-- The counts of every word: SAT_COUNT, ENV_COUNT and its window (Table CAL-9). -/
def wvCounts (x : Seen) (w : Weathervane) : Weathervane :=
  let w1 := if w.words = 65536 then { w with words := 0, env := 0 } else w
  { w1 with words := w1.words + 1, env := Nat.min 65535 (w1.env + b01 x.outside),
            sat := if x.largest then Nat.min 65535 (w1.sat + 1) else w1.sat }

/-- The means, the stuck run and the baseline of a qualifying word (R85, R86, Table CAL-9) (DESIGN CHOICE, log entry 14). -/
def wvMeans (x : Seen) (w : Weathervane) : Weathervane :=
  let den := 64 * (x.drive * x.lo)
  let num : Int := x.aHat * x.rows
  let draw (i : Nat) : Nat := Config.freeNat (x.draw + i)
  let mean := moveMean w.mean num den 10 (draw 1)
  let msq := moveMean w.msq (num * num) (den * den) 10 (draw 2)
  let run := w.stuck ≠ 0 ∧ w.lastCode = x.code
  let w1 := { w with mean := mean, msq := msq, qualified := Nat.min 65536 (w.qualified + 1),
                     stuck := if run then Nat.min 65535 (w.stuck + 1) else 1,
                     drives := if run then (if w.lastDrive = x.drive then w.drives else 2) else 1,
                     lastCode := x.code, lastDrive := x.drive }
  let capture := (w.qualified + 1 = 65536) ∨ (w.drifting ∧ w.recalled ∧ w.persist + 1 = 65536)
  if capture then { w1 with baseMean := mean, baseDev := devOf msq mean (draw 3), drifting := false, recalled := false, persist := 0 }
  else if w.drifting ∧ w.recalled then { w1 with persist := w.persist + 1 }
  else w1

/-- Is the mean away from its baseline (R86)? -/
def wvDrifts (k : Nat) (w : Weathervane) : Bool :=
  w.qualified == 65536 && decide ((221 * k * w.baseDev : Nat) < 10000 * (w.mean - w.baseMean).natAbs)

/-- One word seen by a column's Weathervane, with what it finds (R84 to R86). -/
def weathervane (kDrift envLimit stuckLog : Nat) (x : Seen) (w : Weathervane) : Weathervane × List Finding84 :=
  let w1 := wvCounts x w
  let w2 := if x.qualifies then wvMeans x w1 else w1
  let env := w1.env = envLimit ∧ x.outside
  let drift := x.qualifies && wvDrifts kDrift w2 && !w2.drifting
  let stuck := x.qualifies && w2.stuck == 2 ^ stuckLog && w2.drives == 2 && !(x.largest && x.gain != 1)
  let w3 := { w2 with drifting := (w2.drifting && wvDrifts kDrift w2) || drift, envDue := w2.envDue || decide env }
  (w3, (if drift then [.drift] else []) ++ (if env then [.envelope] else []) ++ (if stuck then [.stuck] else []))

/-- A failed recalibration of a column counted (R70): FAILS, its event, and the remap at three. -/
def recalFails (n col : Nat) (s : State) : State :=
  let pc := physical n (s.pair n) col
  let s1 := raise (atPair 0x0105 n 0 0) (onPair n (fun p => p.onTrim pc (fun t => { t with fails := Nat.min 3 (t.fails + 1) })) s)
  if ((s1.pair n).trim pc).fails = 3 then startRemap n col 2 s1 else s1

/-- What a Weathervane finding does (Table CAL-10). -/
def actOn (n col : Nat) (s : State) : Finding84 → State
  | .drift => onPair n (scheduleRecal 3) (raise (atPair 0x0107 n 0 0) s)
  | .stuck => startRemap n col 3 (raise (atPair 0x0109 n 0 0) s)
  | .envelope =>
    let pc := physical n (s.pair n) col
    let again := (look {} (s.pair n).wv pc).envAt.any (fun t => decide (s.now ≤ t + sHalves))
    let s1 := onPair n (scheduleRecal 3) (raise (atPair 0x0108 n 0 0) s)
    if again then recalFails n col s1 else s1

/-- One converted word in one column: clip counter and Weathervane. -/
def watchColumn (s0 : State) (x : NumWord) (s : State) (y : ColOut) : State :=
  let n := x.w.r.apair
  let c := y.col
  let s1 := if clips x.w.r.gmode y.gain y.code then
      onPair n (fun p => { p with clips := change 0 p.clips (c / 32) (· + 1) }) s
    else s
  if lost n (s0.pair n) c then s1
  else
    let pc := physical n (s0.pair n) c
    let seen : Seen :=
      { code := y.code, largest := y.code == nMax x.w.r.gmode, gain := y.gain, aHat := y.aHat,
        lo := groupLo s0 n c x.w.row0 x.w.r.gmode,
        drive := sumOf x.f.primes, rows := groupRows x.w.r.gmode, fold := x.f.fold, lam := lambda1 x.w.r.gmode / y.gain,
        draw := s0.free + wordDraws * x.k + 4 * c }
    let r := weathervane (s.field 0x000A0104 19 16) (s.field 0x000A0104 15 8) (s.field 0x000A0104 7 4) seen (look {} (s1.pair n).wv pc)
    let s2 := onPair n (fun p => { p with wv := put {} p.wv pc r.1 }) s1
    r.2.foldl (actOn n c) s2

/-- The expected A sum of a barometer column (Table CAL-4). -/
def baroSum (w : WordRef) (f : Fed) (b : Nat) : Nat :=
  sumOf ((List.range f.primes.length).map (fun i => nthD 0 f.primes i * baroLevel (w.row0 + i) b))

/-- One barometer column's running error (R67, R68): its code against the expected A sum. -/
def watchBaro (s0 : State) (x : NumWord) (s : State) (b : Nat) : State :=
  let n := x.w.r.apair
  let lam := lambda1 x.w.r.gmode
  let sum := wordCharge ((s0.pair n).levelsAt (268 + b)) (x.w.steps x.f)
  let code := convert s0 x.w.r.gmode 1 sum (wordDraws * x.k + 1024 + 2 * b)
  let old := look ((0 : Int), (0 : Int)) (s.pair n).baro b
  let mean := moveMean old.1 ((code : Int) * lam - baroSum x.w x.f b) lam 8 (Config.freeNat (s0.free + wordDraws * x.k + 1025 + 2 * b))
  let far (m : Int) : Bool := decide (49152 < (m - old.2).natAbs)
  let s1 := onPair n (fun p => { p with baro := put (0, 0) p.baro b (mean, old.2) }) s
  if (s.pair n).baroBad then s
  else if far mean && !far old.1 then onPair n (scheduleRecal 2) (raise (atPair 0x0104 n 0 0) s1) else s1

/-! The outlier unit's cache and its miss reads (R36, R83, R114, R115). -/

/-- The event and pair of a row whose parity or checksum disagrees with its cells; in A placements a miss read also compares
the checksums. -/
def rowBad (s : State) (r : Region) (row : Nat) : Option (Nat × Nat) :=
  match r.pairs.find? (fun n => rowParity n (s.pair n) row != look 0 (s.pair n).parity row) with
  | some n => some (0x0102, n)
  | none =>
    if analog r.place && rowChecksum (s.pair r.apair) row != (s.pair r.apair).checksum row then some (0x0106, r.apair)
    else none

/-- A row queued for reload: its regions are not resident until it is complete (R36, R83). -/
def queueReload (n row : Nat) (s : State) : State :=
  let s1 := onPair n (fun p => { p with reloads := addOnce p.reloads row }) s
  { s1 with arr := { s1.arr with regions := s1.arr.regions.map (fun r =>
      if r.pairs.contains n && decide (r.row0 ≤ row) && decide (row < r.row0 + r.rows) && r.state == .resident
      then { r with state := .reloading } else r) } }

/-- One visit of the outlier unit to a stored row: hit or miss, and what a miss read finds. -/
def visitRow (num : Nat) (r : Region) (row : Nat) (s : State) : State :=
  let key := r.lead * 2048 + row
  let t := s.tile r.tile
  if t.cache.contains key then
    onTile r.tile (fun t => { t with cache := key :: takeOut t.cache key, hits := t.hits + 1 }) s
  else
    let s1 := onTile r.tile (fun t => { t with cache := (key :: t.cache).take 64, misses := t.misses + 1 }) s
    match rowBad s r row with
    | some (e, n) => markReplay num 1 (queueReload n row (raise (atPair e n 0 0) s1))
    | none => s1

/-- Mask parity of a region's groups, as Feed checks it (R169). -/
def maskParityOk (s : State) (r : Region) : Bool :=
  !r.masked || r.pairs.all (fun n =>
    let p := s.pair n
    (List.range r.ngroups).all (fun g =>
      (List.range 4).all (fun k =>
        let w := look 0 p.masks (4 * (r.first + g) + k)
        (sumOf ((List.range 32).map (fun i => b01 (bit w i))) % 2 == 1) == bit (look 0 p.masks (128 + r.first + g)) k)))

/-- What a word leaves in the registers of its macros (Table MAC-1): the accumulators, and on the one of the two sample capacitors
or delay-line integrators whose turn it is the column's value. -/
def leaveWord (x : NumWord) (s : State) : State :=
  if x.f.zero then s
  else
    let s1 := (List.range (setSize x.w.r.place)).foldl (fun u i =>
      onPair (x.w.r.tile * 48 + x.w.r.lead + i) (fun p =>
        { p with acc := (List.range 256).map (fun c => (c, nthD 0 (nthD [] x.m.accs i) c)) }) u) s
    if analog x.w.r.place then
      onPair x.w.r.apair (fun p =>
        let vs := (List.range 256).map (fun c => (2 * c + b01 p.turn, nthD 0 x.m.sums c))
        let q := { p with turn := !p.turn }
        if x.w.r.gmode = 2 then { q with delays := putAll 0 q.delays vs } else { q with caps := putAll 0 q.caps vs }) s1
    else s1

/-- The effects of one word on registers, counters, Weathervane, barometers and the outlier cache. -/
def watchWord (num : Nat) (s0 : State) (s : State) (x : NumWord) (cs : List ColOut) : State :=
  let s1 := if x.f.zero then onPair (x.w.r.tile * 48 + x.w.r.lead) (fun p => { p with zeroWords := p.zeroWords + 1 }) s else leaveWord x s
  let s2 := cs.foldl (watchColumn s0 x) s1
  let s3 := if cs.isEmpty then s2 else (List.range 4).foldl (watchBaro s0 x) s2
  (List.range x.f.drives.length).foldl (fun u i =>
    if (nthD ⟨0x80, none⟩ x.f.drives i).esc.isSome then visitRow num x.w.r (x.w.row0 + i) u else u) s3

/-! Orphans and poison met by Feed (R105, R303). -/

/-- Addresses of a row's data, scales and side records. -/
def Desc.rowAddrs (d : Desc) (p : Nat) : List Nat :=
  ((List.range d.vecs).map (fun v => span (d.vecAddr p v) d.etype.vecBytes)).flatten
    ++ span (d.scaleAddr p 0) (d.blocks * d.stype.bytes)
    ++ (if d.esc then span (d.sideAddr p 0) (d.sides * 32) else [])

/-- The input rows a sweep drives. -/
def inputRows (s : State) (op : SweepOp) : List Nat :=
  sortBy id (((sweepRegions s op).map (fun r => (regionRows s.mem op r).map Prod.fst)).flatten.eraseDups)

/-- Does some region store a row for an input element (R107, R171)? -/
def elementKept (s : State) (rs : List Region) (ch : Nat) : Bool :=
  rs.any (fun r => decide (r.inelem0 ≤ ch) && decide (ch < r.inelem0 + r.inwidth)
    && (List.range r.rows).any (fun i => r.inelem0 + r.element s i == ch))

/-- Orphaned elements and ignored slots of a row, less those dropped without count by a mask (R105, R107, R143). -/
def sweepOrphans (s : State) (op : SweepOp) (rs : List Region) (p : Nat) : Nat :=
  let on (c : Nat) : Bool := !op.chMask.any (fun a => !maskBit s.mem a (c / 32))
  let d := op.din
  let elems := (List.range d.channels).filter (fun c =>
    d.codeAt s.mem p c == 0 && (d.escape s.mem p c).isNone && on c && elementKept s rs c)
  let ignored := (List.range (if d.esc then d.sides else 0)).map (fun b =>
    let sl := d.slots s.mem p b
    ((List.range sl.length).filter (fun i =>
      let x := nthD (0, 0) sl i
      let c := 128 * b + x.1
      (decide (d.channels ≤ c) || d.codeAt s.mem p c != 0 || (sl.take i).any (fun y => y.1 == x.1))
        && (decide (d.channels ≤ c) || on c))).length)
  elems.length + sumOf ignored

/-- The addresses a sweep's Feed reads, in order: masks, dispatch lists, activity words, input rows. -/
def feedAddrs (s : State) (op : SweepOp) : List Nat :=
  let rows := sweepRows s op
  (match op.tokMask with
    | some a => span a (ceilDiv op.din.rows 8)
    | none => []) ++
  (match op.chMask with
    | some a => span a (ceilDiv op.din.vecs 8)
    | none => []) ++
  (match op.disp with
    | some a =>
      let h := dispatchHeader s.mem a
      span a 64 ++ ((layerRegions s op.layer).map (fun r =>
        let e := a + 64 + 8 * directoryIndex r.expert r.inst op.sweepNo
        let w := cleanLe s.mem e 8
        span e 8 ++ span (a + 64 + 216 * h.e + 4 * bits w 31 0) (4 * bits w 47 32))).flatten
    | none => []) ++
  (match op.actWords with
    | some a => (rows.map (fun r => span (a + 8 * r) 8)).flatten
    | none => []) ++
  ((inputRows s op).map op.din.rowAddrs).flatten

/-- A started sweep, no word driven yet (R20, R34, R60): its words, the trims Combine latches, the rows and activity words it
takes, and what Feed finds in its inputs. -/
def startWork (num : Nat) (s : State) (op : SweepOp) : SweepWork :=
  { num := num
    todo := sweepWords s op
    draws := s.free
    latched := (((sweepRegions s op).filter (fun r => analog r.place)).map Region.apair).eraseDups.map (fun n => (n, (s.pair n).latch))
    outRows := sweepRows s op
    act := (sweepRows s op).filterMap (fun row =>
      if (layerRegions s op.layer).any (fun r => r.role == 2) then (activity s.mem op row).map (fun a => (row, a)) else none)
    orphan := sumOf ((inputRows s op).map (sweepOrphans s op (sweepRegions s op)))
    poison := poisonAt s.mem (feedAddrs s op) }

/-- One word driven, with its conversions: the work and the arrays after it. -/
def passWord (s0 : State) (op : SweepOp) (acc : SweepWork × State) (x : WordKey) : SweepWork × State :=
  let w := acc.1
  match x.word s0 with
  | none => ({ w with next := w.next + 1 }, acc.2)
  | some r =>
    let f := r.feed s0 op
    let y : NumWord := { k := w.next, w := r, f := f, m := r.drive s0 f }
    let cs := conversions s0 w.latched op y
    let clipped := (cs.filter (fun c => clips r.r.gmode c.gain c.code)).length
    ({ w with
        next := w.next + 1, outs := w.outs ++ [wordOut s0 op y cs], clips := w.clips + clipped,
        clipAt := if clipped = 0 then w.clipAt else some (match w.clipAt with
          | some n => Nat.min n r.r.apair
          | none => r.r.apair),
        conv := tallyWord y cs w.conv },
      watchWord w.num s0 acc.2 y cs)

/-- The Tree sums of some of a sweep's group values, by output row (R133 to R135). -/
def treeRows (op : SweepOp) (w : SweepWork) (outs : List WordOut) : List (Nat × List F32) :=
  w.outRows.map (fun row => (row, (List.range op.width).map (treeSum outs row)))

/-- The Tree sums once no word is left (R133 to R135); in a front, those of each share rank apart (R391, R399). -/
def closeWords (s : State) (op : SweepOp) (w : SweepWork) : SweepWork :=
  if w.todo.isEmpty && w.rows.isEmpty then
    let ranks := if 2 ≤ s.fstate then (w.outs.map WordOut.rank).eraseDups else []
    let own := if ranks.contains s.myRank then s.myRank else ranks.headD s.myRank
    { w with
      rows := treeRows op w (if ranks.isEmpty then w.outs else w.outs.filter (fun x => x.rank == own)), outs := [], own := own
      leaves := (ranks.filter (· != own)).map (fun r => (r, treeRows op w (w.outs.filter (fun x => x.rank == r)))) }
  else w

/-- The first m words of a started sweep's that are left pass Feed, Macro and Combine (R20), each with the tile temperature of this
moment (R60). -/
def driveWords (m : Nat) (op : SweepOp) (w : SweepWork) (s : State) : SweepWork × State :=
  let s0 := { s with free := w.draws }
  let r := (w.todo.take m).foldl (passWord s0 op) ({ w with todo := w.todo.drop m }, s)
  (closeWords s op r.1, r.2)

/-- A sweep's work replaced. -/
def setWork (w : SweepWork) (s : State) : State :=
  { s with arr := { s.arr with sweeps := { s.arr.sweeps with work := s.arr.sweeps.work.map (fun x => if x.num == w.num then w else x) } } }

/-- A region whose mask fails its parity check (R169): its event, its rows and masks queued for reload, the token step latched. -/
def maskBad (num : Nat) (r : Region) (s : State) : State :=
  let s1 := markReplay num 2 (onRegion r.id (fun x => { x with state := .reloading }) (raise (atPair 0x0304 (r.tile * 48 + r.lead) 0 0) s))
  r.pairs.foldl (fun u n => onPair n (fun p => { p with reloads := ((List.range r.rows).map (r.row0 + ·)).foldl addOnce p.reloads }) u) s1

/-- Does a sweep's dispatch table hold an assignment for it (R196)? -/
def assigned (s : State) (op : SweepOp) : Bool :=
  op.disp.any (fun a => (layerRegions s op.layer).any (fun r => !(dispatchList s.mem a r.expert r.inst op.sweepNo).isEmpty))

/-- A sweep starts on the arrays (R20): masks checked, an overflow sweep counted, and all its words driven but the last `left`. -/
def runArray (num : Nat) (op : SweepOp) (left : Nat) (s : State) : State :=
  let w := startWork num s op
  let bad := (sweepRegions s op).filter (fun r => !maskParityOk s r)
  let n := w.todo.length
  let r := driveWords (n - left) op w s
  let s2 := bad.foldl (fun u r => maskBad num r u) r.2
  let s3 := skipFree (wordDraws * n) s2
  let overflow : Raise := match s.txs.find? (fun x => x.num == num) with
    | some x => atThread 0x0306 x.c x.k 0 0
    | none => { code := 0x0306 }
  let s4 := if op.sweepNo != 0 && assigned s op then raise overflow (bump 0x000A0210 1 s3) else s3
  { s4 with arr := { s4.arr with sweeps := { s4.arr.sweeps with work := s4.arr.sweeps.work ++ [r.1] } } }

/-- Words of a started sweep pass. -/
def passWords (num m : Nat) (op : SweepOp) (s : State) : State :=
  match s.arr.sweeps.work.find? (fun w => w.num == num) with
  | some w => if w.todo.isEmpty then s else let r := driveWords m op w s; setWork r.1 r.2
  | none => s

end Sys2Proof.Machine
end

