-- ==== Sys2Proof/Machine/Finish.lean ====
section
/-! DEFINITION. The Finish and Send stages of a sweep, its start and its place in the pipeline (R20, R21, R74, R77,
R138 to R160, R205, R208, R303). -/

namespace Sys2Proof.Machine

/-! FORECAST's sweeps (R274). -/

/-- A sweep of FORECAST: placed D4, at G = 1, in the class given. -/
def ForecastOp.sweep (f : ForecastOp) : SweepOp :=
  { layer := if f.stage = 0 then f.alayer else f.blayer, place := 1, gsize := 1, auto := false, fidelity := f.fidelity, acc := false,
    sweepNo := 0, din := if f.stage = 0 then f.din else f.dh, d0 := if f.stage = 0 then none else some f.dsc,
    d1 := if f.stage = 0 then some f.dh else none, ds := none, dr := none, db := none, disp := none, actWords := none,
    tokMask := none, chMask := none, inrow := false, act := 0, stat := 0, topk := 0, qrow := false, escMax := 0, ratio := 2,
    send := 0, sess := 0, stream := 0 }

/-- The sweep a transaction has in the pipeline. -/
def Tx.sweepOp (x : Tx) : Option SweepOp :=
  match x.op with
  | .sweep op => some op
  | .forecast f => some f.sweep
  | _ => none

/-- A transaction by its number. -/
def State.txNum (s : State) (num : Nat) : Option Tx := s.txs.find? (fun x => x.num == num)

/-- The sweep of a transaction number. -/
def State.sweepOf (s : State) (num : Nat) : Option SweepOp := (s.txNum num).bind Tx.sweepOp

/-- The pipeline's state changed. -/
def onSweeps (f : Sweeps → Sweeps) (s : State) : State := { s with arr := { s.arr with sweeps := f s.arr.sweeps } }

/-! The epilogue chain (R139, R144 to R146, R205). -/

/-- An activation of Table STI-7. -/
def activate (code : Nat) (v : F32) : F32 :=
  match code with
  | 1 => relu2 v | 2 => silu v | 3 => geluTanh v | _ => v

/-- A row's Tree sums. -/
def SweepWork.row (w : SweepWork) (row : Nat) : List F32 :=
  match w.rows.find? (fun e => e.1 == row) with
  | some e => e.2
  | none => []

/-- The activity bits in force for a row. -/
def SweepWork.actOf (w : SweepWork) (row : Nat) : Option Nat := (w.act.find? (fun e => e.1 == row)).map Prod.snd

/-- The partial a received stream holds for one element; none where it holds none (R391). -/
def partialOf (x : FusedStream) (row col : Nat) : Option F32 :=
  (x.tiles.find? (fun e => e.1 == row / 32 * 32 && e.2.1 == col / 32 && e.2.2.1.getLsbD (row % 32))).map
    (fun e => nthD fZero (nthD [] e.2.2.2 (row % 32)) (col % 32))

/-- The partial this member holds of another share rank, for one element (R399). -/
def leafOf (w : SweepWork) (rank row col : Nat) : Option F32 :=
  ((w.leaves.find? (fun e => e.1 == rank)).bind (fun e => (e.2.find? (fun r => r.1 == row)))).map (fun r => nthD fZero r.2 col)

/-- The rank tree of an output element over N share ranks, the owner's own partial at its share rank (R391). -/
def rankSum (w : SweepWork) (n me row col : Nat) (streams : List (Nat × FusedStream)) (own : F32) : F32 :=
  (treeReduce fAdd ((List.range n).map (fun r =>
    if r = me then some own
    else (leafOf w r row col).orElse (fun _ => (streams.find? (fun e => e.1 == r)).bind (fun e => partialOf e.2 row col))))).getD own

/-- v after the accumulate step (R139), with the partials of other share ranks added by the rank tree (R157, R391). -/
def accumulated (m : Mem) (op : SweepOp) (w : SweepWork) (row col : Nat) : F32 :=
  let v := nthD fZero (w.row row) col
  let own := match op.acc, op.d0 with
    | true, some d => fAdd (d.value m row col) v
    | _, _ => v
  match w.shares with
  | some (n, me, streams) => rankSum w n me row col streams own
  | none => own

/-- v after the activation step. -/
def activated (m : Mem) (op : SweepOp) (w : SweepWork) (row col : Nat) : F32 :=
  let v := accumulated m op w row col
  let v1 := match op.db with
    | some b => fAdd v (b.value m 0 col)
    | none => v
  activate op.act v1

/-- v at the end of the chain; +0 for a group predicted inactive (R205). -/
def finished (m : Mem) (op : SweepOp) (w : SweepWork) (row col : Nat) : F32 :=
  if !columnOn (w.actOf row) col then fZero
  else
    let v := activated m op w row col
    match op.dr with
    | some r => fAdd v (r.value m row col)
    | none => v

/-- A row's values at the end of the chain. -/
def finishedRow (m : Mem) (op : SweepOp) (w : SweepWork) (row : Nat) : List F32 :=
  (List.range op.width).map (finished m op w row)

/-- STAT codes (Table STI-7). -/
def statKind (code : Nat) : RedKind :=
  match code with
  | 1 => .sum | 2 => .sumsq | 3 => .meanvar | 4 => .max | 5 => .absmax | _ => .topk

/-- The whole-row scale's code for a row (R154). -/
def rowScaleCode (d : Desc) (xs : List F32) : Nat := scaleFor d.stype (keptMax xs []) d.etype.limit

/-- A row quantised into destination 1, with a block scale or the whole-row scale given (R102, R103, R154). -/
def quantOut (op : SweepOp) (d : Desc) (xs : List F32) : QRow :=
  if op.qrow then
    let code := rowScaleCode d xs
    let q := quantRow d op.escMax op.ratio (some (List.replicate d.blocks (d.stype.value code))) xs false
    { q with scales := List.replicate d.blocks code }
  else quantRow d op.escMax op.ratio none xs

/-- A destination's writes for a row; a KVAPPEND destination's entries are written apart (R295). -/
def destRow (m : Mem) (d : Desc) (row : Nat) (q : QRow) : List (Nat × Byte) × Counts :=
  (if d.kind m = 6 then [] else d.rowWrites row q true, q.counts)

/-- What two outputs write, in order. -/
def bothRows (a b : List (Nat × Byte) × Counts) : List (Nat × Byte) × Counts := (a.1 ++ b.1, a.2.add b.2)

/-- A row's destination 0 and statistics record (R138, R144, R153). -/
def firstRow (m : Mem) (op : SweepOp) (row : Nat) (xs : List F32) : List (Nat × Byte) × Counts :=
  bothRows (match op.d0 with
    | some d => destRow m d row (quantRow d 0 2 none xs)
    | none => ([], {}))
    (match op.ds with
    | some d => (d.dataWrites row ((statistic (statKind op.stat) (op.topk + 1) xs).map BitVec.toNat), {})
    | none => ([], {}))

/-- A row's destination 1 (R138, R154). -/
def secondRow (m : Mem) (op : SweepOp) (row : Nat) (xs : List F32) : List (Nat × Byte) × Counts :=
  match op.d1 with
  | some d => destRow m d row (quantOut op d xs)
  | none => ([], {})

/-- The writes of rows in order. -/
def allRows (f : Nat → List F32 → List (Nat × Byte) × Counts) (rows : List (Nat × List F32)) : List (Nat × Byte) × Counts :=
  let rs := rows.map (fun r => f r.1 r.2)
  ((rs.map Prod.fst).flatten, Counts.sum (rs.map Prod.snd))

/-- The values of all rows at the end of the chain: those held, where Finish of a deferred sweep has begun (R154). -/
def finalRows (m : Mem) (op : SweepOp) (w : SweepWork) : List (Nat × List F32) :=
  match w.held with
  | some vs => vs
  | none => (w.rows.map Prod.fst).map (fun row => (row, finishedRow m op w row))

/-- One row of them. -/
def finalRow (m : Mem) (op : SweepOp) (w : SweepWork) (row : Nat) : List F32 :=
  match w.held with
  | some vs => ((vs.find? (fun e => e.1 == row)).map Prod.snd).getD []
  | none => finishedRow m op w row

/-- The writes of a sweep's end; a PARTIAL stream writes no destination (R157), and a deferred sweep has only destination 1 left. -/
def finishRows (m : Mem) (op : SweepOp) (w : SweepWork) : List (Nat × Byte) × Counts :=
  if op.send = 2 then ([], {})
  else if w.held.isSome then allRows (secondRow m op) (finalRows m op w)
  else allRows (fun row xs => bothRows (firstRow m op row xs) (secondRow m op row xs)) (finalRows m op w)

/-- Orphans Finish meets in the residual (R105). -/
def finishOrphans (m : Mem) (op : SweepOp) (w : SweepWork) : Nat :=
  match op.dr with
  | some d => sumOf ((w.rows.map Prod.fst).map (d.orphansRow m))
  | none => 0

/-- The addresses Finish reads. -/
def finishReads (op : SweepOp) (w : SweepWork) : List Nat :=
  let rows := w.rows.map Prod.fst
  (match op.acc, op.d0 with
    | true, some d => (rows.map d.rowAddrs).flatten
    | _, _ => []) ++
  (match op.db with
    | some d => d.rowAddrs 0
    | none => []) ++
  (match op.dr with
    | some d => (rows.map d.rowAddrs).flatten
    | none => [])

/-! The pipeline (R20, R21, R83, R141, R156). -/

/-- The sweeps of the pipeline in the order they entered the queue. -/
def Sweeps.order (p : Sweeps) : List Nat := p.finishing ++ p.array.toList ++ p.queue

/-- The sweeps that entered before one. -/
def Sweeps.before (p : Sweeps) (num : Nat) : List Nat := p.order.takeWhile (fun n => n != num)

/-- The destinations of a sweep that have memory; a KVAPPEND one has none of its own (Table MEM-2). -/
def SweepOp.dests (m : Mem) (op : SweepOp) : List Desc := (op.d0.toList ++ op.d1.toList ++ op.ds.toList).filter (fun d => d.kind m != 6)

/-- Does an earlier sweep still have to write what this one's Finish reads (R141)? -/
def finishHeld (s : State) (num : Nat) (op : SweepOp) : Bool :=
  let reads := (if op.acc then op.d0.toList else []) ++ op.dr.toList ++ op.db.toList
  (s.arr.sweeps.before num).any (fun n =>
    (s.sweepOf n).any (fun o => (o.dests s.mem).any (fun d => reads.any (fun r => d.overlaps r))))

/-- Are all regions a sweep touches there, none loading or under reload (R83, R169, R260)? -/
def regionsReady (s : State) (op : SweepOp) : Bool :=
  (sweepRegions s op).all (fun r => r.state == .resident || r.state == .leaving)

/-- The A-macros a sweep touches. -/
def sweepMacros (s : State) (op : SweepOp) : List Nat :=
  (((sweepRegions s op).filter (fun r => analog r.place)).map Region.apair).eraseDups

/-- The calibration age in halves of a step; none was ever calibrated. -/
def calAge (s : State) (n : Nat) : Option Nat := (s.pair n).calAt.map (fun t => s.now - t)

/-- Must an A-macro be recalibrated before a fidelity sweep (R66, R74)? -/
def stale (s : State) (n : Nat) : Bool :=
  (match calAge s n with
    | some a => decide (s.field 0x000A0100 20 10 * msHalves < a + 60 * usHalves)
    | none => true)
  || decide (4 * s.field 0x000A0100 9 6 < (tempDiff s n).natAbs)

/-- A sweep's remaining words pass: it leaves Combine (R20). -/
def passAll (num : Nat) (s : State) : State :=
  match s.sweepOf num, s.arr.sweeps.work.find? (fun w => w.num == num) with
  | some op, some w => passWords num w.todo.length op s
  | _, _ => s

/-- The sweep in the array passes all its words. -/
def arrayPasses (s : State) : State :=
  match s.arr.sweeps.array with
  | some num => passAll num s
  | none => s

/-- The sweep in the array passes a free number of its words before something that changes what later words see (R60) (DESIGN CHOICE,
log entry 140). -/
def someWords (s : State) : State :=
  match s.arr.sweeps.array.bind (fun num => (s.sweepOf num).bind (fun op =>
    (s.arr.sweeps.work.find? (fun w => w.num == num)).map (fun w => (op, w)))) with
  | some (op, w) => if w.todo.isEmpty then s else skipFree 1 (passWords w.num (s.drawn % (w.todo.length + 1)) op s)
  | none => s

/-- A recalibration pass begins on an A-macro (R69, R71). -/
def startPass (trigger n : Nat) (s : State) : State :=
  onPair n (fun p => if p.recal.isSome then p else { p with recal := some trigger, recalDue := none }) s

/-- The sweep that holds the array runs all its words but the last `left`, or is held at the start of its Feed stage until its
A-macros are recalibrated (R74, R78). -/
def feedOrStall (num : Nat) (op : SweepOp) (left : Nat) (s : State) : State :=
  let late := if op.fidelity || s.bat.step.any TokenStep.headroom then (sweepMacros s op).filter (stale s) else []
  if late.isEmpty then runArray num op left (onSweeps (fun p => { p with stalled := false }) s)
  else
    let s1 := if s.arr.sweeps.stalled then s else bump 0x000A010C 1 s
    late.foldl (fun u n => if decide (u.now < (u.pair n).retryAt) then u else startPass 0 n u)
      (onSweeps (fun p => { p with stalled := true }) s1)

/-- The array's sweep of before has passed Combine and goes on to Finish; the queue's head takes the array (R20, R21). -/
def takeArray (num : Nat) (p : Sweeps) : Sweeps :=
  { p with queue := p.queue.drop 1, array := some num, finishing := p.finishing ++ p.array.toList }

/-- A Drizzle slice gives way to a sweep that needs one of its pairs (R458). A slice below 76,800 is of pair test group i / 5,
one above 80,895 of an untested group; the others test banks (R456). -/
def giveWay (op : SweepOp) (s : State) : State :=
  match s.test.slice with
  | some x =>
    let g := if x.index < 76800 then x.index / 5 else x.index - 80896
    if (x.index < 76800 || decide (80896 ≤ x.index))
        && (sweepRegions s op).any (fun r => r.pairs.any (fun n => testGroup (n / 48) (n % 48) == g)) then
      { s with test := { s.test with slice := some { x with paused := true } } }
    else s
  | none => s

/-- Do the step clocks of the stacks run (Table POW-3)? A sweep waits for the wake from Calm or Frost (R439). -/
def sweepsRun (s : State) : Bool := decide (s.field 0x00020024 28 26 ≤ 1)

/-- The stacks whose tiles a sweep uses. -/
def SweepOp.diesOf (op : SweepOp) (s : State) : List Nat := ((sweepRegions s op).map (fun r => r.tile / 640)).eraseDups

/-- SWEEP_START (R20, R21, R74, R83, R457, R458): refused by a forced slice's hold, an array that a held sweep occupies, and while a region of the head is
under reload. How many of the sweep's last words have not passed yet when the command ends is free (R20, R60) (DESIGN CHOICE, log entry 140). -/
def effSweepStart (s : State) : State :=
  match s.arr.sweeps.stalled || s.test.holdIssue, s.arr.sweeps.queue with
  | false, num :: _ =>
    match s.sweepOf num with
    | some op =>
      if regionsReady s op && sweepsRun s then
        feedOrStall num op s.drawn (giveWay op (onSweeps (takeArray num) (wakeDies (op.diesOf s) (arrayPasses (skipFree 1 s)))))
      else s
    | none => onSweeps (fun p => { p with queue := p.queue.drop 1 }) s
  | _, _ => s

/-- A held sweep goes on when no A-macro of it needs a pass any more (R74). -/
def resumeStalled (s : State) : State :=
  match s.arr.sweeps.stalled, s.arr.sweeps.array with
  | true, some num =>
    match s.sweepOf num with
    | some op => if (sweepMacros s op).any (stale s) then s else feedOrStall num op 0 s
    | none => s
  | _, _ => s

/-- The work of a started sweep. -/
def State.workOf (s : State) (num : Nat) : Option SweepWork := s.arr.sweeps.work.find? (fun w => w.num == num)

/-- The PARTIAL streams that a sweep's owner combines (R157, R391) (DESIGN CHOICE, log entry 135). -/
def shareStreams (s : State) (op : SweepOp) : List (Nat × Nat × Nat) :=
  if op.send = 0 ∧ 2 ≤ s.fstate then Config.partialPlan s.modelRoot op.layer else []

/-- Has every stream that a sweep's owner combines its expected tiles (R159)? -/
def sharesHere (s : State) (op : SweepOp) : Bool :=
  (shareStreams s op).all (fun p => s.arr.streams.any (fun x => x.stream.toNat == p.2.1 && decide (p.2.2 ≤ x.tiles.length)))

/-- A sweep's work with the partials received for it. -/
def SweepWork.withShares (s : State) (op : SweepOp) (w : SweepWork) : SweepWork :=
  let ps := shareStreams s op
  if ps.isEmpty && w.leaves.isEmpty then w
  else { w with shares := some (s.frontSize, w.own, ps.filterMap (fun p =>
    (s.arr.streams.find? (fun x => x.stream.toNat == p.2.1)).map (fun x => (p.1, x)))) }

/-- Streams combined are done with. -/
def dropShares (op : SweepOp) (s : State) : State :=
  let ps := shareStreams s op
  { s with arr := { s.arr with streams := s.arr.streams.filter (fun x => !ps.any (fun p => p.2.1 == x.stream.toNat)) } }

/-- May a sweep's Finish read its inputs (R141, R157)? -/
def finishReads_ (s : State) (num : Nat) (op : SweepOp) : Bool := !finishHeld s num op && sharesHere s op

/-- The Finish stage of a deferred sweep that owns the hold space, once it may read its inputs (R154): the values are held, and
destination 0 and the statistics written without waiting for a scale. -/
def beginFinish (num : Nat) (s : State) : State :=
  match s.sweepOf num, s.workOf num with
  | some op, some w0 =>
    if op.qrow && s.arr.sweeps.hold == some num && w0.held.isNone && w0.todo.isEmpty && finishReads_ s num op then
      let w := w0.withShares s op
      let vs := finalRows s.mem op w
      let r := allRows (firstRow s.mem op) vs
      let poison := match w.poison with
        | some a => some a
        | none => poisonAt s.mem (finishReads op w)
      writeMem r.1 (wakeBanks (r.1.map Prod.fst) (setWork
        { w with held := some vs, early := r.2.add { orphan := finishOrphans s.mem op w }, poison := poison } s))
    else s
  | _, _ => s

/-- SWEEP_FINISH_HOLD_FREE (R156): a deferred sweep that has passed Combine takes the hold space when it is free and no earlier
deferred sweep waits for it. -/
def effSweepFinishHoldFree (c : Fin 20) (tag : Fin 512) (s : State) : State :=
  let num := c.val * 512 + tag.val
  match s.sweepOf num, s.workOf num with
  | some op, some _ =>
    if op.qrow && s.arr.sweeps.hold.isNone && !(s.arr.sweeps.before num).any (fun n => (s.sweepOf n).any SweepOp.qrow)
    then beginFinish num (passAll num (onSweeps (fun p => { p with hold := some num }) s)) else s
  | _, _ => s

/-- SWEEP_ROW_SCALE (R154): the hub forms a row's scale from the held values and returns it. -/
def effSweepRowScale (c : Fin 20) (tag : Fin 512) (row : Nat) (s0 : State) : State :=
  let num := c.val * 512 + tag.val
  let s := beginFinish num s0
  match s.sweepOf num, s.workOf num with
  | some op, some w =>
    match op.d1 with
    | some d =>
      if op.qrow && s.arr.sweeps.hold == some num && w.held.isSome && w.rows.any (fun e => e.1 == row)
          && !s.arr.sweeps.rowScales.any (fun e => e.1 == num && e.2.1 == row) then
        let v := d.stype.value (rowScaleCode d (finalRow s.mem op w row))
        onSweeps (fun p => { p with rowScales := p.rowScales ++ [(num, row, v)] }) s
      else s
    | none => s
  | _, _ => s

/-- Are all of a deferred sweep's row scales formed? -/
def scalesFormed (s : State) (num : Nat) (op : SweepOp) (w : SweepWork) : Bool :=
  !op.qrow || (s.arr.sweeps.hold == some num && w.held.isSome
    && w.rows.all (fun r => s.arr.sweeps.rowScales.any (fun e => e.1 == num && e.2.1 == r.1)))

/-! Automatic gain and Forecast audits at a sweep's end (R77, R208). -/

/-- A group's gain state after a sweep's conversions at it (R77); every conversion at the group's gain counts, under a policy of
G = 1 those of a group whose G_auto is 1 too (DEDUCED, log entry 136). -/
def gainStep (limit : Nat) (t : Nat × Bool × Nat × Nat) (g : Nat × Bool × Nat × Nat) : Nat × Bool × Nat × Nat :=
  let seen := g.2.1 || t.2.1
  let sinceClip := if t.2.1 then t.2.2.1 else g.2.2.1 + t.1
  let sinceHigh := if t.2.2.2 < t.1 then t.2.2.2 else g.2.2.2 + t.1
  if seen ∧ sinceClip < 4096 ∧ 1 < g.1 then (g.1 / 2, false, 0, 0)
  else if 65536 ≤ sinceHigh ∧ g.1 < limit then (2 * g.1, false, 0, 0)
  else (g.1, seen, sinceClip, sinceHigh)

/-- AUTO_GAIN_UPDATE (R77): after a throughput sweep. -/
def updateGains (op : SweepOp) (w : SweepWork) (s : State) : State :=
  if op.fidelity then s
  else
    w.conv.foldl (fun u e =>
      let j := e.1 % 8
      { u with arr := { u.arr with regions := u.arr.regions.map (fun r =>
          if r.id == e.1 / 8 then
            let g := look (1, false, 0, 0) r.gauto j
            let limit := if bit (u.pair r.apair).glim j then 1 else 4
            if op.auto || g.1 == 1 then { r with gauto := put (1, false, 0, 0) r.gauto j (gainStep limit e.2 g) } else r
          else r) } }) s

/-- Is a neuron group truly active in a row: some value after the activation step not zero (R208)? -/
def groupTrue (m : Mem) (op : SweepOp) (w : SweepWork) (row g : Nat) : Bool :=
  (List.range 64).any (fun i => decide (64 * g + i < op.width) && fAbs (activated m op w row (64 * g + i)) != fZero)

/-- A row's audit (R208): truly active groups, those of them predicted inactive, groups predicted inactive. -/
def auditRow (m : Mem) (op : SweepOp) (w : SweepWork) (base row : Nat) : Nat × Nat × Nat :=
  let word := cleanLe m (base + 8 * row) 8
  let gs := List.range (op.width / 64)
  let act := gs.filter (groupTrue m op w row)
  (act.length, (act.filter (fun g => !bit word g)).length, (gs.filter (fun g => !bit word g)).length)

/-- An up sweep's audit (R206, R208): its rows whose activity words have NO_SKIP, counted for the B layer whose FORECAST wrote
the words. -/
def auditSweep (op : SweepOp) (w : SweepWork) (s : State) : State :=
  match op.actWords with
  | none => s
  | some base =>
    let rows := (w.rows.map Prod.fst).filter (fun r => bit (cleanLe s.mem (base + 8 * r) 8) 63)
    match s.arr.sweeps.actOwners.find? (fun e => e.1 == base) with
    | some (_, layer) =>
      if rows.isEmpty then s
      else
        let t := rows.map (auditRow s.mem op w base)
        { s with arr := { s.arr with forecast := change {} s.arr.forecast layer (fun f =>
            { f with sumA := f.sumA + sumOf (t.map Prod.fst), sumM := f.sumM + sumOf (t.map (fun x => x.2.1)),
                     sumK := f.sumK + sumOf (t.map (fun x => x.2.2)), audits := f.audits + b01 (op.sweepNo == 0) }) } }
    | none => s

/-! Fused tiles (R157, R158). -/

/-- The element codes of an output tile's row: destination 0's after the chain, or FP32 after the accumulate step, +0 in a group
predicted inactive (R205). -/
def tileRow (m : Mem) (op : SweepOp) (w : SweepWork) (row vec : Nat) : List Nat :=
  (List.range 32).map (fun i =>
    let col := 32 * vec + i
    if op.width ≤ col || !w.rows.any (fun e => e.1 == row) then 0
    else if op.send = 2 then (if columnOn (w.actOf row) col then (accumulated m op w row col).toNat else 0)
    else match op.d0 with
      | some d => (d.etype.encode (match w.held with
          | some _ => nthD fZero (finalRow m op w row) col
          | none => finished m op w row col)).1
      | none => 0)

/-- The element type a stream carries. -/
def SweepOp.frameType (op : SweepOp) : EType := if op.send = 2 then .fp32 else (op.d0.map Desc.etype).getD .fp32

/-- Rows of the sweep's operands: the batch rows of its tiles. -/
def SweepOp.outRows (op : SweepOp) : Nat := ((op.d0.orElse (fun _ => op.d1)).map Desc.rows).getD 0

/-- The output tiles of a sweep: first row and vector. -/
def SweepOp.tiles (op : SweepOp) : List (Nat × Nat) :=
  ((List.range (ceilDiv op.outRows 32)).map (fun b => (List.range (ceilDiv op.width 32)).map (fun v => (32 * b, v)))).flatten

/-- The payload of a frame (R158, Table ACC-4). -/
def frameBytes (m : Mem) (op : SweepOp) (w : SweepWork) (epoch rank attempt frame token0 vec0 ntile : Nat) : List Byte :=
  let ntok := Nat.min 32 (op.outRows - token0)
  let mask := sumOf ((List.range ntok).map (fun i => if w.rows.any (fun e => e.1 == token0 + i) then 2 ^ i else 0))
  leBytes 4 op.stream ++ leBytes 4 epoch ++ leBytes 4 token0 ++ leBytes 4 mask ++ leBytes 4 vec0
    ++ leBytes 1 op.send ++ leBytes 1 op.frameType.code ++ leBytes 1 ntile ++ leBytes 1 ntok ++ leBytes 1 rank
    ++ leBytes 1 attempt ++ leBytes 2 0 ++ leBytes 4 frame
    ++ ((List.range ntile).map (fun j => ((List.range ntok).map (fun i =>
        packCodes op.frameType (tileRow m op w (token0 + i) (vec0 + j)))).flatten)).flatten

/-- Is a tile of a sweep already handed to the Pelet engine? (DEDUCED, log entry 111) -/
def tileSent (s : State) (num token0 vec : Nat) : Bool :=
  s.arr.sweeps.sentTiles.any (fun e => e.1 == num && e.2.1 == token0 && decide (e.2.2.1 ≤ vec) && decide (vec < e.2.2.1 + e.2.2.2))

/-- Are all of a sweep's tiles handed over? -/
def allSent (s : State) (num : Nat) (op : SweepOp) : Bool :=
  op.send == 0 || op.tiles.all (fun t => tileSent s num t.1 t.2)

/-! A sweep's end (R42, R100, R262, R303). -/

/-- A sweep leaves the pipeline. -/
def Sweeps.leave (num : Nat) (p : Sweeps) : Sweeps :=
  { p with finishing := takeOut p.finishing num, array := if p.array = some num then none else p.array,
           work := p.work.filter (fun w => w.num != num),
           hold := if p.hold = some num then none else p.hold,
           rowScales := p.rowScales.filter (fun e => e.1 != num),
           sentTiles := p.sentTiles.filter (fun e => e.1 != num) }

/-- May a sweep end now? -/
def sweepEnds (s : State) (num : Nat) (op : SweepOp) (w : SweepWork) : Bool :=
  (op.qrow || finishReads_ s num op) && scalesFormed s num op w && allSent s num op

/-- The first poisoned line of a sweep's reads (R303) (DEDUCED, log entry 28). -/
def sweepPoison (m : Mem) (op : SweepOp) (w : SweepWork) : Option Nat :=
  match w.poison with
  | some a => some a
  | none => if w.held.isSome then none else poisonAt m (finishReads op w)

/-- A sweep's writes and events: destinations, gains, audits, clips, numeric events, poison. -/
def endSweep (x : Tx) (op : SweepOp) (w : SweepWork) (s : State) : State :=
  let r := finishRows s.mem op w
  let pz := sweepPoison s.mem op w
  let met : Counts := if w.held.isSome then w.early else { orphan := finishOrphans s.mem op w }
  let counts := (r.2.add met).add { orphan := w.orphan }
  let s1 := updateGains op w (auditSweep op w s)
  let s2 := writeMem r.1 (wakeBanks (r.1.map Prod.fst) { s1 with pow := { s1.pow with idleAt := s1.now } })
  raiseAll (counts.raises x.c x.k ++
    (if w.clips = 0 then [] else [atPair 0x0101 (w.clipAt.getD 0) w.clips 0]) ++
    (match pz with
      | some a => [atThread 0x0502 x.c x.k a 0]
      | none => [])) s2

/-- SWEEP_START (R20). -/
def execSweepStart (s : State) : Host.Outcome State Fault Refusal := done (effSweepStart s)
/-- SWEEP_FINISH_HOLD_FREE (R156). -/
def execSweepFinishHoldFree (c : Fin 20) (tag : Fin 512) (s : State) : Host.Outcome State Fault Refusal :=
  done (effSweepFinishHoldFree c tag s)
/-- SWEEP_ROW_SCALE (R154). -/
def execSweepRowScale (c : Fin 20) (tag : Fin 512) (row : Nat) (s : State) : Host.Outcome State Fault Refusal :=
  done (effSweepRowScale c tag row s)

end Sys2Proof.Machine
end

