-- ==== Sys2Proof/Machine/Upkeep.lean ====
section
/-! DEFINITION. Upkeep of the arrays: refresh, row reload, recalibration and remap (R66, R69 to R72, R74, R76, R79 to
R83, R87 to R90). -/

namespace Sys2Proof.Machine

/-- A pair and a row of the module whose arrays are on (R16, R80). -/
def upkeepOk (s : State) (p : PairId) (row : Nat) : Bool :=
  decide (p.tile < 10240) && decide (p.pair < 48) && decide (row < 2048) && s.boot.arrays

/-! Refresh (R79 to R83). -/

/-- The refresh period of a band in steps (Table CAL-8): 8, 4, 2 and 1 ms. -/
def refreshPeriod (band : Nat) : Nat := 15200000 / 2 ^ band

/-- The next deadline of a row in steps since the arrays came on: the first of R80's whose due moment lies after its last refresh. -/
def nextDeadline (p : Pair) (row : Nat) : Nat :=
  let per := refreshPeriod p.band
  let first := row * per / 2048
  let last := look 0 p.refreshed row
  -- the least first + k·per with first + k·per − per/8 > last
  if last < first - per / 8 then first else first + ((last + per / 8 - first) / per + 1) * per

/-- REFRESH_DUE (R80): at seven eighths of its period the row is due. -/
def effRefreshDue (p : PairId) (row : Nat) (s : State) : State :=
  if !upkeepOk s p row then s
  else
    let q := s.pair p.num
    if q.due.contains row then s
    else
      onPair p.num (fun q => { q with due := q.due ++ [row] })
        (reach (s.stepTime p.stack (nextDeadline q row - refreshPeriod q.band / 8)) s)

/-- REFRESH_DEADLINE (R80): 64 steps before its deadline a due row takes precedence over the sweep. -/
def effRefreshDeadline (p : PairId) (row : Nat) (s : State) : State :=
  if !upkeepOk s p row then s
  else
    let q := s.pair p.num
    if q.due.contains row then
      onPair p.num (fun q => { q with refreshing := addOnce q.refreshing row }) (reach (s.stepTime p.stack (nextDeadline q row - 64)) s)
    else s

/-- Does the sweep that occupies the array use a row of a pair (R83)? -/
def arrayUses (s : State) (n row : Nat) : Option Nat :=
  s.arr.sweeps.array.bind (fun num => (s.sweepOf num).bind (fun op =>
    if (sweepRegions s op).any (fun r => r.pairs.contains n && decide (r.row0 ≤ row) && decide (row < r.row0 + r.rows))
    then some num else none))

/-- A checksum mismatch (R70, R83): its event, the reload, the batch's re-execution, and a pass on the macro abandoned. -/
def checksumMismatch (n row i0 i1 : Nat) (s : State) : State :=
  let s1 := queueReload n row (raise (atPair 0x0106 n i0 i1) s)
  let s2 := match arrayUses s n row with
    | some num => markReplay num 1 s1
    | none => s1
  onPair n (fun p => match p.recal with
    | some tr => { p with recal := none, recalDue := some tr }
    | none => p) s2

/-- A row's levels as a refresh senses and restores them (R79, R83). -/
def restoreRow (row : Nat) (sensed : List (Nat × Nat)) (p : Pair) : Pair := sensed.foldl (fun q e => q.setLevel row e.1 e.2) p

/-- REFRESH_ROW_DONE (R79, R82, R83): a due row's refresh completes: the levels sensed are restored and their checksums compared with
the stored ones. The columns named are those sensed at another level than was written (DESIGN CHOICE, log entry 17). -/
def effRefreshRowDone (p : PairId) (row : Nat) (sensed : List (Nat × Nat)) (s : State) : State :=
  if !upkeepOk s p row then s
  else
    let n := p.num
    if (s.pair n).due.contains row then
      let s1 := onPair n (fun q => restoreRow row sensed { q with
        due := takeOut q.due row, refreshing := takeOut q.refreshing row,
        refreshed := put 0 q.refreshed row (s.domainSteps p.stack) }) s
      if rowChecksum (s1.pair n) row != (s1.pair n).checksum row then checksumMismatch n row 0 0 s1 else s1
    else s

/-- The band of a temperature in 0.25 °C (Table CAL-8). -/
def bandOfTemp (t : Int) : Nat := if t ≤ 280 then 0 else if t ≤ 360 then 1 else if t ≤ 420 then 2 else 3

/-- Is a reading at least 2 °C below the lower edge of a band (R81)? -/
def coolFor (band : Nat) (t : Int) : Bool :=
  match band with
  | 0 => false | 1 => decide (t ≤ 272) | 2 => decide (t ≤ 352) | _ => decide (t ≤ 412)

/-- A pair's band after a reading of its tile (R81), `steps` the count of its stack: a rise makes every row older than the new period a
forced refresh at once, oldest first, and counts it; a cool reading starts the wait of 10 ms, any other ends it. -/
def bandReading (steps now : Nat) (t : Int) (p : Pair) : Pair :=
  let b := bandOfTemp t
  if p.band < b then
    let old := sortBy (look 0 p.refreshed) ((List.range 2048).filter (fun r => decide (refreshPeriod b < steps - look 0 p.refreshed r)))
    { p with band := b, coolSince := none, forced := p.forced + old.length,
             due := old.foldl addOnce p.due, refreshing := p.refreshing.foldl addOnce old }
  else if coolFor p.band t then { p with coolSince := some (p.coolSince.getD now) }
  else { p with coolSince := none }

/-- REFRESH_BAND_FALL (R81): after 10 ms of cool readings the band falls by one. -/
def effRefreshBandFall (p : PairId) (s : State) : State :=
  if !upkeepOk s p 0 then s
  else
    match (s.pair p.num).coolSince with
    | none => s
    | some t0 =>
      let s1 := reach (t0 + 10 * msHalves) s
      let t := (s.tile p.tile).temp
      onPair p.num (fun q =>
        { q with band := q.band - 1, coolSince := if coolFor (q.band - 1) t then some s1.now else none }) s1

/-- Cells found wrong by a reload counted for their columns (R83, Table CAL-9), and the columns that reach CKSUM_LIMIT (DESIGN CHOICE, log entry 17). -/
def countCells (n : Nat) (cols : List Nat) (s : State) : State :=
  cols.foldl (fun u c =>
    let pc := physical n (u.pair n) c
    let s1 := onPair n (fun q => { q with wv := change {} q.wv pc (fun w =>
      { w with cksum := recent u.now (86400 * sHalves) w.cksum ++ [u.now] }) }) u
    let k := (look {} (s1.pair n).wv pc).cksum.length
    if u.field 0x000A0104 3 0 ≤ k then startRemap n c 4 s1 else s1) s

/-- The regions whose rows are all reloaded become resident again (R83). -/
def endReloads (s : State) : State :=
  { s with arr := { s.arr with regions := s.arr.regions.map (fun r =>
      if r.state == .reloading && maskParityOk s r
          && !r.pairs.any (fun n => (s.pair n).reloads.any (fun row => decide (r.row0 ≤ row) && decide (row < r.row0 + r.rows)))
      then { r with state := .resident } else r) } }

/-- Does the held fidelity sweep touch an A-macro? -/
def stalledOn (s : State) (n : Nat) : Bool :=
  s.arr.sweeps.stalled && s.arr.sweeps.array.any (fun num => (s.sweepOf num).any (fun op => (sweepMacros s op).contains n))

/-- A pass that a reload held off begins when no row of the macro waits any more (R70, R74, R76). -/
def passAgain (n : Nat) (s : State) : State :=
  if !(s.pair n).reloads.isEmpty || decide (s.now < (s.pair n).retryAt) then s
  else if (s.pair n).recalDue = some 5 then startPass 5 n s
  else if stalledOn s n && stale s n then startPass 0 n s
  else s

/-- ROW_RELOAD_DONE (R36, R83, R169): the row and its mask words are written again from their copy, with parity and checksums; the A cells
that differ from it are counted. The outlier cache forgets the row on the pair sets reloaded (R114). -/
def effRowReloadDone (p : PairId) (row : Nat) (s : State) : State :=
  let n := p.num
  if !upkeepOk s p row || !(s.pair n).reloads.contains row then s
  else
    let wrong := wrongCells n row (s.pair n)
    let s1 := onPair n (fun q => reloadMask row (reloadRow n row { q with reloads := takeOut q.reloads row })) s
    let s2 := onTile p.tile (fun t => { t with cache := t.cache.filter (fun k =>
      !(k % 2048 == row && s.arr.regions.any (fun g => g.tile == p.tile && g.pairs.contains n && g.lead == k / 2048))) }) s1
    passAgain n (endReloads (countCells n wrong s2))

/-! Recalibration (R69 to R72, R74, R76). -/

/-- Does an A-macro hold A-placed rows? -/
def holdsA (s : State) (n : Nat) : Bool := s.arr.regions.any (fun r => analog r.place && r.apair == n)

/-- RECAL_AGE_DUE (R71): at half of FID_AGE_MS. -/
def effRecalAgeDue (p : PairId) (s : State) : State :=
  match upkeepOk s p 0 && holdsA s p.num, (s.pair p.num).calAt with
  | true, some t =>
    onPair p.num (fun q => if q.recalDue.isSome then q else { q with recalDue := some 1 })
      (reach (t + s.field 0x000A0100 20 10 * msHalves / 2) s)
  | _, _ => s

/-- May a scheduled pass be made now (R70)? -/
def passMay (s : State) (n : Nat) : Bool :=
  holdsA s n && decide ((s.pair n).retryAt ≤ s.now) && (s.pair n).reloads.isEmpty

/-- Is a macro due by its age alone (Table CAL-6)? -/
def ageDue (s : State) (n : Nat) : Bool := (calAge s n).any (fun a => decide (s.field 0x000A0100 20 10 * msHalves / 2 ≤ a))

/-- The trigger of a scheduled pass judged afresh (R66): a temperature that has returned makes none, the macro's age may. -/
def dueNow (s : State) (n tr : Nat) : Option Nat :=
  if tr = 4 ∧ (tempDiff s n).natAbs ≤ 4 * s.field 0x000A0100 9 6 then (if ageDue s n then some 1 else none) else some tr

/-- One due pass begun, put off, or dropped where its temperature has returned (R66, R70). -/
def takeDue (s : State) (n : Nat) : State :=
  match (s.pair n).recalDue with
  | some tr =>
    match dueNow s n tr with
    | some t => if passMay s n then startPass t n s else onPair n (fun q => { q with recalDue := some t }) s
    | none => onPair n (fun q => { q with recalDue := none }) s
  | none => s

/-- Is the array idle: no sweep held or queued (R71)? -/
def arrayIdle (s : State) : Bool := !s.arr.sweeps.stalled && s.arr.sweeps.queue.isEmpty

/-- IDLE_WINDOW (R71): due passes begin on all their A-macros. -/
def effIdleWindow (s : State) : State :=
  if arrayIdle s && s.boot.arrays then (s.arr.pairs.map Prod.fst).foldl takeDue s else s

/-- FORCED_RECAL (R70, R72, R76): at THR_MAX_AGE_S, in either class, whether or not a sweep runs, but no sooner than 1 ms after a failed
pass and after the reload of its rows. -/
def effForcedRecal (p : PairId) (s : State) : State :=
  match upkeepOk s p 0 && holdsA s p.num, (s.pair p.num).calAt with
  | true, some t =>
    let s1 := reach (Nat.max (t + s.field 0x000A0100 5 0 * sHalves) (s.pair p.num).retryAt) s
    if (s1.pair p.num).reloads.isEmpty then startPass 5 p.num s1 else onPair p.num (fun q => { q with recalDue := some 5 }) s1
  | _, _ => s

/-- A physical column's points in a pass (R69): the two uniform words of each group, their expected sums from the lo-sums. -/
def passFit (s : State) (n pc : Nat) (groups : List (Nat × Nat)) (base : Nat) : Fit :=
  let p := s.pair n
  (List.range groups.length).foldl (fun f j =>
    let g := nthD (0, 0) groups j
    let lo := p.groupLo pc g.1 g.2
    let cells := p.aSum pc g.1 (List.replicate (groupRows g.2) 1)
    let k := base + 2 * j
    (f.add (inLambdas g.2 (255 * lo)) (convert s g.2 1 (255 * cells) k)).add (inLambdas g.2 (85 * lo)) (convert s g.2 1 (85 * cells) (k + 1))) {}

/-- A column's pass: its new codes and whether it fails (R69, R70). -/
def passColumn (s : State) (n col : Nat) (groups : List (Nat × Nat)) : Int × Int × Bool :=
  let pc := physical n (s.pair n) col
  let t := (s.pair n).trim pc
  let f := passFit s n pc groups (col * (2 * groups.length))
  if (s.pair n).loSum pc groups < 64 then
    let b := f.offsetOnly
    ((t.gain : Int), b, b < -128 || b > 127 || f.roughOffset 1 2)
  else
    match f.gainCode, f.offsetCode with
    | some a, some b =>
      (a, b, a < 0 || a > 1023 || b < -128 || b > 127 || f.rough 1 2
        || decide (2 * (4096 + (t.base : Int) - 512) < 100 * ((a - t.base).natAbs : Int)))
    | _, _ => ((t.gain : Int), t.offset, true)

/-- A successful pass written (R69 step 4, R86). -/
def writePass (n : Nat) (cols : List (Nat × Int × Int × Bool)) (now : Nat) (temp : Int) (p : Pair) : Pair :=
  let q := cols.foldl (fun q x => q.onTrim (physical n q x.1) (fun t => { t with gain := x.2.1.toNat, offset := x.2.2.1, fails := 0 })) p
  { q with tCal := temp, calAt := some now, recal := none, recalDue := none,
           baro := q.baro.map (fun e => (e.1, (e.2.1, e.2.1))),
           wv := q.wv.map (fun e => (e.1, { e.2 with
             recalled := e.2.drifting, persist := 0,
             envAt := if e.2.envDue then some now else e.2.envAt, envDue := false })) }

/-- A failed pass (R70): every trim kept, FAILS of each column counted or cleared, a retry no sooner than 1 ms later. -/
def failPass (n : Nat) (cols : List (Nat × Int × Int × Bool)) (s : State) : State :=
  let s1 := onPair n (fun p =>
    let q := (cols.filter (fun x => !x.2.2.2)).foldl (fun q x => q.onTrim (physical n q x.1) (fun t => { t with fails := 0 })) p
    { q with recal := none, recalDue := some 6, retryAt := s.now + msHalves }) s
  ((cols.filter (fun x => x.2.2.2)).map Prod.fst).foldl (fun u c => recalFails n c u) s1

/-- The trims that a running sweep's later words take after a pass forced at THR_MAX_AGE_S (R60). -/
def relatch (n : Nat) (s : State) : State :=
  onSweeps (fun p => { p with work := p.work.map (fun w =>
    { w with latched := w.latched.map (fun e => if e.1 = n then (n, (s.pair n).latch) else e) }) }) s

/-- RECAL_PASS_DONE (R69, R70): applied whole or rejected; a held fidelity sweep goes on when its A-macros are ready (R74). A forced pass
takes effect from the sweep's next word (R60). -/
def effRecalPassDone (p : PairId) (s0 : State) : State :=
  let n := p.num
  if !upkeepOk s0 p 0 || (s0.pair n).recal.isNone then s0
  else
    let forced := (s0.pair n).recal == some 5
    let s := if forced then someWords s0 else s0
    let g := aGroups s n
    let cols := ((List.range 256).filter (fun c => !lost n (s.pair n) c)).map (fun c => (c, passColumn s n c g))
    let s1 := skipFree (512 * g.length) s
    if cols.any (fun x => x.2.2.2) then failPass n cols s1
    else
      let s2 := onPair n (writePass n cols s.now (s.tile p.tile).temp) s1
      resumeStalled (if forced then relatch n s2 else s2)

/-- RECAL_RETRY (R70, R74): 1 ms after a failure the pass is repeated for the held sweep, else when the array is idle. -/
def effRecalRetry (p : PairId) (s : State) : State :=
  let n := p.num
  if !upkeepOk s p 0 || (s.pair n).recalDue ≠ some 6 then s
  else
    let s1 := reach (s.pair n).retryAt s
    if stalledOn s1 n then startPass 0 n s1 else if arrayIdle s1 then takeDue s1 n else s1

/-! Remap (R87 to R90). -/

/-- The codes that make a spare's correction by R59 match a fit at the present temperature (R89 step 3): a and b. -/
def spareCodes (s : State) (n : Nat) (f : Fit) (gainFit : Bool) : Option (Int × Int) :=
  let lam : Int := 192
  let d := tempDiff s n
  let tnum : Int := 262144 + (Config.kappaG n).toInt * d
  let ko : Int := (Config.kappaO n).toInt * d
  if gainFit then
    if f.cov = 0 ∨ f.k = 0 ∨ tnum = 0 then none
    else
      -- 1/g = var/(λ cov); −o/g = −(Σy var − cov Σx)/(k λ cov)
      let a := 512 + rneDiv (4096 * (f.var * 262144 - lam * f.cov * tnum)) (lam * f.cov * tnum)
      let b := rneDiv (-16 * 1024 * ((f.sy : Int) * f.var - f.cov * f.sx) - 16 * ko * ((f.k : Int) * lam * f.cov))
        (1024 * ((f.k : Int) * lam * f.cov))
      some (a, b)
  else if f.k = 0 ∨ tnum = 0 then none
  else
    let a := 512 + rneDiv (4096 * (262144 - tnum)) tnum
    let b := rneDiv (-16 * 1024 * (lam * f.sy - f.sx) - 16 * ko * ((f.k : Int) * lam)) (1024 * ((f.k : Int) * lam))
    some (a, b)

/-- The spare's trim alone (R89 step 3): its codes, or none where it fails trim. -/
def trimSpare (s : State) (n spare : Nat) : Option (Int × Int) :=
  let g := aGroups s n
  let f := columnFit s n (256 + spare) (trimSequence g (n + 1)) 0
  let gainFit := decide (64 ≤ (s.pair n).loSum (256 + spare) g)
  match spareCodes s n f gainFit with
  | some (a, b) =>
    if a < 0 || a > 1023 || b < -128 || b > 127 || (if gainFit then f.rough 35 100 else f.roughOffset 35 100) then none else some (a, b)
  | none => none

/-- A row of a column written into a spare from the row's copy, with segment 4's checksum (R82, R89 step 2). -/
def copyRowTo (col spare : Nat) (p : Pair) (row : Nat) : Pair :=
  let v := look 0 p.image (cell row col)
  let q := ({ p with d := put 0 p.d (cell row (256 + spare)) (v / 4) }).setLevel row (256 + spare) (v % 4)
  { q with cksum := put (plainChecksum row) q.cksum row (q.checksum row % 256 + rowChecksum q row / 256 * 256) }

/-- The column's rows written into a spare from their copies, with its lo-sums (R64, R89 step 2). -/
def copyColumn (col spare : Nat) (p : Pair) : Pair :=
  let q := (List.range 2048).foldl (copyRowTo col spare) p
  { q with los := putAll 0 q.los ((List.range 64).map (fun h =>
      (h * 512 + 256 + spare, sumOf ((List.range 32).map (fun i => q.level (32 * h + i) (256 + spare)))))) }

/-- A remap given up: its spare is spent, and the column starts again (R63, R88). -/
def spendSpare (n col spare : Nat) (s : State) : State :=
  onPair n (fun p => { p with
    remaps := p.remaps.filter (fun r => r.column != col),
    spares := p.spares.filter (fun e => e.1 != spare) ++ [(spare, { fused := (spareUse n p spare).fused, spent := true })] }) s

/-- REMAP_FETCH_DONE (R89 steps 2 and 3): the spare is written and trimmed; a spare that fails trim gives way to the next. -/
def effRemapFetchDone (p : PairId) (col : Nat) (s : State) : State :=
  let n := p.num
  if !upkeepOk s p 0 then s
  else
    match (s.pair n).remaps.find? (fun r => r.column == col && !r.fetched) with
    | none => s
    | some r =>
      let s1 := onPair n (copyColumn col r.spare) s
      let words := 24 * (aGroups s n).length
      let mark (t : TrimWord) (u : State) : State :=
        onPair n (fun q => { q.onTrim (256 + r.spare) (fun _ => t) with
          remaps := q.remaps.map (fun x => if x.column == col then { x with fetched := true } else x) }) u
      if holdsA s n then
        match trimSpare s1 n r.spare with
        | some (a, b) => mark { gain := a.toNat, offset := b, state := 1, base := a.toNat } (skipFree words s1)
        | none => startRemap n col r.trigger (spendSpare n col r.spare (raise (atPair 0x0103 n 0 0) (skipFree words s1)))
      else mark {} s1

/-- The repair map switched (R88, R89 step 4): the spare takes the column; the old column's trim word takes STATE 0b10 and
SPARE; a spare that served it before leaves use. -/
def switchMap (n : Nat) (r : Remap) (p : Pair) : Pair :=
  let old := physical n p r.column
  let left := if old < 256 then p.spares.filter (fun e => e.1 != r.spare)
    else p.spares.filter (fun e => e.1 != r.spare && e.1 != old - 256)
      ++ [(old - 256, { fused := (spareUse n p (old - 256)).fused, spent := true })]
  { p.onTrim old (fun t => { t with state := 2, spare := r.spare }) with
    spares := left ++ [(r.spare, { inUse := true, column := r.column })],
    remaps := p.remaps.filter (fun x => x.column != r.column) }

/-- REPAIR_MAP_SWITCH (R89, R90): at a sweep boundary on the pair. -/
def effRepairMapSwitch (p : PairId) (col : Nat) (s0 : State) : State :=
  let n := p.num
  if !upkeepOk s0 p 0 then s0
  else
    let s := arrayPasses s0
    match (s.pair n).remaps.find? (fun r => r.column == col && r.fetched) with
    | none => s
    | some r =>
      let s1 := bumpSat 0x000A0108 31 20 1 (raise (atPair 0x010B n 0 0) (onPair n (switchMap n r) s))
      let s2 := onTile p.tile (fun t => { t with cache := t.cache.filter (fun k =>
        !s.arr.regions.any (fun g => g.tile == p.tile && g.pairs.contains n && g.lead == k / 2048)) }) s1
      logHealth 1 [p.tile, p.pair, col, r.spare, r.trigger, s.ao] s2

/-- REFRESH_DUE (R80) -/
def execRefreshDue (p : PairId) (row : Nat) (s : State) : Host.Outcome State Fault Refusal := done (effRefreshDue p row s)
/-- REFRESH_DEADLINE (R80) -/
def execRefreshDeadline (p : PairId) (row : Nat) (s : State) : Host.Outcome State Fault Refusal := done (effRefreshDeadline p row s)
/-- REFRESH_ROW_DONE (R79) -/
def execRefreshRowDone (p : PairId) (row : SensedRow) (s : State) : Host.Outcome State Fault Refusal :=
  done (effRefreshRowDone p row.row row.wrong s)
/-- ROW_RELOAD_DONE (R83) -/
def execRowReloadDone (p : PairId) (row : Nat) (s : State) : Host.Outcome State Fault Refusal := done (effRowReloadDone p row s)
/-- REFRESH_BAND_FALL (R81) -/
def execRefreshBandFall (p : PairId) (s : State) : Host.Outcome State Fault Refusal := done (effRefreshBandFall p s)
/-- RECAL_AGE_DUE (R71) -/
def execRecalAgeDue (p : PairId) (s : State) : Host.Outcome State Fault Refusal := done (effRecalAgeDue p s)
/-- IDLE_WINDOW (R71) -/
def execIdleWindow  (s : State) : Host.Outcome State Fault Refusal := done (effIdleWindow s)
/-- FORCED_RECAL (R76) -/
def execForcedRecal (p : PairId) (s : State) : Host.Outcome State Fault Refusal := done (effForcedRecal p s)
/-- RECAL_PASS_DONE (R70) -/
def execRecalPassDone (p : PairId) (s : State) : Host.Outcome State Fault Refusal := done (effRecalPassDone p s)
/-- RECAL_RETRY (R70) -/
def execRecalRetry (p : PairId) (s : State) : Host.Outcome State Fault Refusal := done (effRecalRetry p s)
/-- REMAP_FETCH_DONE (R89) -/
def execRemapFetchDone (p : PairId) (col : Nat) (s : State) : Host.Outcome State Fault Refusal := done (effRemapFetchDone p col s)
/-- REPAIR_MAP_SWITCH (R89) -/
def execRepairMapSwitch (p : PairId) (col : Nat) (s : State) : Host.Outcome State Fault Refusal := done (effRepairMapSwitch p col s)

end Sys2Proof.Machine
end

