-- ==== Sys2Proof/Machine/Layout.lean ====
section
/-! DEFINITION. Where the store keeps a page: slots, homes, bands, striping and logical pages (R321 to R326, R338). -/

namespace Sys2Proof.Machine

/-- STATE of the store (Table STO-7): 0 discovering, 1 unformatted, 2 ready, 3 degraded, 4 refused. -/
def State.storeState (s : State) : Nat := s.field 0x00070000 31 29

/-- The store's state changed. -/
def onStore (f : Store → Store) (s : State) : State := { s with store := f s.store }

/-- A store object. -/
def State.object? (s : State) (id : Nat) : Option StoreObj := s.store.objects.find? (fun o => o.id == id)

/-- Blocks erased, saturating (R336, Table STO-7). -/
def addErases (n : Nat) (s : State) : State :=
  setWord 0x00070014 (BitVec.ofNat 32 (Nat.min (2 ^ 32 - 1) ((s.word 0x00070014).toNat + n))) s

/-! Slots (R321). -/

/-- A store page's home. -/
inductive Home where
  | page (region logical : Nat)
  | spill (handle layer place page : Nat)
  | parity (band row stripe : Nat)
  deriving DecidableEq, Repr

/-- A home's 16 bytes (DESIGN CHOICE, log entry 150). -/
def Home.bytes (h : Home) : List Byte :=
  beBytes 16 (Config.homeBits (match h with
    | .page r l => [0, r, l]
    | .spill a b c d => [1, a, b, c, d]
    | .parity b r t => [2, b, r, t])).toNat

/-- CRC-64/ECMA-182 with a byte more (PRESUMED, log entry 162). -/
def crcByte (c : BitVec 64) (b : Byte) : BitVec 64 :=
  (List.range 8).foldl (fun x _ => if x.msb then (x <<< 1) ^^^ 0x42F0E1EBA9EA3693#64 else x <<< 1) (c ^^^ (b.zeroExtend 64 <<< 56))

/-- The CRC of a page's DATA and its home. -/
def pageCrc (h : Home) (data : List Byte) : BitVec 64 := (data ++ h.bytes).foldl crcByte 0

/-- The column at which a slot begins. -/
def slotColumn (slot : Nat) : Nat := 4616 * slot

/-- A slot's 4,616 columns (Table STO-4): DATA, which is ciphertext, CRC and PARITY. -/
def slotColumns (h : Home) (data : List Byte) : List Byte :=
  let crc := beBytes 8 (pageCrc h data).toNat
  data ++ crc ++ beBytes 512 (Config.ldpcBits (data ++ crc)).toNat

/-- Does what a read found pass its CRC for the home it was read for? -/
def slotPasses (h : Home) (columns : List Byte) : Bool := (columns.drop 4096).take 8 == beBytes 8 (pageCrc h (columns.take 4096)).toNat

/-! Bands (R322, R325). -/

/-- Rows of a band. -/
def Store.rows (x : Store) : Nat :=
  match x.geometry with
  | some (pages, slots, _, _) => pages * slots
  | none => 1

/-- A row's NAND page in its blocks, and its slot there. -/
def Store.rowPlace (x : Store) (r : Nat) : Nat × Nat :=
  match x.geometry with
  | some (_, slots, _, _) => (r / slots, r % slots)
  | none => (r, 0)

/-- Data pages of a band (R324). -/
def Store.bandPages (x : Store) : Nat := Nat.max 1 (30 * x.rows)

/-- The bands of a region in the band table's order (R322, Table STO-5). -/
def Store.regionBands (x : Store) (region : Nat) : List Nat := (x.bands.filter (fun e => e.2 == region)).map Prod.fst

/-- Does a region have a logical page (R324)? -/
def Store.holdsPage (x : Store) (region page : Nat) : Bool := decide (page < (x.regionBands region).length * x.bandPages)

/-- The block of a band on a channel. -/
def Store.blockOf (x : Store) (band c : Nat) : NandBlock := look ⟨0, 0, 0⟩ x.table (band * 32 + c)

/-- A block's number among all blocks. -/
def NandBlock.key (c : Nat) (b : NandBlock) : Nat := ((c * 4 + b.ce) * 4 + b.lun) * 2 ^ 32 + b.block

/-- Erases of a band's 32 blocks together, which order bands as their mean does. -/
def Store.wear (x : Store) (band : Nat) : Nat := sumOf ((List.range 32).map (fun c => look 0 x.erases ((x.blockOf band c).key c)))

/-- Good blocks of a channel at the last discovery. -/
def Store.channelBlocks (x : Store) (c : Nat) : Nat := look 0 x.good c

/-- The good blocks of a LUN: neither marked at the factory nor grown bad (R330). -/
def Store.lunBlocks (x : Store) (l : LunReport) : List NandBlock :=
  ((List.range l.blocks).filter (fun b => !l.factoryBad.contains b)).map (fun b => ⟨l.ce.val, l.lun.val, b⟩)
    |>.filter (fun b => !x.bad.contains (l.channel.val, b))

/-- The good blocks of a channel among some LUNs. -/
def Store.blocksOf (x : Store) (luns : List LunReport) (c : Nat) : List NandBlock :=
  ((luns.filter (fun l => l.channel.val == c)).map x.lunBlocks).flatten

/-- A band erased: its 32 blocks count an erase each and their reads start again (R327, R332). -/
def eraseBand (band : Nat) (s : State) : State :=
  addErases 32 (onStore (fun x => { x with
    erases := (List.range 32).foldl (fun l c => change 0 l ((x.blockOf band c).key c) (· + 1)) x.erases
    reads := x.reads.filter (fun e => e.1 / 32 != band), dirty := takeOut x.dirty band }) s)

/-- Bands that are to be written: those that still hold something are erased first (R327). -/
def prepareBands (bands : List Nat) (s : State) : State :=
  (bands.filter s.store.dirty.contains).foldl (fun u b => eraseBand b u) s

/-! Striping and logical pages (R323, R324). -/

/-- The channel of a position in a row of a band under a salt. -/
def channelAt (salt band row x : Nat) : Nat :=
  let w := (Config.stripeBits salt band row).toNat
  ((2 * bits w 13 10 + 1) * (x ^^^ bits w 9 5) + bits w 4 0) % 32

/-- The striping salt of a band of a region: in MODEL that of the package whose pages it holds. -/
def Store.saltOf (x : Store) (region n : Nat) : Nat :=
  if region = 4 then
    match x.objects.find? (fun o => o.region == 4 && decide (o.first / x.bandPages ≤ n) && decide (n * x.bandPages < o.first + o.pages)) with
    | some o => o.salt
    | none => x.salt
  else x.salt

/-- Where a store page lies. -/
structure Place where
  band : Nat
  row : Nat
  pos : Nat
  salt : Nat
  deriving DecidableEq, Repr

/-- The place of a logical page of a region. -/
def Store.placeOf (x : Store) (region page : Nat) : Place :=
  let n := page / x.bandPages
  let q := page % 30
  { band := nthD 0 (x.regionBands region) n, row := page % x.bandPages / 30, pos := 16 * (q / 15) + q % 15, salt := x.saltOf region n }

/-- The place of the page that a row of a band keeps on a channel. -/
def Store.rowOf (x : Store) (band row c : Nat) : Place :=
  let region := look 0 x.bands band
  let salt := x.saltOf region (((List.range (x.regionBands region).length).find? (fun j => nthD 0 (x.regionBands region) j == band)).getD 0)
  { band := band, row := row, salt := salt, pos := (firstBelow 32 (fun p => channelAt salt band row p == c)).getD 0 }

/-- The channel of a position in a place's row. -/
def Place.channelOf (p : Place) (x : Nat) : Nat := channelAt p.salt p.band p.row x

/-- A place's block, as band × 32 + channel. -/
def Place.block (p : Place) : Nat := p.band * 32 + p.channelOf p.pos

/-- The blocks of the other 15 pages of a place's stripe: positions 0 to 15, or 16 to 31, the last its parity. -/
def Place.stripe (p : Place) : List Nat :=
  ((List.range 16).map (p.pos / 16 * 16 + ·)).filter (fun x => x != p.pos) |>.map (fun x => p.band * 32 + p.channelOf x)

/-! Keys (R326, R338). -/

/-- A key of the store: a package's, of its owner's slot and its root (Table SEC-2), the device store key, or the spill key of a session
with its key K. -/
inductive StoreKey where
  | package (slot root : Nat)
  | device
  | session (k : Nat)
  deriving DecidableEq, Repr

/-- An object's key; none while its package is not committed, when its root is not known yet. -/
def StoreObj.key (x : Store) (o : StoreObj) : Option StoreKey :=
  if o.region = 4 then (x.packages.find? (fun p => p.root == o.pkg && o.pkg != 0)).map (fun p => .package p.slot p.root)
  else some .device

end Sys2Proof.Machine
end

