-- ==== Sys2Proof/Machine/Chevik.lean ====
section
/-! DEFINITION. Chevik's keys, the attestation report and the handshake's secrets (R361, R407, R408, R423, R428). -/

namespace Sys2Proof.Machine

/-! Keys (R407, R408, R428). -/

/-- A label's ASCII bytes. -/
def label (t : String) : List Byte := t.toList.map (fun c => BitVec.ofNat 8 c.toNat)

/-- A digest's 64 bytes. -/
def digestBytes (n : Nat) : List Byte := beBytes 64 n

/-- HMAC with SHA-512. -/
def hmac (key msg : List Byte) : List Byte := digestBytes (Config.hmacBits key msg).toNat

/-- HKDF-Expand of RFC 5869 for at most 128 bytes (PRESUMED, log entry 161). -/
def hkdfExpand (prk info : List Byte) (n : Nat) : List Byte :=
  let t1 := hmac prk (info ++ [1#8])
  (t1 ++ hmac prk (t1 ++ info ++ [2#8])).take n

/-- DEVICE_SECRET: the copy whose flag is set (Table SEC-1). -/
def deviceSecret (s : State) : List Byte := beBytes 32 (Config.deviceSecret (s.sec.fuses.secretA != 2)).toNat

/-- A derived device key (R407). -/
def deviceKey (s : State) (info : List Byte) (n : Nat) : List Byte :=
  hkdfExpand (hmac (List.replicate 64 0#8) (deviceSecret s)) info n

/-- An uncompressed public key (R408). -/
def publicKey (private_ : List Byte) : List Byte := 4#8 :: beBytes 132 (Config.pointBits private_).toNat

/-- A signature, r ‖ s. -/
def sign (private_ : List Byte) (digest : Nat) : List Byte := beBytes 132 (Config.signBits private_ digest).toNat

/-- OWNER_KEY_HASH and the LC state byte. -/
def ownerAndState (s : State) : List Byte := digestBytes (ownerHash s) ++ beBytes 1 s.sec.fuses.groups

/-- The identity key's private bytes (Table SEC-2). -/
def dik (s : State) : List Byte := deviceKey s (label "chevik dik v1") 74
/-- The attestation key's. -/
def ak (s : State) : List Byte := deviceKey s (label "chevik ak v1" ++ ownerAndState s) 74
/-- The device store key. -/
def storeKey (s : State) : List Byte := deviceKey s (label "chevik store v1") 64
/-- The package key of a manifest root under an owner seed. -/
def packageKey (s : State) (seed root : Nat) : List Byte := deviceKey s (label "chevik pkg v1" ++ beBytes 32 seed ++ digestBytes root) 64
/-- A session's spill key (R428). -/
def spillKey (s : State) (k : Nat) : List Byte :=
  hkdfExpand (hmac (deviceKey s (label "chevik spill v1") 64) (beBytes 32 k)) (label "chevik spill v1") 64

/-- SHA-512 of this module's attestation public key (R384). -/
def akHash (s : State) : Nat := Config.sha512 (publicKey (ak s))

/-- The AK endorsement (R408). -/
def akEndorsement (s : State) : List Byte :=
  sign (dik s) (Config.sha512 (label "chevik ak v1" ++ beBytes 8 Config.serial ++ publicKey (ak s) ++ ownerAndState s))

/-- The last four bytes of a session's key entry, as a number (R425): generation, KIND and VALID; K and NB fill the others. -/
def keyWord (x : Session) : Nat := x.gen + 2 ^ 12 * x.kind + 2 ^ 14 * b01 x.keyed

/-! Store pages (R323, R338). -/

/-- The bytes of a key of the store. -/
def storeKeyBytes (s : State) : StoreKey → List Byte
  | .package slot root => packageKey s (((s.sec.fuses.owners[slot]?).map OwnerSlot.seed).getD 0) root
  | .device => storeKey s
  | .session k => spillKey s k

/-- A page's DATA as its slot holds it: encrypted with the page as the data unit and its home as the tweak (R338). -/
def pageCipher (s : State) (k : StoreKey) (h : Home) (data : List Byte) : List Byte :=
  beBytes 4096 (Config.xtsBits (storeKeyBytes s k) h.bytes data).toNat

/-- The columns of a page of data in its slot. -/
def pageColumns (s : State) (k : StoreKey) (h : Home) (data : List Byte) : List Byte := slotColumns h (pageCipher s k h data)

/-- A stripe's parity page: the XOR of the ciphertext of its 15 data pages. -/
def stripeParity (pages : List (List Byte)) : List Byte :=
  pages.foldl (fun a p => List.zipWith (· ^^^ ·) a p) (List.replicate 4096 0#8)

/-! The attestation report (R423). -/

/-- PROG_DIGEST: over the loaded service programs in ascending id. -/
def progDigest (s : State) : Nat :=
  Config.sha512 ((sortBy Program.id (s.programs.filter (fun p => !p.firmware))).map (fun p => beBytes 1 p.id ++ digestBytes p.digest)).flatten

/-- PKG_SVN: the loaded package's, 0 with none. -/
def pkgSvn (s : State) : Nat :=
  if s.bat.model.isNone then 0 else ((s.store.packages.find? (fun p => p.root == s.modelRoot)).map Package.svn).getD 0

/-- The 860 bytes of Table SEC-7, of this module's state now, for a CLIENT_NONCE. -/
def report (s : State) (nonce : List Byte) : List Byte :=
  let f := s.sec.fuses
  beBytes 4 0x43564B41 ++ beBytes 2 1 ++ beBytes 1 f.groups ++ beBytes 1 (b01 s.sec.debug + 2 * b01 (s.fstate != 0)) ++ beBytes 8 Config.serial
    ++ beBytes 4 Config.romVersion.toNat ++ beBytes 4 (s.word 0x00010014).toNat ++ beBytes 4 f.fwMin ++ beBytes 4 f.svcMin ++ beBytes 4 (pkgSvn s)
    ++ beBytes 4 f.pkgMin ++ digestBytes s.sec.fwDigest ++ digestBytes (progDigest s) ++ digestBytes s.modelRoot ++ digestBytes (ownerHash s)
    ++ nonce ++ publicKey (ak s) ++ akEndorsement s ++ publicKey (dik s) ++ beBytes 132 Config.dikCertBits.toNat
    ++ beBytes 2 Config.productCa.toNat

/-- Do a peer's report's own fields fit (R386)? Its nonce, its attestation key under the entry's hash, and the roots and owners equal; what it
takes to verify it is the command's verdict. -/
def reportFits (s : State) (rep nonce : List Byte) (entryHash : Nat) : Bool :=
  beAt rep 0 4 == 0x43564B41 && (rep.drop 296).take 32 == nonce && Config.sha512 ((rep.drop 328).take 133) == entryHash
    && beAt rep 168 64 == s.modelRoot && beAt rep 232 64 == ownerHash s

/-! The handshake's secrets (R361). -/

/-- TH: over the OPEN's payload and the ACCEPT's before SIG. -/
def transcript (open_ before : List Byte) : Nat := Config.sha512 (open_ ++ before)

/-- K and NB from TH, this side's ephemeral private key and the other side's share. -/
def sessionKeys (th : Nat) (eph share : List Byte) : Nat × Nat :=
  let prk := hmac (digestBytes th) (beBytes 66 (Config.ecdhBits eph share).toNat)
  (beNat (hkdfExpand prk (label "pelet v1 key") 32), beNat (hkdfExpand prk (label "pelet v1 iv") 12))

end Sys2Proof.Machine
end

