-- ==== Sys2Proof/Machine/Store.lean ====
section
/-! DEFINITION. The weight store: reads and writes of objects, patrol, relocation, wear and the spill allowance (R250, R317,
R326 to R336, R339). -/

namespace Sys2Proof.Machine

/-! Objects (R326, R327). -/

/-- Bytes of an object from an offset; zero at and beyond its write point (R327). -/
def objectBytes (s : State) (o : StoreObj) (off n : Nat) : List Byte :=
  (List.range n).map (fun k => if off + k < o.writePoint * 4096 then look 0#8 s.store.data (o.id * 2 ^ 40 + off + k) else 0#8)

/-- Bytes written to an object from an offset, padded to whole pages (R250). -/
def writeObject (id off : Nat) (bs : List Byte) (s : State) : State :=
  let padded := bs ++ List.replicate (ceilDiv bs.length 4096 * 4096 - bs.length) 0#8
  onStore (fun x => { x with
    data := putAll 0#8 x.data (run (id * 2 ^ 40 + off) padded)
    objects := x.objects.map (fun o => if o.id = id then { o with writePoint := off / 4096 + ceilDiv bs.length 4096 } else o)
    dirty := match x.objects.find? (fun o => o.id == id) with
      | some o => ((List.range (ceilDiv bs.length 4096)).map (fun k => (x.placeOf o.region (o.first + off / 4096 + k)).band)).foldl addOnce x.dirty
      | none => x.dirty }) s

/-! Reading and its escalation (R328, R329, R332). -/

/-- A block waits for relocation: by band × 32 + channel, with its cause: 1 read disturb, 2 patrol margin, 3 a recovered read
(R331). -/
def queueRelocation (block cause : Nat) (s : State) : State :=
  onStore (fun x => { x with relocating := if x.relocating.any (fun e => e.1 == block) then x.relocating else x.relocating ++ [(block, cause)] }) s

/-- Page reads of a block counted since its last erase; RD_LIMIT thousand relocate the block (R332). -/
def countBlock (s : State) (block : Nat) : State :=
  let n := look 0 s.store.reads block + 1
  let s1 := onStore (fun x => { x with reads := put 0 x.reads block n }) s
  if s.field 0x0007000C 27 12 * 1000 ≤ n then queueRelocation block 1 s1 else s1

/-- The step that a read of a page reaches: on a failed channel it goes straight to step 5 (R332). -/
def readStepAt (s : State) (block step : Nat) : Nat := if s.store.failed.contains (block % 32) then Nat.max 5 step else step

/-- A page read of a block, with those of its stripe if it came to that, counted by the step it reached (Table STO-6, R329, R332). -/
def countAt (block : Nat) (stripe : List Nat) (step : Nat) (s : State) : State :=
  let k := readStepAt s block step
  let s0 := (if 5 ≤ k then stripe else []).foldl countBlock (countBlock s block)
  let s1 := if 2 ≤ k then bump 0x00070018 1 s0 else s0
  let s2 := if 3 ≤ k then bump 0x0007001C 1 s1 else s1
  let s3 := if 5 ≤ k then bump 0x00070020 1 s2 else s2
  let s4 := if 6 ≤ k then bump 0x00070024 1 s3 else s3
  raiseAll ((if 3 ≤ k then [{ code := 0x0604 }] else []) ++ (if 6 ≤ k then [{ code := 0x0605 }] else [])) (if 3 ≤ k then queueRelocation block 3 s4 else s4)

/-- A read of a logical page of a region counted (R324, R328). -/
def countRead (region page step : Nat) (s : State) : State :=
  let p := s.store.placeOf region page
  countAt p.block p.stripe step s

/-- A read of 16 consecutive pages counted, of which the first is the one that escalated (DESIGN CHOICE, log entry 40). -/
def countSlot (region page step : Nat) (s : State) : State :=
  (List.range 15).foldl (fun u i => countRead region (page + 1 + i) 1 u) (countRead region page step s)

/-- A channel marked failed: the store is degraded (R320, R332). -/
def failChannel (ch : Nat) (s : State) : State :=
  if s.store.failed.contains ch ∨ 32 ≤ ch then s
  else
    let s1 := setField (0x00070100 + 4 * ch) 31 29 2 (onStore (fun x => { x with failed := x.failed ++ [ch] }) s)
    let s2 := if s1.storeState = 2 then setField 0x00070000 31 29 3 s1 else s1
    raise ⟨0x0603, 0, 0, 5, ch, 0⟩ s2

/-- A failed channel, where the event names one. -/
def maybeFail (ch : Option Nat) (s : State) : State :=
  match ch with
  | some c => failChannel c s
  | none => s

/-! STORE.READ and STORE.WRITE (R250, R327, Table STI-3). -/

/-- STORE.READ. -/
def effStoreRead (t : Who) (w : Head) (s : State) : State :=
  issue t (tensor 0x89 w [] true true false (need (fld w 20 0 == 0)))
    (fun s =>
      let tag := fld w 49 41
      let ro := fld w 32 27
      operands s t [fld w 40 33] tag (fun ds =>
        match ds with
        | [dst] =>
          let id := (s.g t ro).toNat % 2 ^ 32
          let rf := (s.g t (fld w 26 21)).toNat
          let pid := (s.thr t.num).program
          if !dst.wr then refuse 1 (fld w 40 33) tag
          else if !(s.object? id).any (fun o => o.grants.contains pid && decide (rf * 4096 + dst.imageBytes ≤ o.pages * 4096)) then
            refuse 4 ro tag
          else launch s t tag [fld w 40 33] (.storeRead dst id rf)
        | _ => .fail 0x15 0 0 tag)) s

/-- STORE_READ_DONE (R250, R327, R328): the image is filled; an unrecoverable page faults the transaction. Only pages of the transfer
below the write point are read at all. -/
def effStoreReadDone (c : Fin 20) (tag : Fin 512) (reads : List PageRead) (failed : Option Nat) (s : State) : State :=
  match s.tx? c.val tag.val with
  | some x =>
    match x.op with
    | .storeRead dst id rf =>
      match s.object? id with
      | some o =>
        let mine := reads.filter (fun r => decide (rf ≤ r.page) && decide (r.page < rf + ceilDiv dst.imageBytes 4096) && decide (r.page < o.writePoint))
        let s1 := mine.foldl (fun u r => countRead o.region (o.first + r.page) r.step u) (maybeFail failed s)
        match mine.find? (fun r => decide (6 ≤ r.step)) with
        | some r => faultTx x 0x0605 id r.page s1
        | none => finish x [] { writes := imageWrites dst (objectBytes s o (rf * 4096) dst.imageBytes) } s1
      | none => faultTx x 0x0605 id rf s
    | _ => s
  | none => s

/-- STORE.WRITE. -/
def effStoreWrite (t : Who) (w : Head) (s : State) : State :=
  issue t (tensor 0x8A w [] true true false (need (fld w 20 0 == 0)))
    (fun s =>
      let tag := fld w 49 41
      let ro := fld w 32 27
      operands s t [fld w 40 33] tag (fun ds =>
        match ds with
        | [src] =>
          let id := (s.g t ro).toNat % 2 ^ 32
          let rf := (s.g t (fld w 26 21)).toNat
          let pid := (s.thr t.num).program
          let ahead := sumOf (s.txs.map (fun x => match x.op with
            | .storeWrite d id' _ => if id' = id then ceilDiv d.imageBytes 4096 else 0
            | _ => 0))
          if !(s.object? id).any (fun o => o.openWrite && o.grants.contains pid && rf == o.writePoint + ahead
              && decide (rf * 4096 + src.imageBytes ≤ o.pages * 4096)) then refuse 4 ro tag
          else launch s t tag [fld w 40 33] (.storeWrite src id rf)
        | _ => .fail 0x15 0 0 tag)) s

/-- Is a write the first of its object's in order of issue (R231)? -/
def firstWrite (s : State) (x : Tx) (id : Nat) : Bool :=
  (s.txs.find? (fun y => match y.op with
    | .storeWrite _ id' _ => id' == id
    | _ => false)).any (fun y => y.num == x.num)

/-- STORE_WRITE_DONE (R231, R250): a write into SPILL is refused with the spills (R336) (DEDUCED, log entry 152). -/
def effStoreWriteDone (c : Fin 20) (tag : Fin 512) (failedUnit failed : Option Nat) (s : State) : State :=
  match s.tx? c.val tag.val with
  | some x =>
    match x.op with
    | .storeWrite src id rf =>
      if !firstWrite s x id then s
      else
        match unstagedPage s src with
        | some page => softFault x page s
        | none =>
          let s1 := maybeFail failed s
          if (s.object? id).any (fun o => o.region == 3) && (s.storeState != 2 || decide (s.store.credit < 65536)) then
            faultTx x 0x0608 id rf (raise { code := 0x0608 } s1)
          else match failedUnit with
          | some u => faultTx x 0x0606 id u (raise { code := 0x0606 } s1)
          | none => finish x [src] {} (writeObject id (rf * 4096) (imageBytes s.mem src) s1)
    | _ => s
  | none => s

/-! Keeping the media (R317, R330 to R333, R335, R339). -/

/-- ZQ_SHORT (R317): every 100 ms. -/
def effZqShort (s : State) : State :=
  let s1 := reach (s.store.zqAt + 100 * msHalves) s
  onStore (fun x => { x with zqAt := s1.now }) s1

/-- PATROL_READ (R333): a page of a MODEL, HEALTH or FIRMWARE block; a margin or a recovery queues its block. -/
def effPatrolRead (region : Nat) (r : PageRead) (s : State) : State :=
  if region = 3 ∨ region = 0 ∨ 4 < region ∨ !s.store.holdsPage region r.page then s
  else
    let p := s.store.placeOf region r.page
    let s1 := onStore (fun x => { x with patrols := put 0 x.patrols p.block s.now, late := takeOut x.late p.block })
      (countRead region r.page r.step s)
    if r.step = 2 ∧ s.field 0x00070008 21 14 < r.corrected then queueRelocation p.block 2 s1 else s1

/-- Is a band of a region under patrol (R333)? -/
def patrolled (s : State) (region band : Nat) : Bool := region != 3 && s.store.bands.contains (band, region)

/-- PATROL_OVERDUE (R333): the last patrol of a block is PATROL_DAYS old. -/
def effPatrolOverdue (region band channel : Nat) (s : State) : State :=
  let k := band * 32 + channel
  if !patrolled s region band || decide (32 ≤ channel) || s.store.late.contains k then s
  else
    let s1 := reach (look 0 s.store.patrols k + s.field 0x0007000C 31 28 * 86400 * sHalves) s
    raise { code := 0x060B } (onStore (fun x => { x with late := x.late ++ [k] }) s1)

/-- CH_SPARES shows a channel's spare blocks (Table STO-7). -/
def showSpares (c : Nat) (s : State) : State := setField (0x00070100 + 4 * c) 20 0 (look [] s.store.spares c).length s

/-- A block of a band replaced by the next spare of its channel (R330, R331); none where no spare is left. -/
def takeSpare (band c : Nat) (s : State) : Option State :=
  match look [] s.store.spares c with
  | b :: r => some (onStore (fun x => { x with
      table := put ⟨0, 0, 0⟩ x.table (band * 32 + c) b, spares := put [] x.spares c r, reads := put 0 x.reads (band * 32 + c) 0 }) s)
  | [] => none

/-- Reads of a block's pages for a copy of it, each named by its row (R328, R331). -/
def countRows (band c : Nat) (reads : List PageRead) (s : State) : State :=
  reads.foldl (fun u r => countAt (band * 32 + c) (s.store.rowOf band r.page c).stripe r.step u) s

/-- RELOCATION_DONE (R331): the block is read, the band table switched to a spare; the old block is erased and returned to the spares. -/
def effRelocationDone (band channel : Nat) (reads : List PageRead) (s0 : State) : State :=
  let k := band * 32 + channel
  match s0.store.relocating.find? (fun e => e.1 == k) with
  | some (_, cause) =>
    let s := countRows band channel reads s0
    let old := s.store.blockOf band channel
    match takeSpare band channel s with
    | some u =>
      let n := (s.field 0x00070028 15 0 + 1) % 65536
      raise { code := 0x0607, info0 := cause }
        (addErases 1 (setField 0x00070028 15 0 n
          (onStore (fun x => { x with
            relocating := x.relocating.filter (fun e => e.1 != k)
            spares := change [] x.spares channel (· ++ [old]), erases := change 0 x.erases (old.key channel) (· + 1) }) u)))
    | none => s
  | none => s0

/-- HOT_CHANNEL_CHECK (R339): queues held for 10 ms. -/
def effHotChannelCheck (queues : List Nat) (s : State) : State :=
  if queues.any (fun q => decide (4 * sumOf queues < q * queues.length)) then raise { code := 0x060A } s else s

/-! The spill allowance (R336). -/

/-- SPILL_CREDIT shows the whole erases. -/
def showCredit (s : State) : State :=
  setWord 0x00070010 (BitVec.ofNat 32 (Nat.min (2 ^ 32 - 1) (s.store.credit / 65536).toNat)) s

/-- One hour's addition in 2^−16 of a band erase. -/
def hourlyCredit (s : State) : Int :=
  match s.store.geometry with
  | some (_, _, p, b) =>
    let e : Int := (s.word 0x00070014).toNat
    (65536 * ((9 * b * p : Nat) - 10 * e)) / (320 * (Nat.max 1 (43830 - s.store.hours) : Nat))
  | none => 0

/-- SPILL_CREDIT_HOURLY (R336). -/
def effSpillCreditHourly (s0 : State) : State :=
  let s := reach (s0.store.hourAt + 3600 * sHalves) s0
  let a := hourlyCredit s
  showCredit (onStore (fun x => { x with hours := x.hours + 1, hourAt := s.now, credit := min (x.credit + a) (168 * a) }) s)

/-- Are spills refused (R332, R336, R378): the store not ready, or the allowance below 1? -/
def spillRefused (s : State) : Bool := s.storeState != 2 || decide (s.store.credit < 65536)

/-! The spill log (R334). Bands of SPILL are numbered in the band table's order: slot n lies in band n div slots per band. -/

/-- Spill slots of a band. -/
def Store.bandSlots (x : Store) : Nat := Nat.max 1 (x.bandPages / 16)

/-- Is a band of SPILL live: does a slot in it hold a page, or an entry name one? -/
def bandLive (s : State) (j : Nat) : Bool :=
  s.kv.slots.any (fun e => e.1 / s.store.bandSlots == j)
    || s.kv.ptes.any (fun e => (e.2.state == 2 || e.2.state == 3) && e.2.loc / s.store.bandSlots == j)

/-- The wear of a band of SPILL. -/
def Store.spillWear (x : Store) (j : Nat) : Nat := x.wear (nthD 0 (x.regionBands 3) j)

/-- A band of SPILL erased: one from the allowance, 32 blocks (R334, R336). -/
def eraseSpillBand (j : Nat) (s : State) : State :=
  showCredit (eraseBand (nthD 0 (s.store.regionBands 3) j) (onStore (fun x => { x with credit := x.credit - 65536, written := takeOut x.written j }) s))

/-- The free band the log head takes next: the one with the lowest erase count (DEDUCED, log entry 39). -/
def freeSpillBand (s : State) : Option Nat :=
  (sortBy s.store.spillWear ((List.range (s.store.regionBands 3).length).filter (fun j => !bandLive s j))).head?

/-- The next slot of the log, and the state in which it is written; none where the head is full and no band is free. A band written
before is erased as the head takes it (DEDUCED, log entry 39). -/
def takeLogSlot (s : State) : Option (Nat × State) :=
  let per := s.store.bandSlots
  let fresh : Option (Nat × State) := (freeSpillBand s).map (fun j =>
    (j * per, onStore (fun x => { x with head := some j, logSlots := 1, written := addOnce x.written j })
      (if s.store.written.contains j then eraseSpillBand j s else s)))
  match s.store.head with
  | some j => if s.store.logSlots < per then some (j * per + s.store.logSlots, onStore (fun x => { x with logSlots := x.logSlots + 1 }) s) else fresh
  | none => fresh

/-- One live slot copied to the head: entries that still name it follow (R334). -/
def moveSlot (old : Nat) (s : State) : State :=
  match s.kv.slots.find? (fun e => e.1 == old), takeLogSlot s with
  | some (_, bs), some (new, s1) =>
    { s1 with kv := { s1.kv with
      slots := put [] (put [] s1.kv.slots old []) new bs
      ptes := s1.kv.ptes.map (fun e => if e.2.state = 2 ∧ e.2.loc = old then (e.1, { e.2 with loc := new }) else e) } }
  | _, _ => s

/-- A band leaves its region, whose later bands move up: the pages it held are those of the bands that follow, and the slots of the
region's last places move to the log's head if the region is SPILL (R330) (DEDUCED, log entry 99). -/
def dropBand (band : Nat) (s : State) : State :=
  let s1 := onStore (fun x => { x with bands := x.bands.filter (fun e => e.1 != band) }) s
  if look 0 s.store.bands band = 3 then
    let n := (s1.store.regionBands 3).length
    let s2 := onStore (fun x => { x with head := if x.head = some n then none else x.head, written := takeOut x.written n }) s1
    ((s2.kv.slots.map Prod.fst).filter (fun k => k / s2.store.bandSlots == n
      && !s2.kv.ptes.any (fun e => e.2.state == 3 && e.2.loc == k))).foldl (fun u k => moveSlot k u) s2
  else s1

/-- NAND_OP_FAIL (R330): the block is grown bad; its pages are rebuilt from their stripes into a spare that takes its place. Without a
spare its band leaves its region, its pages moved first. -/
def effNandOpFail (band channel : Nat) (reads : List PageRead) (s0 : State) : State :=
  if 32 ≤ channel ∨ !s0.store.bands.any (fun e => e.1 == band) then s0
  else
    let s := countRows band channel reads s0
    let b := s.store.blockOf band channel
    let s1 := bumpSat 0x00070028 31 16 1 (onStore (fun x => { x with bad := x.bad ++ [(channel, b)] }) s)
    let s2 := raise ⟨0x0606, 0, 0, 5, channel + b.ce * 32 + b.lun * 128, 0⟩ s1
    let s3 := match takeSpare band channel s2 with
      | some u => showSpares channel u
      | none => dropBand band s2
    if 400 * (look [] s3.store.spares channel).length < s.store.channelBlocks channel then raise ⟨0x0609, 0, 0, 5, channel, 0⟩ s3 else s3

/-- SPILL_GC (R334): of the bands written, but for the head, the one with the fewest live slots; it is erased when no slot in it is
live and no fetch reads it. A slot with an unrecoverable page stays where it is, and its fetch fails (R300) (DEDUCED, log entry 39). -/
def effSpillGc (reads : List PageRead) (s0 : State) : State :=
  let s := reads.foldl (fun u r => countRead 3 r.page r.step u) s0
  let bad (n : Nat) : Bool := reads.any (fun r => decide (6 ≤ r.step) && r.page / 16 == n)
  let live (b : Nat) : List Nat := (s.kv.slots.map Prod.fst).filter (fun n => n / s.store.bandSlots == b)
  match (sortBy (fun b => (live b).length) (s.store.written.filter (fun b => s.store.head != some b))).head? with
  | some b =>
    if s.kv.ptes.any (fun e => e.2.state == 3 && e.2.loc / s.store.bandSlots == b) then s
    else
      let u := ((live b).filter (fun n => !bad n)).foldl (fun u n => moveSlot n u) s
      if bandLive u b then u else eraseSpillBand b u
  | none => s

/-- STATIC_LEVELLING (R335): where the erase counts of the store's bands differ by more than 500, the least worn MODEL band's pages move
to a free band of SPILL with the most wear, which takes its place in the table; the vacated band goes to SPILL (DEDUCED, log entry 97). -/
def effStaticLevelling (reads : List PageRead) (s0 : State) : State :=
  let s := reads.foldl (fun u r => countRead 4 r.page r.step u) s0
  let count (b : Nat) : Nat := s.store.wear b
  let all := sortBy count (s.store.bands.map Prod.fst)
  let models := sortBy count (s.store.regionBands 4)
  let idle := (List.range (s.store.regionBands 3).length).filter (fun j => !bandLive s j && s.store.head != some j)
  match all.head?, all.getLast?, models.head?, (sortBy s.store.spillWear idle).getLast? with
  | some low, some high, some m, some j =>
    if 32 * 500 < count high - count low ∧ count m < s.store.spillWear j then
      let worn := nthD 0 (s.store.regionBands 3) j
      let s1 := if s.store.written.contains j then eraseBand worn s else s
      onStore (fun x => { x with
        dirty := if x.dirty.contains m then addOnce (takeOut x.dirty m) worn else x.dirty
        bands := x.bands.map (fun e => if e.1 = m then (worn, e.2) else if e.1 = worn then (m, e.2) else e)
        written := addOnce x.written j }) s1
    else s
  | _, _, _, _ => s

/-- STORE_READ (R250). -/
def execStoreRead (t : Who) (w : Head) (s : State) : Host.Outcome State Fault Refusal := done (effStoreRead t w s)
/-- STORE_READ_DONE (R328). -/
def execStoreReadDone (c : Fin 20) (tag : Fin 512) (reads : List PageRead) (failedChannel : Option Nat) (s : State) : Host.Outcome State Fault Refusal := done (effStoreReadDone c tag reads failedChannel s)
/-- STORE_WRITE (R250). -/
def execStoreWrite (t : Who) (w : Head) (s : State) : Host.Outcome State Fault Refusal := done (effStoreWrite t w s)
/-- STORE_WRITE_DONE (R250). -/
def execStoreWriteDone (c : Fin 20) (tag : Fin 512) (failedUnit failedChannel : Option Nat) (s : State) : Host.Outcome State Fault Refusal := done (effStoreWriteDone c tag failedUnit failedChannel s)
/-- ZQ_SHORT (R317). -/
def execZqShort  (s : State) : Host.Outcome State Fault Refusal := done (effZqShort s)
/-- PATROL_READ (R333). -/
def execPatrolRead (region : Nat) (read : PageRead) (s : State) : Host.Outcome State Fault Refusal := done (effPatrolRead region read s)
/-- PATROL_OVERDUE (R333). -/
def execPatrolOverdue (region band channel : Nat) (s : State) : Host.Outcome State Fault Refusal := done (effPatrolOverdue region band channel s)
/-- RELOCATION_DONE (R331). -/
def execRelocationDone (band : Nat) (block : BlockReads) (s : State) : Host.Outcome State Fault Refusal :=
  done (effRelocationDone band block.channel block.reads s)
/-- NAND_OP_FAIL (R330). -/
def execNandOpFail (band : Nat) (block : BlockReads) (s : State) : Host.Outcome State Fault Refusal :=
  done (effNandOpFail band block.channel block.reads s)
/-- SPILL_CREDIT_HOURLY (R336). -/
def execSpillCreditHourly  (s : State) : Host.Outcome State Fault Refusal := done (effSpillCreditHourly s)
/-- SPILL_GC (R334). -/
def execSpillGc (s : State) : Host.Outcome State Fault Refusal := done (effSpillGc (Config.freeReads s.free) (skipFree 1 s))
/-- STATIC_LEVELLING (R335). -/
def execStaticLevelling (s : State) : Host.Outcome State Fault Refusal :=
  done (effStaticLevelling (Config.freeReads s.free) (skipFree 1 s))
/-- HOT_CHANNEL_CHECK (R339). -/
def execHotChannelCheck (queues : List Nat) (s : State) : Host.Outcome State Fault Refusal := done (effHotChannelCheck queues s)

end Sys2Proof.Machine
end

