-- ==== Sys2Proof/Machine/Session.lean ====
section
/-! DEFINITION. Sessions: slots, messages and their datagrams, streams and statuses, the end of a generation, closing
(R349 to R359, R366 to R379). -/

namespace Sys2Proof.Machine

/-! Slots and handles (R359, R363). -/

/-- A session slot's state. -/
def State.sess (s : State) (i : Nat) : Session := look {} s.net.sessions i

/-- The port's state changed. -/
def onNet (f : Net → Net) (s : State) : State := { s with net := f s.net }

/-- A session replaced. -/
def setSess (i : Nat) (x : Session) (s : State) : State := onNet (fun n => { n with sessions := put {} n.sessions i x }) s

/-- A session changed. -/
def onSess (i : Nat) (f : Session → Session) (s : State) : State := setSess i (f (s.sess i)) s

/-- A session's handle. -/
def State.handle (s : State) (i : Nat) : Nat := i * 4096 + (s.sess i).gen

/-- The slot a live handle names. -/
def State.live? (s : State) (h : Nat) : Option Nat :=
  let x := s.sess (h / 4096)
  if x.state ≠ .free ∧ x.gen = h % 4096 then some (h / 4096) else none

/-- A slot's history. -/
def State.slotHist (s : State) (i : Nat) : SlotHist := look {} s.net.slots i

/-- The next slot to issue (R359): one never released, the lowest first, else the oldest released past its wait. -/
def freeSlot (s : State) : Option Nat :=
  match firstBelow (s.net.sessions.length + s.net.slots.length + 1)
      (fun i => decide (i < 1048576) && (s.sess i).state == .free && (s.slotHist i).freedAt.isNone) with
  | some i => some i
  | none =>
    let ok := s.net.slots.filter (fun e => (s.sess e.1).state == .free &&
      match e.2.freedAt with
      | some t => decide (t + (if e.2.wrapped then 600 else 10) * sHalves ≤ s.now)
      | none => false)
    (sortBy (fun e => e.2.freedAt.getD 0) ok).head?.map Prod.fst

/-- Slots free by R359. -/
def freeSlots (s : State) : Nat :=
  1048576 - s.net.sessions.length - (s.net.slots.filter (fun e => (s.sess e.1).state == .free &&
    match e.2.freedAt with
    | some t => decide (s.now < t + (if e.2.wrapped then 600 else 10) * sHalves)
    | none => false)).length

/-- A session's KV pages, page tables, spill slots and unspilled plans given up (R296, R376, R378). -/
def freeKv (i : Nat) (s : State) : State :=
  let mine := s.kv.ptes.filter (fun e => e.1 / 2 ^ 20 == i)
  let pages := (mine.filter (fun e => e.2.state == 1)).map (fun e => e.2.loc) ++ (s.sess i).ptPages
  let slots := (mine.filter (fun e => e.2.state == 2 || e.2.state == 3)).map (fun e => e.2.loc)
  { onSess i (fun x => { x with ptPages := [] }) s with
    kv := { s.kv with ptes := s.kv.ptes.filter (fun e => e.1 / 2 ^ 20 != i)
                      used := s.kv.used.filter (fun p => !pages.contains p)
                      slots := s.kv.slots.filter (fun e => !slots.contains e.1) }
    store := { s.store with spilling := s.store.spilling.filter (fun k => k / 2 ^ 20 != i) } }

/-- A session's slot released with its generation advanced; its keys are destroyed and its KV freed (R359, R376) (DEDUCED, log entry 38). -/
def releaseSession (i : Nat) (s : State) : State :=
  let s1 := freeKv i s
  let g := (s.sess i).gen
  let wrap := decide (0xFFE ≤ g)
  onNet (fun n => { n with
    sessions := put {} n.sessions i {}
    slots := put {} n.slots i { gen := if wrap then 1 else g + 1, freedAt := some s.now, wrapped := wrap } }) s1

/-! Sending (R351, R354, R356, R358). -/

/-- The largest packet for a new session (R345, R346): MTU, and on IPv6 the router's MTU option, never below 1,280. -/
def linkMtu (s : State) (ipv4 : Bool) : Nat :=
  let m := s.field 0x0005000C 13 0
  if ipv4 then m else Nat.max 1280 (Nat.min m (s.net.raMtu.getD m))

/-- Payload bytes of a datagram (R351). -/
def Session.room (x : Session) : Nat := x.pmtu - (if x.ipv4 then 76 else 96)

/-- A message cut into datagrams; an empty one takes one datagram. -/
def cut (room first typ : Nat) (payload : List Byte) (last : Bool) : List Dgram :=
  let parts := if payload.isEmpty then [[]] else chunks (Nat.max 1 room) payload
  let n := parts.length
  (List.range n).map (fun k =>
    { seq := first + k, typ := typ, payload := nthD [] parts k,
      flags := (if k = 0 then 0x8000 else 0) + (if k + 1 = n then 0x4000 + (if last then 0x2000 else 0) else 0) })

/-- The window this side advertises (R354): RX_WIN_MAX less the datagrams it holds for the session (DEDUCED, log entry 37). -/
def Session.window (max : Nat) (x : Session) : Nat := max - (x.parts.length + x.inbox.length)

/-- SACK (Table NET-5): bit i says that datagram RX_NEXT + 1 + i was received. -/
def Session.sack (x : Session) : Nat :=
  sumOf ((x.parts.filter (fun p => decide (x.rxNext < p.seq) && decide (p.seq ≤ x.rxNext + 64))).map (fun p => 2 ^ (p.seq - x.rxNext - 1)))

/-- Message types (Table NET-6). -/
def typData : Nat := 3
/-- STREAM. -/
def typStream : Nat := 4
/-- CTRL. -/
def typCtrl : Nat := 5
/-- CLOSE. -/
def typClose : Nat := 6
/-- PEER. -/
def typPeer : Nat := 7
/-- MGMT. -/
def typMgmt : Nat := 8

/-- Transactions waiting to receive on a closing session complete FAULTED (R377). -/
def faultReceives (h : Nat) (s : State) : State :=
  let xs := s.txs.filter (fun x => match x.op with
    | .netRecv _ h' _ => h' == h
    | _ => false)
  xs.foldl (fun u x => faultTx x 0x0802 h 0 (raise (atSession 0x0802 h h 0) u)) s

/-- A close begins (R376): the CLOSE is queued, its status kept, and the session's receives end. -/
def beginClose (i status : Nat) (s : State) : State :=
  let x := s.sess i
  if x.state = .free ∨ x.state = .closing then s
  else
    let d : Dgram := { seq := x.txNext, typ := typClose, flags := 0xC000, payload := beBytes 2 status }
    faultReceives (s.handle i)
      (setSess i { x with state := .closing, closeStatus := status, closeExpiries := 0, generating := false,
                          out := x.out.filter (fun e => e.sends != 0) ++ [d], txNext := x.txNext + 1 } s)

/-- A message queued on a session; one that would pass the last SEQ closes it instead (R358). -/
def sendMsg (i typ : Nat) (payload : List Byte) (last : Bool) (s : State) : State :=
  let x := s.sess i
  if x.state = .free ∨ x.state = .closing then s
  else
    let ds := cut x.room x.txNext typ payload last
    if 0xFFFFFFFE < x.txNext + ds.length then beginClose i 0x0013 s
    else setSess i { x with out := x.out ++ ds, txNext := x.txNext + ds.length } s

/-- A CTRL STATUS with 12 bytes of detail (Table NET-13). -/
def sendStatus (i code : Nat) (detail : List Byte) (s : State) : State :=
  sendMsg i typCtrl ([0x81#8] ++ beBytes 2 code ++ (detail ++ List.replicate 12 0#8).take 12) false s

/-- A MGMT reply: a 16-byte header that echoes OP and carries the STATUS, then data (R380). -/
def sendReply (i op status : Nat) (data : List Byte) (s : State) : State :=
  sendMsg i typMgmt (beBytes 2 op ++ beBytes 2 status ++ List.replicate 12 0#8 ++ data) false s

/-! Generation (R372, R373). -/

/-- A STREAM of the bytes not yet sent; the last of a generation carries END and STREAM_END (R373). -/
def sendStream (i reason : Nat) (s : State) : State :=
  let x := s.sess i
  let body := beBytes 4 x.reqId ++ beBytes 4 x.generated ++ beBytes 1 reason ++ List.replicate 7 0#8 ++ x.fresh
  onSess i (fun y => { y with fresh := [], sinceStream := 0 }) (sendMsg i typStream body (reason != 0) s)

/-- A generation ends (R372): held bytes go out unless they are the stop string. -/
def endGeneration (i reason : Nat) (s : State) : State :=
  let x := s.sess i
  if x.generating then
    let s1 := setSess i { x with fresh := x.fresh ++ (if reason = 3 then [] else x.hold), hold := [] } s
    onSess i (fun y => { y with generating := false, force := false }) (sendStream i reason s1)
  else s

/-- A session's context given up: its positions, tokens and KV (R368 RESET, R378). -/
def dropContext (i : Nat) (s : State) : State :=
  onSess i (fun x => { x with pos := 0, pending := 0, tokens := [], carry := [], text := 0, generated := 0 }) (freeKv i s)

/-- The address of an attention job's record (R308). -/
def jobAddr (offset : Nat) : Nat := hubBase + 6 * 0x2000000 + 64 * offset

/-- The entries of a job's record that name sessions, as (index in the job, handle, t0); a poisoned entry reads 0 (R303). -/
def jobSessions (m : Mem) (base nsess : Nat) : List (Nat × Nat × Nat) :=
  (List.range nsess).map (fun b => let e := leNat ((span (base + 8 * b) 8).map (m.clean 0#8)); (b, e % 2 ^ 32, e / 2 ^ 32))

/-- Running jobs note a session whose pages are lost (R314). -/
def loseJobs (i : Nat) (s : State) : State :=
  { s with kv := { s.kv with jobs := s.kv.jobs.map (fun j =>
    if j.running then
      let a := jobAddr j.offset
      let hit := (jobSessions s.mem (s.mem.readLe (a + 32) 5) (s.mem.readLe (a + 3) 1)).filter (fun x => x.2.1 / 4096 == i)
      { j with lost := (hit.map Prod.fst).foldl addOnce j.lost }
    else j) } }

/-- A session's KV is dropped (R378, R300): generation ended, status sent, running attention jobs lose it, the event raised. -/
def dropKv (i event : Nat) (s : State) : State :=
  let h := s.handle i
  let pos := (s.sess i).pos
  let s1 := endGeneration i 7 s
  raise (atSession event h 0 0)
    (dropContext i (sendStatus i 0x0020 (beBytes 4 pos) (loseJobs i (if event = 0x0804 then bump 0x00060040 1 s1 else s1))))

/-- Does a session have ready tokens (R187, R370)? -/
def Session.ready (x : Session) : Bool :=
  x.state == .opened && x.kind == 0 && x.district != 0xFFFF && x.text == 0 && (decide (0 < x.pending) || x.generating)

/-- Does any session have ready tokens? -/
def anyReady (s : State) : Bool := s.net.sessions.any (fun e => e.2.ready)

/-- Every session, by slot, that meets a test. -/
def sessionsWhere (s : State) (p : Session → Bool) : List Nat := (s.net.sessions.filter (fun e => p e.2)).map Prod.fst

/-- Closes every session that meets a test with a status. -/
def closeWhere (p : Session → Bool) (status : Nat) (s : State) : State :=
  (sessionsWhere s p).foldl (fun u i => beginClose i status u) s

end Sys2Proof.Machine
end

