-- ==== Sys2Proof/Machine/District.lean ====
section
/-! DEFINITION. Which district is loaded next, and into which slot (R183, R188, R189). -/

namespace Sys2Proof.Machine

/-- The batcher's state changed. -/
def onBat (f : Batcher → Batcher) (s : State) : State := { s with bat := f s.bat }

/-! Staging (R184, R297). -/

/-- 64 KiB pages of a district's image. -/
def districtPages (s : State) (d : Nat) : Nat := (Config.districtPlace s.modelRoot d).2.2

/-- Bytes of a page of a district's image, from the store. -/
def districtPage (s : State) (d j : Nat) : List Byte :=
  let p := Config.districtPlace s.modelRoot d
  match s.object? p.1 with
  | some o => objectBytes s o (p.2.1 * 4096 + 65536 * j) 65536
  | none => List.replicate 65536 0#8

/-- The staged copies kept: the least recently used go until the pages of the rest fit; the last one stays. -/
def fitStaged (pages : Nat → Nat) (room : Nat) : List Nat → List Nat
  | [] => []
  | d :: r => if sumOf ((d :: r).map pages) ≤ room ∨ r = [] then d :: r else fitStaged pages room r

/-- The n lowest pages of the staging part that are not taken. -/
def freeStage (s : State) (taken : List Nat) (n : Nat) : List Nat :=
  (((List.range (Nat.min (s.mem.stageCur * 16384) (taken.length + n))).map s.dramPage).filter (fun p => !taken.contains p)).take n

/-- A district's staged copy is the most recently used; one that has none takes pages, not staged yet, and the least recently used copies
give way (R184). -/
def restage (d : Nat) (s : State) : State :=
  let room := s.mem.stageCur * 16384
  let kept := fitStaged (districtPages s) room (takeOut s.bat.staged d ++ [d])
  let images := s.kv.images.filter (fun e => kept.contains e.1)
  let held := (images.map Prod.snd).flatten
  let fresh := if images.any (fun e => e.1 == d) then [] else freeStage s held (districtPages s d)
  { s with
    bat := { s.bat with staged := kept }
    kv := { s.kv with images := if images.any (fun e => e.1 == d) then images else images ++ [(d, fresh)]
                      unstaged := s.kv.unstaged.filter held.contains ++ fresh } }

/-- A district's staged copy that a failed load leaves out (R300). -/
def unstage (d : Nat) (s : State) : State :=
  let gone := look [] s.kv.images d
  { s with bat := { s.bat with staged := takeOut s.bat.staged d }
           kv := { s.kv with images := s.kv.images.filter (fun e => e.1 != d), unstaged := s.kv.unstaged.filter (fun p => !gone.contains p) } }

/-- The district and place in its image of a staging page. -/
def stagedPlace (s : State) (page : Nat) : Option (Nat × Nat) :=
  (s.kv.images.find? (fun e => e.2.contains page)).map (fun e =>
    (e.1, ((List.range e.2.length).find? (fun j => nthD 0 e.2 j == page)).getD 0))

/-- A page of a district's image written to its DRAM page: it is staged. -/
def stagePage (d : Nat) (s : State) (x : Nat × Nat) : State :=
  let u := writeMem (run (x.2 * 65536) (districtPage s d x.1)) s
  { u with kv := { u.kv with unstaged := takeOut u.kv.unstaged x.2 } }

/-- Every page of a district's image that is not staged yet is written (R184). -/
def stageAll (d : Nat) (s : State) : State :=
  let l := look [] s.kv.images d
  (((List.range l.length).zip l).filter (fun x => s.kv.unstaged.contains x.2)).foldl (stagePage d) s

/-- After ready the preferred districts that fit beside the staged copies take their pages, to be read after every other read (R474)
(DESIGN CHOICE, log entry 159). -/
def fillStaging (s : State) : State :=
  (Config.preferred s.modelRoot).foldl (fun u d =>
    if u.bat.staged.contains d || decide (u.mem.stageCur * 16384 < sumOf ((u.bat.staged ++ [d]).map (districtPages u))) then u
    else
      let v := restage d u
      { v with kv := { v.kv with filling := v.kv.filling ++ look [] v.kv.images d } }) s

/-- A region of a district, its mirrors apart. -/
def Region.ofDistrict (r : Region) (root d : Nat) : Bool := r.inst == 0 && Config.inDistrict root d r.layer r.expert

/-- The parts of the arrays (R182). -/
inductive ArrayPart where
  | trunk
  | district (d : Nat)
  | mirrorPool
  deriving DecidableEq, Repr

/-- The part a region is in. -/
def Region.part (r : Region) (root : Nat) : ArrayPart :=
  if r.inst ≠ 0 then .mirrorPool
  else match firstBelow (Config.districts root) (fun d => Config.inDistrict root d r.layer r.expert) with
    | some d => .district d
    | none => .trunk

/-- Does every district of a package fit its slot (R182)? -/
abbrev PackageFits (root : Nat) : Prop :=
  ∀ d k, d < Config.districts root → k < (if Config.twoSlots root then 2 else 1) → (Config.districtPlace root d).2.2 ≤ Config.slotPages root k

/-- Have the regions of a district in the map completed their load-time trim (R183)? -/
def districtTrimmed (s : State) (d : Nat) : Bool := s.arr.regions.all (fun r => r.state != .loading || !r.ofDistrict s.modelRoot d)

/-- The ready sessions of a district, oldest wait first. -/
def readyIn (s : State) (d : Nat) : List (Nat × Session) :=
  sortBy (fun e => e.2.since) (s.net.sessions.filter (fun e => e.2.ready && e.2.district == d))

/-- When the oldest ready session of a district began to wait. -/
def oldestWait (s : State) (d : Nat) : Nat :=
  match (readyIn s d).head? with
  | some e => e.2.since
  | none => s.now

/-- Is a district resident (R183)? -/
def residentDistrict (s : State) (d : Nat) : Bool := s.bat.slots.any (fun x => x.district == some d) && districtTrimmed s d

/-- Districts that have ready sessions. -/
def readyDistricts (s : State) : List Nat :=
  sortBy id (((s.net.sessions.filter (fun e => e.2.ready)).map (fun e => e.2.district)).eraseDups)

/-- SWITCH_WAIT reached by a district's ready sessions. -/
def crowded (s : State) (d : Nat) : Bool := decide (s.policy 0x000A0200 31 16 ≤ (readyIn s d).length)

/-- SWITCH_AGE_MS reached by a district's oldest ready session. -/
def agedDistrict (s : State) (d : Nat) : Bool :=
  decide (oldestWait s d + s.policy 0x000A0200 15 0 * msHalves ≤ s.now) && !(readyIn s d).isEmpty

/-- The load candidates in R188's order (DEDUCED, log entry 126). -/
def candidates (s : State) : List Nat :=
  sortBy (oldestWait s) (sortBy (fun d => 2 ^ 20 - (readyIn s d).length)
    ((readyDistricts s).filter (fun d => !residentDistrict s d && (crowded s d || agedDistrict s d))))

/-- Is a slot eligible for a load (R189)? -/
def slotEligible (s : State) (x : DistrictSlot) : Bool :=
  match x.district with
  | none => true
  | some d => decide (x.since + s.policy 0x000A0204 31 16 * msHalves ≤ s.now) || (readyIn s d).isEmpty

/-- The slot a load takes (R189). -/
def slotFor (s : State) : Option Nat :=
  let count (x : DistrictSlot) : Nat := match x.district with
    | none => 0
    | some d => (readyIn s d).length + 1
  let at_ (i : Nat) : DistrictSlot := nthD {} s.bat.slots i
  let ok := (List.range s.bat.slots.length).filter (fun i => slotEligible s (at_ i))
  (sortBy (fun i => count (at_ i)) (sortBy (fun i => (at_ i).stepped) ok)).head?

/-- The batcher looks for a load: the first candidate, if a slot is eligible (R188, R189). -/
def tryLoad (s : State) : State :=
  match s.bat.load, s.bat.model, candidates s with
  | none, some _, d :: _ =>
    match slotFor s with
    | some i =>
      onBat (fun b => { b with load := some { district := d, slot := i, aged := (b.aged.contains d && agedDistrict s d) || !crowded s d }
                               aged := takeOut b.aged d }) s
    | none => s
  | _, _, _ => s

/-- A session becomes ready: its wait begins (R187), and its district, no longer aged where it is the first to wait, may become a
candidate (R188). -/
def noteReady (i : Nat) (was : Bool) (s : State) : State :=
  if (s.sess i).ready && !was then
    let d := (s.sess i).district
    tryLoad (onBat (fun b => { b with aged := if (readyIn s d).any (fun e => e.1 != i) then b.aged else takeOut b.aged d })
      (onSess i (fun x => { x with since := s.now }) s))
  else s

end Sys2Proof.Machine
end

