-- ==== Sys2Proof/Machine/Wire.lean ====
section
/-! DEFINITION. What leaves the port, byte by byte: Pelet's header and seal, UDP, IP and Ethernet (R6, R342, R345, R346, R348 to R350). -/

namespace Sys2Proof.Machine

/-! Pelet (R349, R350). -/

/-- The 32 bytes of Table NET-5, big-endian. -/
def peletHeader (version typ flags handle seq ack sack window length reserved : Nat) : List Byte :=
  beBytes 1 version ++ beBytes 1 typ ++ beBytes 2 flags ++ beBytes 4 handle ++ beBytes 4 seq ++ beBytes 4 ack ++ beBytes 8 sack
    ++ beBytes 4 window ++ beBytes 2 length ++ beBytes 2 reserved

/-- A leaving datagram's header. -/
def Packet.header (p : Packet) : List Byte := peletHeader 1 p.typ p.flags p.handle p.seq p.ack p.sack p.window p.payload.length 0

/-- An arriving datagram's header. -/
def Datagram.header (d : Datagram) : List Byte :=
  peletHeader d.version d.typ d.flags.toNat d.handle.toNat d.seq d.ack d.sack.toNat d.window d.length d.reserved

/-- The nonce of R350: NB with DIR (true on the side that accepted), the ACK_ONLY bit and SEQ put in. -/
def gcmNonce (nb : Nat) (dir ackOnly : Bool) (seq : Nat) : Nat := nb ^^^ (b01 dir * 2 ^ 95 + b01 ackOnly * 2 ^ 94 + seq % 2 ^ 32)

/-- The UDP payload of a datagram of a session (R349, R350): header, payload, and the tag unless PLAIN is set. -/
def Session.udpPayload (x : Session) (p : Packet) : List Byte :=
  if bit p.flags 9 then p.header ++ p.payload
  else
    let n := gcmNonce x.nb (!x.opener) (bit p.flags 12) p.seq
    p.header ++ Config.gcmCipher x.key n p.payload ++ beBytes 16 (Config.gcmTagBits x.key n p.header p.payload).toNat

/-- The DSCP of a Pelet datagram by its session's KIND and CLASS (R348, Table NET-16). -/
def dscpOf (s : State) (kind : Nat) (fidelity : Bool) : Nat :=
  if kind = 2 then s.field 0x00050048 29 24 else if kind = 1 then s.field 0x00050048 21 16
  else if fidelity then s.field 0x00050048 13 8 else s.field 0x00050048 5 0

/-- A session's DSCP. -/
def Session.dscp (x : Session) (s : State) : Nat := dscpOf s x.kind x.fidelity

/-! UDP and IP (R345, R346) (PRESUMED, log entry 155). -/

/-- An IPv4-mapped address (R346). -/
def isMapped (a : Nat) : Bool := decide (a / 2 ^ 32 = 0xFFFF)

/-- The Internet checksum: the ones' complement of the ones' complement sum of 16-bit words (PRESUMED, log entry 155). -/
def inetSum (bytes : List Byte) : Nat :=
  let total := sumOf ((chunks 2 bytes).map (fun c => beNat ((c ++ [0#8]).take 2)))
  let fold (x : Nat) : Nat := x % 65536 + x / 65536
  65535 - fold (fold (fold total))

/-- The address this module sends from, as IPv6 or IPv4-mapped. -/
def State.ownAddr (s : State) (mapped : Bool) : Nat := if mapped then 0xFFFF * 2 ^ 32 + s.net.v4 else s.net.v6

/-- A UDP datagram from PELET_PORT with its checksum, which is always sent (Table NET-4) (PRESUMED, log entry 155). -/
def udpBytes (s : State) (addr port : Nat) (payload : List Byte) : List Byte :=
  let n := 8 + payload.length
  let src := s.ownAddr (isMapped addr)
  let pseudo := if isMapped addr then beBytes 4 (src % 2 ^ 32) ++ beBytes 4 (addr % 2 ^ 32) ++ beBytes 2 17 ++ beBytes 2 n
    else beBytes 16 src ++ beBytes 16 addr ++ beBytes 4 n ++ beBytes 4 17
  let ports := beBytes 2 (s.field 0x00060000 15 0) ++ beBytes 2 port ++ beBytes 2 n
  let sum := inetSum (pseudo ++ ports ++ [0#8, 0#8] ++ payload)
  ports ++ beBytes 2 (if sum = 0 then 0xFFFF else sum) ++ payload

/-- An IP packet with UDP in it: IPv6 with hop limit 64 and no extension header, or IPv4 with DF set and no options (Table NET-4)
(PRESUMED, log entry 155). -/
def ipBytes (s : State) (addr dscp ecn : Nat) (udp : List Byte) : List Byte :=
  let src := s.ownAddr (isMapped addr)
  if isMapped addr then
    let head (sum : Nat) : List Byte := [0x45#8] ++ beBytes 1 (4 * dscp + ecn) ++ beBytes 2 (20 + udp.length) ++ beBytes 2 0 ++ beBytes 2 0x4000
      ++ [64#8, 17#8] ++ beBytes 2 sum ++ beBytes 4 (src % 2 ^ 32) ++ beBytes 4 (addr % 2 ^ 32)
    head (inetSum (head 0)) ++ udp
  else beBytes 4 (6 * 2 ^ 28 + (4 * dscp + ecn) * 2 ^ 20) ++ beBytes 2 udp.length ++ [17#8, 64#8] ++ beBytes 16 src ++ beBytes 16 addr ++ udp

/-- The IP packet of a session's datagram. -/
def Session.ipPacket (x : Session) (s : State) (p : Packet) : List Byte :=
  ipBytes s p.addr p.dscp p.ecn (udpBytes s p.addr p.port (x.udpPayload p))

/-! Ethernet (R342). -/

/-- A frame to a station, without its FCS: one 802.1Q tag where VLAN_EN is 1, and the shortest frame padded (Table NET-1) (PRESUMED, log
entry 155). -/
def ethernetBytes (s : State) (mac ethertype : Nat) (packet : List Byte) : List Byte :=
  let tag := if s.field 0x0005000C 31 31 = 1 then beBytes 2 0x8100 ++ beBytes 2 (s.field 0x0005000C 27 16) else []
  let frame := beBytes 6 mac ++ beBytes 6 Config.mac.toNat ++ tag ++ beBytes 2 ethertype ++ packet
  frame ++ List.replicate (60 - frame.length) 0#8

end Sys2Proof.Machine
end

