-- ==== Sys2Proof/Machine/Pelet.lean ====
section
/-! DEFINITION. Pelet datagrams in service: the receive checks, acknowledgement and loss, delivery, requests and controls,
pacing (R349 to R358, R368, R374 to R376, R393, R414). -/

namespace Sys2Proof.Machine

/-! Registers read here (Table NET-17). -/

/-- RX_WIN_MAX. -/
def State.rxMax (s : State) : Nat := s.field 0x00060018 15 0
/-- RTO_MIN in halves of a step. -/
def State.rtoMin (s : State) : Nat := s.field 0x00060014 31 16 * usHalves
/-- An eighth of a microsecond in halves of a step: the unit of SRTT. -/
def srttUnit : Nat := usHalves / 8

/-! Acknowledgement, loss and congestion (R354 to R356). -/

/-- A session's timer (R355). -/
def rto (s : State) (x : Session) : Nat :=
  Nat.min (2 * sHalves) (Nat.max s.rtoMin ((x.srtt + 4 * x.rttvar) * srttUnit) * 2 ^ x.expiries)

/-- CWND within its bounds (R356). -/
def boundCwnd (s : State) (x : Session) (c : Nat) : Nat :=
  Nat.max (2 * x.room) (Nat.min (Nat.min (s.field 0x00060018 27 16 * 2 ^ 20) (x.peerWindow * x.room)) c)

/-- A decrease for a loss, or for ECE (R356): once per SRTT each, and only the larger within one. -/
def cutCwnd (s : State) (loss : Bool) (x : Session) : Session :=
  let recent := match x.cutAt with
    | some (t, l) => if s.now < t + x.srtt * srttUnit then some l else none
    | none => none
  let mark (c : Nat) : Session := { x with cwnd := boundCwnd s x c, cutAt := some (s.now, loss) }
  let y := match recent, loss with
    | none, true => mark (x.cwnd / 2)
    | none, false => mark (x.cwnd * 4 / 5)
    | some false, true => mark (x.cwnd * 5 / 8)
    | _, _ => x
  if loss then y else { y with cwr := y.cwr || recent.isNone }

/-- SRTT and RTTVAR from one sample, in eighths of a microsecond (R355). -/
def sampleRtt (r : Nat) (x : Session) : Session :=
  if x.srtt = 0 then { x with srtt := r, rttvar := r / 2 }
  else
    let e : Int := (r : Int) - x.srtt
    { x with srtt := ((x.srtt : Int) + e / 8).toNat, rttvar := ((x.rttvar : Int) + ((e.natAbs : Int) - x.rttvar) / 4).toNat }

/-- Is a SEQ acknowledged by ACK and SACK? -/
def acked (ack : Nat) (sack : Word64) (seq : Nat) : Bool :=
  decide (seq < ack) || (decide (ack < seq) && decide (seq ≤ ack + 64) && sack.getLsbD (seq - ack - 1))

/-- The ACK fields of an authentic datagram used (R354 to R356) (DEDUCED, log entry 37). -/
def useAck (s : State) (d : Datagram) (x : Session) : Session :=
  let stale := decide (d.ack < x.txUna) || decide (x.txNext < d.ack)
  let x0 := if stale then x else { x with peerWindow := d.window }
  let x1 := if d.flags.getLsbD 11 then cutCwnd s false x0 else x0
  if stale then x1
  else
    let gone := x1.out.filter (fun e => e.sends != 0 && acked d.ack d.sack e.seq)
    let kept := x1.out.filter (fun e => e.sends == 0 || !acked d.ack d.sack e.seq)
    let x2 := (gone.filter (fun e => e.sends == 1)).foldl (fun y e => sampleRtt ((s.now - e.sentAt) / srttUnit) y) x1
    let grown := gone.foldl (fun c _ => c + x2.room * x2.room / Nat.max 1 c) x2.cwnd
    let out := kept.map (fun e =>
      if e.sends = 0 then e
      else
        let p := e.passed + (gone.filter (fun g => decide (e.seq < g.seq))).length
        { e with passed := p, due := e.due || decide (3 ≤ p) })
    let lost := out.any (fun e => e.due && decide (3 ≤ e.passed) && e.sends != 0)
    let x3 := { x2 with cwnd := boundCwnd s x2 grown, out := out.map (fun e => if e.due then { e with passed := 0 } else e),
                        txUna := Nat.max x2.txUna d.ack, expiries := if gone.isEmpty then x2.expiries else 0 }
    if lost then cutCwnd s true x3 else x3

/-- ACK_ONLY's SEQ is used up (R358), or a datagram is queued for the pacer (R354). -/
def queueAck (i : Nat) (s : State) : State :=
  let x := s.sess i
  if 0xFFFFFFFF ≤ x.ackNext then beginClose i 0x0013 s
  else
    let w := x.window s.rxMax
    let p : Packet :=
      { level := 0, addr := x.addr, port := x.port, typ := typCtrl, handle := if x.kind = 1 then x.peerHandle else s.handle i,
        flags := 0x1000 + (if x.ece then 0x0800 else 0) + (if x.cwr then 0x0400 else 0), seq := x.ackNext, ack := x.rxNext,
        sack := x.sack, window := w, payload := [], dscp := x.dscp s }
    onNet (fun n => { n with ctl := n.ctl ++ [p] })
      (setSess i { x with ackNext := x.ackNext + 1, ackOwed := 0, rxLimit := Nat.max x.rxLimit (x.rxNext + w), cwr := false } s)

/-! Delivery (R351, R354). -/

/-- The whole message at the front of the received parts below RX_NEXT, and the rest. -/
def takeMessage (rxNext : Nat) (parts : List Dgram) : Option (Message × List Dgram) :=
  let ready := parts.takeWhile (fun p => decide (p.seq < rxNext))
  let body := ready.takeWhile (fun p => !bit p.flags 14)
  match ready[body.length]?, ready.head? with
  | some e, some f =>
    some ({ typ := f.typ, seq := f.seq, last := bit e.flags 13, payload := ((ready.take (body.length + 1)).map Dgram.payload).flatten },
      parts.drop (body.length + 1))
  | _, _ => none

/-- RX_NEXT past every received part. -/
def advance (parts : List Dgram) (n : Nat) : Nat := parts.foldl (fun k p => if p.seq = k then k + 1 else k) n

/-- Is a module in an orderly shutdown's drain or later (R476)? -/
def draining (s : State) : Bool := decide (0 < s.boot.shutdown)

/-- FRONT_LOST's detail (Table FRO-4). -/
def frontLostDetail (s : State) : List Byte :=
  let hint : List Byte := match s.front.excluded with
    | some set => [1#8, BitVec.ofNat 8 ((firstBelow 32 (fun i => bit set i)).getD 0)]
    | none => [0#8, 0#8]
  beBytes 4 (s.word 0x00060104).toNat ++ hint ++ beBytes 2 1000 ++ List.replicate 4 0#8

/-- A request of a client (R368): its header, then context bytes, which its program receives. -/
def serveData (i : Nat) (m : Message) (s : State) : State :=
  let x := s.sess i
  let op := beAt m.payload 0 1
  let req := beAt m.payload 8 4
  if x.state = .suspended then sendStatus i 0x0023 (frontLostDetail s) s
  else if m.payload.length < 16 ∨ beAt m.payload 1 3 ≠ 0 ∨ beAt m.payload 12 4 ≠ 0 ∨ op = 0 ∨ 3 < op then sendStatus i 1 [] s
  else if draining s then
    if op = 1 then s else if x.generating then endGeneration i 6 s
    else if op = 2 then
      endGeneration i 6 (onSess i (fun y => { y with generating := true, reqId := req, generated := 0 }) s)
    else s
  else
    let s1 := if op = 1 then s else endGeneration i 6 s
    let s2 := if op = 3 then dropContext i s1 else s1
    let mx := beAt m.payload 4 4
    onSess i (fun y =>
      { y with reqId := req, maxNew := if mx = 0 then y.maxNew else mx, text := y.text + (m.payload.length - 16),
               inbox := y.inbox ++ [m], force := y.force || op == 2, generating := y.generating || op == 2,
               generated := if op = 2 then 0 else y.generated }) s2

/-- A sampler field lies in its range (Table NET-13). -/
def inRangeF (lo hi : F32) (openLow : Bool) (v : F32) : Bool :=
  !fIsNaN v && !fLt hi v && !fLt v lo && (!openLow || fLt lo v)

/-- SET_SAMPLER (R374, Table NET-13): refused whole where a value is out of range. -/
def setSamplerFields (i : Nat) (p : List Byte) (s : State) : State :=
  let f (k : Nat) : F32 := BitVec.ofNat 32 (beAt p k 4)
  let k := beAt p 13 2
  let w := beAt p 15 2
  let n := beAt p 17 4
  if p.length = 21 && inRangeF fZero 0x40800000#32 false (f 1) && inRangeF fZero fOne true (f 5)
      && inRangeF fOne 0x40000000#32 false (f 9) && decide (k ≤ 1024) && decide (w ≤ 4096) && decide (1 ≤ n)
      && decide (n ≤ (s.sess i).maxctx) then
    onSess i (fun x => { x with temperature := f 1, topP := f 5, repPenalty := f 9, topK := k, repWindow := w, maxNew := n }) s
  else sendStatus i 1 [] s

/-- SET_STOPS (R374). -/
def setStopFields (i : Nat) (p : List Byte) (s : State) : State :=
  let n0 := beAt p 17 1
  let n1 := beAt p 18 1
  if p.length = 51 ∧ n0 ≤ 16 ∧ n1 ≤ 16 then
    onSess i (fun x =>
      { x with stopTok := (List.range 4).map (fun k => beAt p (1 + 4 * k) 4),
               stopStr := [(p.drop 19).take n0, (p.drop 35).take n1] }) s
  else sendStatus i 1 [] s

/-- A CTRL message of a client (R374). -/
def serveCtrl (i : Nat) (m : Message) (s : State) : State :=
  match beAt m.payload 0 1 with
  | 1 => setSamplerFields i m.payload s
  | 2 => setStopFields i m.payload s
  | 3 => endGeneration i 6 s
  | 4 => if m.payload.length = 9 then sendStatus i 0 (m.payload.drop 1) s else sendStatus i 1 [] s
  | _ => sendStatus i 1 [] s

/-- A whole message served by its kind and type (R351, R368, R374, R376, R380). -/
def serve (i : Nat) (m : Message) (s : State) : State :=
  let x := s.sess i
  if s.field 0x0006000C 15 0 * 1024 < m.payload.length then sendStatus i 1 [] s
  else if m.typ = typClose then beginClose i 0x0010 s
  else if x.kind = 0 ∧ m.typ = typData then serveData i m s
  else if x.kind = 0 ∧ m.typ = typCtrl then serveCtrl i m s
  else if (x.kind = 1 ∧ m.typ = typPeer) ∨ (x.kind = 2 ∧ m.typ = typMgmt) then
    onSess i (fun y => { y with inbox := y.inbox ++ [m] }) s
  else s

/-- Messages that are whole, served in SEQ order; at most as many as the fuel. -/
def deliver : Nat → Nat → State → State
  | 0, _, s => s
  | n + 1, i, s =>
    let x := s.sess i
    match takeMessage x.rxNext x.parts with
    | some (m, rest) => deliver n i (serve i m (setSess i { x with parts := rest } s))
    | none => s

/-! Receiving (R352, R353). -/

/-- Check 1 of Table NET-7. -/
def wellShaped (s : State) (d : Datagram) : Bool :=
  d.udpPort == s.field 0x00060000 15 0 && d.version == 1 && decide (1 ≤ d.typ) && decide (d.typ ≤ 8)
    && d.flags.toNat % 512 == 0 && d.reserved == 0
    && d.udpLen == 32 + d.length + (if d.flags.getLsbD 9 then 0 else 16) && d.payload.length == d.length

/-- A claim commits with its session's first authentic datagram (R414): owner slot 0, LC_GROUP[1], the events (DEDUCED, log entry 106). -/
def commitClaim (i : Nat) (s : State) : State :=
  match (s.sess i).claim with
  | some pub =>
    raiseAll [{ code := 0x0A03 }, { code := 0x0A05 }]
      (onSess i (fun x => { x with claim := none })
        (skipFree 1 { s with sec := { s.sec with fuses := { s.sec.fuses with
            owners := [{ hash := Config.sha512 pub, seed := s.drawn }], groups := Nat.max 2 s.sec.fuses.groups } } }))
  | none => s

/-- A heartbeat of a rank (R393, R394): it clears a suspicion within 5 ms; a rank outside the membership becomes reachable again,
one lost while a member does not (R397). -/
def heardRank (r : Nat) (s : State) : State :=
  let known := look 0 s.front.suspectAt r
  let s1 := { s with front := { s.front with heard := put 0 s.front.heard r s.now } }
  let s2 := if bit s.front.members r then s1 else setField 0x00060108 r r 1 s1
  if known ≠ 0 ∧ s.now ≤ known + 5 * msHalves ∧ bit (s.word 0x00060108).toNat r then
    setField 0x0006010C r r 0 { s2 with front := { s2.front with suspectAt := put 0 s2.front.suspectAt r 0 } }
  else s2

/-- An authentic datagram of a peer on its PEER session is a heartbeat (R393). -/
def heard (i : Nat) (s : State) : State :=
  let x := s.sess i
  if x.kind = 1 then heardRank x.rank s else s

/-- An authentic datagram's session: opened, kept awake, moved (R353, R356, R362, R414). -/
def authentic (i : Nat) (d : Datagram) (data : Bool) (s : State) : State :=
  let x := s.sess i
  let moves := data && decide (x.rxHigh < d.seq) && (d.srcAddr != x.addr || d.srcPort != x.port)
  let s1 := onSess i (fun y =>
    { y with state := if y.state = .handshake then (if s.fstate = 4 ∧ y.kind = 0 then .suspended else .opened) else y.state, lastActive := s.ao,
             addr := if moves then d.srcAddr else y.addr, port := if moves then d.srcPort else y.port,
             ece := (y.ece && !d.flags.getLsbD 10) || d.ce, rxHigh := if data then Nat.max y.rxHigh d.seq else y.rxHigh }) s
  let h := s.handle i
  let s2 := heard i (commitClaim i (if moves then raise (atSession 0x0807 h 0 0) s1 else s1))
  setSess i (useAck s d (s2.sess i)) s2

/-- A session in CLOSING whose CLOSE is acknowledged is released (R376) (DEDUCED, log entry 38). -/
def endIfClosed (i : Nat) (s : State) : State :=
  if (s.sess i).state = .closing ∧ (s.sess i).out.isEmpty then releaseSession i s else s

/-- A new data datagram taken: acknowledged within two (R354), delivered in order. -/
def takeData (i : Nat) (d : Datagram) (s : State) : State :=
  let x := s.sess i
  let part : Dgram := { seq := d.seq, typ := d.typ, flags := d.flags.toNat / 8192 * 8192, payload := d.payload }
  let parts := sortBy Dgram.seq (part :: x.parts)
  let s1 := setSess i { x with parts := parts, rxNext := advance parts x.rxNext, ackOwed := x.ackOwed + 1,
                               ackSince := if x.ackOwed = 0 then s.now else x.ackSince } s
  let was := x.ready
  let s2 := deliver (parts.length + 1) i s1
  let s3 := noteReady i was s2
  if 2 ≤ (s3.sess i).ackOwed then queueAck i s3 else s3

/-- The receive checks of Table NET-7 in order, and what follows them. -/
def receive (d : Datagram) (s : State) : State :=
  let drop (s : State) : State := bump 0x00060034 1 s
  if !wellShaped s d || d.flags.getLsbD 9 then drop s
  else
    match s.live? d.handle.toNat with
    | none => drop s
    | some i =>
      let x := s.sess i
      let data := !d.flags.getLsbD 12
      if !x.keyed then drop s
      else if data && decide (x.rxLimit ≤ d.seq) then drop s
      else if !d.tagOk then raise { code := 0x0706 } (bump 0x00060030 1 s)
      else
        let s1 := authentic i d data s
        if data && (decide (d.seq < x.rxNext) || x.parts.any (fun p => p.seq == d.seq)) then endIfClosed i (drop s1)
        else
          let s2 := if data && (s1.sess i).state != .closing then takeData i d s1 else s1
          endIfClosed i (if d.seq = 0xFFFFFFFF then beginClose i 0x0013 s2 else s2)

/-- The first byte of a datagram that begins a message agrees with the command's name; any other is no such event. -/
def opens (d : Datagram) (typ : Nat) (op : Nat → Bool) : Bool :=
  !d.flags.getLsbD 15 || (d.typ == typ && op (beAt d.payload 0 1))

/-- ACK_ONLY (R354). -/
def effAckOnly (d : Datagram) (s : State) : State := if d.flags.getLsbD 12 then receive d s else s
/-- APPEND (R368), and requests of an OP that is not assigned. -/
def effAppend (d : Datagram) (s : State) : State := if opens d typData (fun o => o != 2 && o != 3) then receive d s else s
/-- GENERATE (R368). -/
def effGenerate (d : Datagram) (s : State) : State := if opens d typData (· == 2) then receive d s else s
/-- RESET (R368). -/
def effReset (d : Datagram) (s : State) : State := if opens d typData (· == 3) then receive d s else s
/-- SET_SAMPLER (R374), and controls of an OP that is not assigned. -/
def effSetSampler (d : Datagram) (s : State) : State :=
  if opens d typCtrl (fun o => o != 2 && o != 3 && o != 4) then receive d s else s
/-- SET_STOPS (R374). -/
def effSetStops (d : Datagram) (s : State) : State := if opens d typCtrl (· == 2) then receive d s else s
/-- CANCEL (R374). -/
def effCancel (d : Datagram) (s : State) : State := if opens d typCtrl (· == 3) then receive d s else s
/-- PING (R374). -/
def effPing (d : Datagram) (s : State) : State := if opens d typCtrl (· == 4) then receive d s else s
/-- CLOSE from the client (R376). -/
def effClose (d : Datagram) (s : State) : State := if opens d typClose (fun _ => true) then receive d s else s

/-! Timers (R354, R355, R375, R376). -/

/-- ACK_DELAY_EXPIRY (R354). -/
def effAckDelayExpiry (i : Nat) (s : State) : State :=
  let x := s.sess i
  if x.state = .free ∨ x.ackOwed = 0 then s
  else queueAck i (reach (x.ackSince + s.field 0x00060014 11 0 * usHalves) s)

/-- A session's datagrams in flight. -/
def Session.inFlight (x : Session) : List Dgram := x.out.filter (fun e => e.sends != 0 && !e.due)

/-- RTO_EXPIRY (R355, R376): the oldest unacknowledged datagram is resent, or the session closes or is released. -/
def effRtoExpiry (i : Nat) (s0 : State) : State :=
  let x := s0.sess i
  match x.inFlight with
  | [] => s0
  | d :: _ =>
    let s := reach (d.sentAt + rto s0 x) s0
    if x.state = .closing then
      if 3 ≤ x.closeExpiries then releaseSession i s
      else setSess i { x with closeExpiries := x.closeExpiries + 1, expiries := x.expiries + 1,
                              out := x.out.map (fun e => if e.seq = d.seq then { e with due := true } else e) } s
    else if x.kind ≠ 1 ∧ s.field 0x00060014 15 12 ≤ x.expiries + 1 then
      let h := s.handle i
      beginClose i 0x0012 (raise (atSession 0x0803 h 0 0) s)
    else
      let y := { x with expiries := x.expiries + 1, out := x.out.map (fun e => if e.seq = d.seq then { e with due := true } else e) }
      setSess i (cutCwnd s true y) s

/-- IDLE_TIMEOUT (R375). -/
def effIdleTimeout (i : Nat) (s : State) : State :=
  let x := s.sess i
  if (x.state = .opened ∨ x.state = .suspended) ∧ !x.generating ∧ x.pending = 0 then
    beginClose i 0x0011 (reach (x.lastActive * 152 + x.idleS * sHalves) s)
  else s

/-! The pacer (R348, R356, R357). -/

/-- A PEER datagram that carries a front control message leaves at level 0 (R388). -/
def Dgram.control (d : Dgram) : Bool := d.typ == typPeer && d.payload.take 4 == List.replicate 4 0xFF#8

/-- The pacer level of a session's datagram. -/
def paceLevel (x : Session) (d : Dgram) : Nat :=
  if d.control then 0 else if x.kind = 2 then 1 else if x.kind = 1 then 2 else if x.fidelity then 3 else 4

/-- The datagram a session would send next, if its windows allow one (DEDUCED, log entry 119). -/
def nextDgram (x : Session) : Option Dgram :=
  match x.out.find? Dgram.due with
  | some d =>
    let flight := sumOf (x.inFlight.map (fun e => e.payload.length))
    if decide (d.seq < x.txUna + x.peerWindow) && decide (flight + d.payload.length ≤ Nat.max x.cwnd x.room) then some d else none
  | none => none

/-- Bytes of a datagram's IP packet. -/
def packetBytes (x : Session) (d : Dgram) : Nat := d.payload.length + (if x.ipv4 then 76 else 96)

/-- The sealed datagram of a session: the stored copy where it was sent before (R350) (DESIGN CHOICE, log entry 36). -/
def sealDgram (s : State) (i : Nat) (d : Dgram) : Packet :=
  let x := s.sess i
  match d.sealed with
  | some p => p
  | none =>
    { level := paceLevel x d, addr := x.addr, port := x.port, typ := d.typ,
      flags := d.flags + (if x.ece then 0x0800 else 0) + (if x.cwr then 0x0400 else 0),
      handle := if x.kind = 1 then x.peerHandle else s.handle i, seq := d.seq, ack := x.rxNext,
      sack := x.sack,
      window := x.window s.rxMax, payload := d.payload, dscp := x.dscp s }

/-- A session's datagram put on the wire (DESIGN CHOICE, log entry 36). -/
def transmit (i : Nat) (d : Dgram) (s : State) : State :=
  let x := s.sess i
  let p := sealDgram s i d
  let first := d.sends == 0
  let gap := if x.srtt = 0 then 0 else ceilDiv (packetBytes x d * x.srtt * srttUnit * 4) (5 * Nat.max 1 x.cwnd)
  let y := { x with
    out := x.out.map (fun e => if e.seq = d.seq then
      { e with sends := e.sends + 1, sentAt := s.now, due := false, passed := 0, sealed := some p } else e)
    nextSend := s.now + gap, cwr := if first then false else x.cwr,
    ackOwed := if first then 0 else x.ackOwed, rxLimit := if first then Nat.max x.rxLimit (p.ack + p.window) else x.rxLimit }
  let s1 := onNet (fun n => { n with wire := n.wire ++ [.pelet { p with addr := x.addr, port := x.port }] }) (setSess i y s)
  let s2 := if first then s1 else bump 0x00060038 1 s1
  if x.kind = 1 then { s2 with front := { s2.front with sent := put 0 s2.front.sent x.rank s.now } } else s2

/-- The aggregate pacer's next free moment after a packet of n bytes (R357). -/
def pace (n : Nat) (s : State) : State :=
  onNet (fun p => { p with pacedAt := s.now + ceilDiv (n * 8 * 19) (5 * Nat.max 1 (s.field 0x0006001C 9 0)) }) s

/-- Sessions that may send at a level, in the order of the round robin: after the one served last (DEDUCED, log entry 119). -/
def senders (s : State) (level : Nat) : List (Nat × Dgram) :=
  let all := s.net.sessions.filterMap (fun e => (nextDgram e.2).bind (fun d => if paceLevel e.2 d = level then some (e.1, d) else none))
  let last := look 0 s.net.turn level
  all.filter (fun e => decide (last < e.1)) ++ all.filter (fun e => decide (e.1 ≤ last))

/-- PACED_TRANSMIT (R357): level 0 first, then the sessions by level. -/
def effPacedTransmit (s0 : State) : State :=
  let s := reach s0.net.pacedAt s0
  match s.net.ctl with
  | p :: rest =>
    pace (p.payload.length + 80) (onNet (fun n => { n with ctl := rest, wire := n.wire ++ [.pelet p] }) s)
  | [] =>
    let all := ((List.range 5).map (senders s)).flatten
    match all with
    | [] => s
    | _ =>
      let soon := all.filter (fun e => decide ((s.sess e.1).nextSend ≤ s.now))
      let t := (all.map (fun e => (s.sess e.1).nextSend)).min?.getD 0
      match (if soon.isEmpty then all.filter (fun e => (s.sess e.1).nextSend == t) else soon) with
      | (i, d) :: _ =>
        let s1 := reach (s.sess i).nextSend s
        let level := paceLevel (s1.sess i) d
        pace (packetBytes (s1.sess i) d) (onNet (fun n => { n with turn := put 0 n.turn level i }) (transmit i d s1))
      | [] => s

/-- ZERO_WINDOW_PROBE (R354). -/
def effZeroWindowProbe (i : Nat) (s : State) : State :=
  let x := s.sess i
  match x.state, x.peerWindow, x.out.find? Dgram.due with
  | .free, _, _ => s
  | _, 0, some d =>
    let s1 := reach x.probeAt s
    onSess i (fun y => { y with probeAt := s1.now + 10 * msHalves }) (transmit i d s1)
  | _, _, _ => s

/-- ACK_ONLY (R354). -/
def execAckOnly (d : Datagram) (s : State) : Host.Outcome State Fault Refusal := done (effAckOnly d s)
/-- APPEND (R368). -/
def execAppend (d : Datagram) (s : State) : Host.Outcome State Fault Refusal := done (effAppend d s)
/-- GENERATE (R368). -/
def execGenerate (d : Datagram) (s : State) : Host.Outcome State Fault Refusal := done (effGenerate d s)
/-- RESET (R368). -/
def execReset (d : Datagram) (s : State) : Host.Outcome State Fault Refusal := done (effReset d s)
/-- SET_SAMPLER (R374). -/
def execSetSampler (d : Datagram) (s : State) : Host.Outcome State Fault Refusal := done (effSetSampler d s)
/-- SET_STOPS (R374). -/
def execSetStops (d : Datagram) (s : State) : Host.Outcome State Fault Refusal := done (effSetStops d s)
/-- CANCEL (R374). -/
def execCancel (d : Datagram) (s : State) : Host.Outcome State Fault Refusal := done (effCancel d s)
/-- PING (R374). -/
def execPing (d : Datagram) (s : State) : Host.Outcome State Fault Refusal := done (effPing d s)
/-- CLOSE (R376). -/
def execClose (d : Datagram) (s : State) : Host.Outcome State Fault Refusal := done (effClose d s)
/-- ACK_DELAY_EXPIRY (R354). -/
def execAckDelayExpiry (slot : Nat) (s : State) : Host.Outcome State Fault Refusal := done (effAckDelayExpiry slot s)
/-- RTO_EXPIRY (R355). -/
def execRtoExpiry (slot : Nat) (s : State) : Host.Outcome State Fault Refusal := done (effRtoExpiry slot s)
/-- ZERO_WINDOW_PROBE (R354). -/
def execZeroWindowProbe (slot : Nat) (s : State) : Host.Outcome State Fault Refusal := done (effZeroWindowProbe slot s)
/-- IDLE_TIMEOUT (R375). -/
def execIdleTimeout (slot : Nat) (s : State) : Host.Outcome State Fault Refusal := done (effIdleTimeout slot s)
/-- PACED_TRANSMIT (R357). -/
def execPacedTransmit  (s : State) : Host.Outcome State Fault Refusal := done (effPacedTransmit s)

end Sys2Proof.Machine
end

