-- ==== Sys2Proof/Machine/Open.lean ====
section
/-! DEFINITION. Opening sessions: admission, the handshake, and the opener's side (R360 to R366, R385, R386, R405, R409,
R414, R476). -/

namespace Sys2Proof.Machine

/-! Fields of an OPEN (Tables NET-8, FRO-2, SEC-5a). -/

/-- KIND. -/
def openKind (p : List Byte) : Nat := beAt p 0 1
/-- OPTIONS. -/
def openOptions (p : List Byte) : Nat := beAt p 1 1
/-- DISTRICT. -/
def openDistrict (p : List Byte) : Nat := beAt p 2 2
/-- CLIENT_NONCE's bytes. -/
def openNonce (p : List Byte) : List Byte := (p.drop 16).take 32
/-- Does a KIND 2 OPEN carry the claim extension (R414)? -/
def openClaims (p : List Byte) : Bool := openKind p == 2 && p.length == 582

/-- Check 1 of Table NET-10: every field in range, reserved bytes 0, the length of the kind. -/
def openFieldsOk (p : List Byte) : Bool :=
  let k := openKind p
  let o := openOptions p
  let ctx := beAt p 4 4
  let mtu := beAt p 12 2
  let every := beAt p 14 2
  decide (184 ≤ p.length) && decide (k ≤ 2) && decide (o < 8) && beAt p 181 3 == 0 && decide (1 ≤ ctx) && decide (ctx ≤ 131072)
    && decide (1280 ≤ mtu) && decide (mtu ≤ 9000) && beAt p 48 1 == 4
    && (k != 0 || (p.length == 184 && !(bit o 0 && bit o 1) && (!bit o 2 || openDistrict p == 0) && decide (1 ≤ every) && decide (every ≤ 64)))
    && (k != 2 || p.length == 316 || p.length == 582)
    && (k != 1 || (decide (402 ≤ p.length) && beAt p 194 2 == 0 && decide (beAt p 268 2 ≤ 890)
        && p.length == 270 + beAt p 268 2 + 132))

/-- Check 2 for KIND 1 (R386, R400). -/
def frontAdmits (s : State) (src port : Nat) (p : List Byte) (v : OpenVerdict) : Bool :=
  let rank := beAt p 192 1
  let e := beAt p 196 4
  let epochOk :=
    if s.front.restarted then s.front.written == some e
    else e == s.epoch || (s.fstate == 4 && ((decide (s.epoch < e) && s.field 0x00060100 17 17 == 1) || s.front.written == some e))
  s.fstate != 0 && beAt p 184 8 == (s.word 0x00060114).toNat * 2 ^ 32 + (s.word 0x00060110).toNat
    && beAt p 200 64 == s.front.digest && decide (rank < beAt p 193 1) && beAt p 193 1 == s.myRank
    && (match s.front.entries[rank]? with
        | some en => en.addr == src && en.port == port && reportFits s ((p.drop 270).take (beAt p 268 2)) (openNonce p) en.akHash
        | none => false)
    && v.report && v.peerSig && epochOk

/-- MGMT sessions open. -/
def mgmtOpen (s : State) : Nat := (sessionsWhere s (fun x => x.kind == 2 && (x.state == .opened || x.state == .handshake))).length

/-- Check 2 for KIND 2 (R364, R409, R414). -/
def mgmtAdmits (s : State) (p : List Byte) (v : OpenVerdict) : Bool :=
  decide (mgmtOpen s < s.field 0x00060008 31 28) &&
    (if s.sec.fuses.groups = 1 then
       openClaims p && v.claimSig && v.ownerSig && decide (beAt p 449 1 ≤ 3) && !s.sec.fuses.revoke.getLsbD (4 + beAt p 449 1)
     else decide (p.length = 316) && (currentOwner s).isSome && v.ownerSig)

/-- Does a loaded region hold an uncovered column (R92)? -/
def anyUncovered (s : State) : Bool :=
  s.arr.regions.any (fun r => analog r.place && (s.pair r.apair).uncovered)

/-- The refusal of an OPEN that reaches admission: status and RETRY_MS (Table NET-10), after the refusals that precede the
table's (R405, R476) (DEDUCED, log entry 107). -/
def openRefusal? (s : State) (src port : Nat) (p : List Byte) (v : OpenVerdict) : Option (Nat × Nat) :=
  let k := openKind p
  let limit := s.field 0x00060008 27 12
  if s.sec.entropyBad then some (5, 1000)
  else if !openFieldsOk p then some (1, 0)
  else if draining s ∧ k ≠ 2 then some (5, 0)
  else if k = 2 ∧ !mgmtAdmits s p v then some (2, 0)
  else if k = 1 ∧ !frontAdmits s src port p v then some (2, 0)
  else match k, s.bat.model with
    | 0, none => some (7, 1000)
    | 0, some m =>
      if bit (openOptions p) 2 && !Config.router m.1 then some (3, 0)
      else if !bit (openOptions p) 2 && decide (Config.districts m.1 ≤ openDistrict p) then some (3, 0)
      else if bit (openOptions p) 0 && anyUncovered s then some (4, 0)
      else source limit
    | _, _ => source limit
where
  /-- Checks 6 and 7. -/
  source (limit : Nat) : Option (Nat × Nat) :=
    if limit ≠ 0 ∧ limit ≤ (sessionsWhere s (fun x => x.addr == src)).length then some (6, 1000)
    else if s.field 0x00060008 11 0 ≤ s.net.hs.length then some (5, s.net.hs.length / 25)
    else none

/-- A refusal sent (R364, R366). -/
def refuseOpen (src port status retry : Nat) (p : List Byte) (s : State) : State :=
  let k : Packet := { level := 0, addr := src, port := port, typ := typClose, flags := 0x0200, handle := 0, seq := 0, ack := 0,
                      sack := 0, window := 0, payload := beBytes 2 status ++ beBytes 2 retry ++ openNonce p,
                      dscp := dscpOf s (openKind p) (bit (openOptions p) 0) }
  raise { code := 0x0801 } (bump 0x0006002C 1 (onNet (fun n => { n with ctl := n.ctl ++ [k] }) s))

/-- The order of OPENs: arrival, then source address, then port (R365). -/
def HsEntry.key (e : HsEntry) : Nat := e.tick * 2 ^ 144 + e.addr * 2 ^ 16 + e.port

/-- An ACCEPT's payload before SIG (Table NET-9), with the share of an ephemeral private key. -/
def acceptBody (s : State) (x : Session) (h : Nat) (eph : List Byte) : List Byte :=
  beBytes 2 0 ++ beBytes 2 0 ++ beBytes 4 h ++ beBytes 4 x.maxctx ++ beBytes 4 x.idleS ++ beBytes 2 x.district ++ beBytes 2 x.pmtu
    ++ beBytes 4 0 ++ publicKey eph ++ List.replicate 3 0#8 ++ beBytes 2 860 ++ report s (openNonce x.openReq)

/-- The session's keys and its ACCEPT, for a draw of Chevik's DRBG (R361, R363): SIG over TH, then CONFIRM under K with DIR 1 and SEQ 0
(DEDUCED, log entry 154). -/
def answer (s : State) (x : Session) (h draw : Nat) : Session :=
  let eph := beBytes 74 draw
  let body := acceptBody s x h eph
  let th := transcript x.openReq body
  let keys := sessionKeys th eph ((x.openReq.drop 48).take 133)
  let before := body ++ sign (ak s) th
  let p : Packet :=
    { level := 0, addr := x.addr, port := x.port, typ := 2, flags := 0x0200, handle := if x.kind = 1 then x.peerHandle else h,
      seq := 0, ack := 1, sack := 0, window := x.window s.rxMax, payload := before ++ List.replicate 16 0#8, dscp := x.dscp s }
  let confirm := beBytes 16 (Config.gcmTagBits keys.1 (gcmNonce keys.2 true false 0) (p.header ++ before) []).toNat
  { x with keyed := true, key := keys.1, nb := keys.2, accepted := some { p with payload := before ++ confirm } }

/-- The session that answered an identical OPEN within the last 10 s (R362). -/
def answered (s : State) (src port : Nat) (p : List Byte) : Option Nat :=
  (sessionsWhere s (fun x => !x.opener && x.openReq == p && x.addr == src && x.port == port
    && decide (s.now ≤ x.openedAt + 10 * sHalves))).head?

/-- OPEN (R362, R364, R365): the stored ACCEPT again, a refusal, or a place in Chevik's queue (DEDUCED, log entry 107). -/
def effOpenReq (src port : Nat) (p : List Byte) (v : OpenVerdict) (s : State) : State :=
  if s.sec.fuses.groups = 0 ∨ 4 ≤ s.sec.fuses.groups then s
  else
    match answered s src port p with
    | some i => onNet (fun n => { n with ctl := n.ctl ++ (s.sess i).accepted.toList }) s
    | none =>
      if s.net.hs.any (fun e => e.addr == src && e.port == port && e.payload == p) then s
      else
        match openRefusal? s src port p v with
        | some (st, retry) =>
          let s1 := refuseOpen src port st retry p s
          if st = 5 ∧ s.sec.entropyBad = false ∧ (draining s = false ∨ openKind p = 2) then raise { code := 0x0806 } s1 else s1
        | none =>
          let e : HsEntry := ⟨s.ao, src, port, p⟩
          let q := sortBy HsEntry.key (s.net.hs ++ [e])
          if freeSlots s ≤ s.net.hs.length then
            match q.getLast? with
            | some z => refuseOpen z.addr z.port 6 1000 z.payload (onNet (fun n => { n with hs := q.dropLast }) s)
            | none => s
          else onNet (fun n => { n with hs := q }) s

/-- The session that an admitted OPEN gets (R361, R367). -/
def newSession (s : State) (e : HsEntry) (gen : Nat) : Session :=
  let p := e.payload
  let k := openKind p
  let o := openOptions p
  let idle := beAt p 8 4
  let v4 := decide (e.addr / 2 ^ 32 = 0xFFFF)
  let mtu := Nat.min (linkMtu s v4) (beAt p 12 2)
  let x : Session :=
    { state := .handshake, gen := gen, maxctx := beAt p 4 4, addr := e.addr, port := e.port, kind := k, fidelity := k == 0 && bit o 0,
      replay := k == 0 && bit o 1, auto := k == 0 && bit o 2, ipv4 := v4,
      district := if k = 0 ∧ !bit o 2 then openDistrict p else 0xFFFF, pmtu := mtu,
      idleS := Nat.min (s.word 0x00060010).toNat (if idle = 0 then s.field 0x0006000C 31 16 else idle), maxNew := 4096,
      streamEvery := beAt p 14 2, openReq := p, openedAt := s.now, lastActive := s.ao,
      program := Config.sessionProgram s.modelRoot k,
      peerHandle := if k = 1 then beAt p 264 4 else 0, rank := if k = 1 then beAt p 192 1 else 0,
      claim := if openClaims p then some ((p.drop 316).take 133) else none }
  let w := x.window s.rxMax
  { x with cwnd := 16 * x.room, peerWindow := 16, rxLimit := 1 + w }

/-- A suspended member with REJOIN_AUTO takes the epoch of an OPEN it admits (R400). -/
def takeEpoch (e : Nat) (s : State) : State :=
  if s.fstate = 4 ∧ s.field 0x00060100 17 17 = 1 ∧ s.front.written.isNone then { s with front := { s.front with written := some e } }
  else s

/-- HANDSHAKE_DONE (R361, R363): the front of Chevik's queue gets its slot, its keys and its ACCEPT. -/
def effHandshakeDone (s : State) : State :=
  match s.net.hs, freeSlot s with
  | e :: rest, some i =>
    let s0 := onNet (fun n => { n with hs := rest }) s
    let rank := beAt e.payload 192 1
    let s1 := if openKind e.payload = 1 then
        takeEpoch (beAt e.payload 196 4)
          ((sessionsWhere s0 (fun x => x.kind == 1 && x.rank == rank && x.state != .free)).foldl (fun u j => releaseSession j u) s0)
      else s0
    let x := newSession s1 e (s1.slotHist i).gen
    let y := answer s1 x (i * 4096 + x.gen) s1.drawn
    bump 0x00060028 1 (onNet (fun n => { n with ctl := n.ctl ++ y.accepted.toList }) (setSess i y (skipFree 1 s1)))
  | _, _ => s

/-- HANDSHAKE_TIMEOUT (R362). -/
def effHandshakeTimeout (i : Nat) (s : State) : State :=
  let x := s.sess i
  if x.state = .handshake ∧ !x.opener then releaseSession i (reach (x.openedAt + 10 * sHalves) s) else s

/-! The opener's side (R363). -/

/-- The datagram of an OPEN this module sends. -/
def openPacket (s : State) (x : Session) : Packet :=
  { level := 0, addr := x.addr, port := x.port, typ := 1, flags := 0x0200, handle := 0, seq := 0, ack := 0, sack := 0, window := 0,
    payload := x.openReq, dscp := x.dscp s }

/-- An ACCEPT's report, its bytes before SIG, and its share (Table NET-9). -/
def acceptReport (p : List Byte) : List Byte := (p.drop 162).take (beAt p 160 2)

/-- ACCEPT (R363, R386): the opener's slot opens where CONFIRM and the report verify. -/
def effAccept (d : Datagram) (confirmOk reportOk : Bool) (s : State) : State :=
  match s.live? d.handle.toNat with
  | some i =>
    let x := s.sess i
    if x.opener && x.state == .handshake && d.typ == 2 && confirmOk && reportOk && beAt d.payload 0 2 == 0
        && s.front.entries[x.rank]?.any (fun en => reportFits s (acceptReport d.payload) (openNonce x.openReq) en.akHash) then
      let before := d.payload.take (162 + beAt d.payload 160 2)
      let keys := sessionKeys (transcript x.openReq before) (beBytes 74 x.eph) ((d.payload.drop 24).take 133)
      let y := { x with state := .opened, keyed := true, key := keys.1, nb := keys.2, eph := 0, peerHandle := beAt d.payload 4 4
                        pmtu := beAt d.payload 18 2, peerWindow := d.window, lastActive := s.ao }
      { setSess i { y with cwnd := 16 * y.room, rxLimit := 1 + y.window s.rxMax } s with
        front := { s.front with heard := put 0 s.front.heard x.rank s.now } }
    else s
  | none => s

/-- OPEN_RESEND (R363): after RTO_MIN, doubling. -/
def effOpenResend (i : Nat) (s : State) : State :=
  let x := s.sess i
  if x.opener ∧ x.state = .handshake then
    let t := x.openedAt + s.rtoMin * (2 ^ (x.resends + 1) - 1)
    onNet (fun n => { n with ctl := n.ctl ++ [openPacket s x] }) (setSess i { x with resends := x.resends + 1 } (reach t s))
  else s

/-- OPENER_TIMEOUT (R363). -/
def effOpenerTimeout (i : Nat) (s : State) : State :=
  let x := s.sess i
  if x.opener ∧ x.state = .handshake then releaseSession i (reach (x.openedAt + 10 * sHalves) s) else s

/-- OPEN_REFUSAL (R352, R363, R366): a refusal with the nonce of an OPEN outstanding to its source releases the slot. -/
def effOpenRefusal (src port _status _retry nonce : Nat) (s : State) : State :=
  match (sessionsWhere s (fun x => x.opener && x.state == .handshake && x.addr == src && x.port == port
      && beNat (openNonce x.openReq) == nonce)).head? with
  | some i => releaseSession i s
  | none => bump 0x00060034 1 s

/-- OPEN (R364). -/
def execOpenReq (src port : Nat) (payload : List Byte) (v : OpenVerdict) (s : State) : Host.Outcome State Fault Refusal := done (effOpenReq src port payload v s)
/-- HANDSHAKE_DONE (R361). -/
def execHandshakeDone  (s : State) : Host.Outcome State Fault Refusal := done (effHandshakeDone s)
/-- HANDSHAKE_TIMEOUT (R362). -/
def execHandshakeTimeout (slot : Nat) (s : State) : Host.Outcome State Fault Refusal := done (effHandshakeTimeout slot s)
/-- ACCEPT (R363). -/
def execAccept (d : Datagram) (confirmOk reportOk : Bool) (s : State) : Host.Outcome State Fault Refusal := done (effAccept d confirmOk reportOk s)
/-- OPEN_RESEND (R363). -/
def execOpenResend (slot : Nat) (s : State) : Host.Outcome State Fault Refusal := done (effOpenResend slot s)
/-- OPENER_TIMEOUT (R363). -/
def execOpenerTimeout (slot : Nat) (s : State) : Host.Outcome State Fault Refusal := done (effOpenerTimeout slot s)
/-- OPEN_REFUSAL (R366). -/
def execOpenRefusal (src port status retryMs nonce : Nat) (s : State) : Host.Outcome State Fault Refusal := done (effOpenRefusal src port status retryMs nonce s)

end Sys2Proof.Machine
end

