-- ==== Sys2Proof/Machine/Kv.lean ====
section
/-! DEFINITION. KV pages, the partition, spills, fetches and the attention engine (R290 to R300, R305, R307 to R314, R378). -/

namespace Sys2Proof.Machine

/-! The partition (R290). -/

/-- Would a partition leave scratch its 4 GiB of the DRAM found usable, in units of 256 MiB? -/
def partitionOk (s : State) (stage kv : Nat) : Bool :=
  decide (4 * (stage + kv + s.mem.withheld.length) + 1 + 16 ≤ 1024)

/-- A partition requested for the next cold start; one that leaves scratch too little is ignored. -/
def effPartitionRequest (iface : Iface) (stage kv : BitVec 8) (s : State) : State :=
  if iface = .i3c ∨ !partitionOk s stage.toNat kv.toNat then s
  else
    logHealth 8 [stage.toNat, kv.toNat] { s with mem := { s.mem with partRequest := some (stage.toNat, kv.toNat) } }

/-! Pages and entries (R291, R293). -/

/-- A page table entry (DESIGN CHOICE, log entry 35). -/
def State.pte (s : State) (k : Nat) : Pte := look {} s.kv.ptes k

/-- The KV state changed. -/
def onKv (f : Kv → Kv) (s : State) : State := { s with kv := f s.kv }

/-- An entry's word (Table MEM-9). -/
def Pte.word (e : Pte) : Nat := e.state * 2 ^ 62 + e.fill * 2 ^ 54 + e.loc

/-- A page table entry set (DESIGN CHOICE, log entry 35). -/
def setPte (k : Nat) (x : Pte) (s : State) : State := onKv (fun v => { v with ptes := put {} v.ptes k x }) s

/-- Pages per layer of a context limit (Table MEM-8). -/
def pagesPerLayer (maxctx : Nat) : Nat := ceilDiv maxctx 248

/-- The entry number of a layer and position (R293). -/
def entryNumber (maxctx layer pos : Nat) : Nat := layer * pagesPerLayer maxctx + pos / 248

/-- The key of an entry of a session slot. -/
def kvKey (i n : Nat) : Nat := i * 2 ^ 20 + n

/-- Pages of the KV part. -/
def State.kvPages (s : State) : Nat := s.mem.kvCur * 16384

/-- Free KV pages. -/
def kvFree (s : State) : Nat := s.kvPages - s.kv.used.length

/-- The lowest free page of the KV part. -/
def takePage (s : State) : Option Nat :=
  (firstBelow (Nat.min s.kvPages (s.kv.used.length + 1)) (fun p => !s.kv.used.contains (s.dramPage (s.mem.stageCur * 16384 + p)))).map
    (fun p => s.dramPage (s.mem.stageCur * 16384 + p))

/-- A session's entries in DRAM, or in the store. -/
def entriesIn (s : State) (i state : Nat) : List (Nat × Pte) := s.kv.ptes.filter (fun e => e.1 / 2 ^ 20 == i && e.2.state == state)

/-- Bytes [63:0] of a session's record (Table MEM-8) (DESIGN CHOICE, log entry 35). -/
def sessionFields (s : State) (i : Nat) : List Byte :=
  let x := s.sess i
  leBytes 4 (s.handle i) ++ leBytes 4 x.pos ++ leBytes 4 x.maxctx ++ leBytes 4 (pagesPerLayer x.maxctx)
    ++ ((List.range 6).map (fun k => leBytes 4 (nthD 0 x.ptPages k))).flatten
    ++ leBytes 4 (entriesIn s i 1).length ++ leBytes 4 ((entriesIn s i 2).length + (entriesIn s i 3).length) ++ leBytes 16 0

/-- Bytes cut or filled with zeros to a length. -/
def fitBytes (n : Nat) (b : List Byte) : List Byte := (b ++ List.replicate n 0#8).take n

/-- STATE of a session record (Table NET-11). -/
def SessState.code : SessState → Nat
  | .free => 0 | .handshake => 1 | .opened => 2 | .closing => 3 | .suspended => 4

/-- Bytes [255:64] of a session's record, little-endian (R367, Table NET-11) (DESIGN CHOICE, log entry 35). -/
def serviceFields (s : State) (i : Nat) : List Byte :=
  let x := s.sess i
  leBytes 16 x.addr ++ leBytes 2 x.port
    ++ leBytes 1 (x.kind + 4 * b01 x.fidelity + 8 * b01 x.replay + 16 * b01 x.ipv4 + 32 * b01 x.generating) ++ leBytes 1 x.state.code
    ++ leBytes 2 x.district ++ leBytes 2 x.pmtu ++ leBytes 4 x.txNext ++ leBytes 4 x.txUna ++ leBytes 4 x.ackNext ++ leBytes 4 x.rxNext
    ++ leBytes 8 x.sack ++ leBytes 4 x.cwnd ++ leBytes 4 x.peerWindow ++ leBytes 4 x.srtt ++ leBytes 4 x.rttvar ++ leBytes 8 x.lastActive
    ++ leBytes 4 x.idleS ++ leBytes 4 x.maxNew ++ leBytes 4 x.temperature.toNat ++ leBytes 4 x.topP.toNat ++ leBytes 4 x.repPenalty.toNat
    ++ leBytes 2 x.topK ++ leBytes 2 x.repWindow ++ leBytes 4 x.generated ++ leBytes 4 x.pending
    ++ ((List.range 4).map (fun k => leBytes 4 (nthD 0xFFFFFFFF x.stopTok k))).flatten
    ++ ((List.range 2).map (fun k => fitBytes 16 (nthD [] x.stopStr k))).flatten
    ++ ((List.range 2).map (fun k => leBytes 1 (nthD [] x.stopStr k).length)).flatten
    ++ leBytes 2 x.streamEvery ++ leBytes 4 x.reqId
    ++ leBytes 1 x.carry.length ++ fitBytes 15 x.carry ++ leBytes 1 x.hold.length ++ fitBytes 15 x.hold

/-- Where a session's record lies (R292). -/
def sessionRecordAt (s : State) (i : Nat) : Nat := s.dramAt ((dramPart s 2).1 + 256 * i)

/-- Bytes from a device address as they stand where the module keeps its tables: the words of page-table pages (R293) and the
memory fields of session records (R292), computed from the state that holds them once (DESIGN CHOICE, log entry 35). -/
def State.tableBytes (s : State) (i : Nat) : List (Nat × List Byte) :=
  (sessionRecordAt s i, sessionFields s i ++ serviceFields s i) ::
    (s.kv.ptes.filter (fun e => e.1 / 2 ^ 20 == i)).map (fun e =>
      let n := e.1 % 2 ^ 20
      (nthD 0 (s.sess i).ptPages (n / 8192) * 65536 + n % 8192 * 8, leBytes 8 e.2.word))

/-- A page's address. -/
def pageAddr (page : Nat) : Nat := page * 65536

/-- The watermark of a FILL (R294) (DEDUCED, log entry 113). -/
def watermark (fill : Nat) : Nat := 64 + 264 * fill

/-- The header of a KV page (Table MEM-7) (DEDUCED, log entry 114). -/
def pageHeader (handle layer fill pos0 : Nat) : List Byte :=
  leBytes 4 handle ++ leBytes 2 layer ++ leBytes 1 fill ++ leBytes 1 0 ++ leBytes 4 pos0 ++ leBytes 52 0

/-! Spilling (R296, R336, R378). -/

/-- Is a session in the formed token step? -/
def inStep (s : State) (i : Nat) : Bool := s.bat.step.any (fun t => t.sessions.any (fun e => e.1 == i))

/-- A session's entries in DRAM. -/
def dramKeys (s : State) (i : Nat) : List Nat :=
  (s.kv.ptes.filter (fun e => e.1 / 2 ^ 20 == i && e.2.state == 1)).map Prod.fst

/-- The victim (R378): in no formed step, with a page in DRAM, longest inactive. -/
def victim (s : State) : Option Nat :=
  ((sortBy (fun e => e.2.lastActive) (s.net.sessions.filter (fun e =>
    !(dramKeys s e.1).isEmpty && !inStep s e.1))).map Prod.fst).head?

/-- The session in prefill with the most pages, of the formed step. -/
def heaviest (s : State) : Option Nat :=
  match s.bat.step with
  | some t => ((sortBy (fun i => 2 ^ 21 - (dramKeys s i).length) ((t.sessions.filter (fun e => e.2 != 0)).map Prod.fst)).filter
      (fun i => !(dramKeys s i).isEmpty)).head?
  | none => none

/-- A spill refused: the session's KV is dropped instead (R336, R378). -/
def refuseSpill (i : Nat) (s : State) : State := dropKv i 0x0804 (raise { code := 0x0608 } s)

/-- KV pressure (R378): the victim's pages are queued to be spilled, or dropped; without a victim the next step leaves one out. -/
def pressure (s : State) : State :=
  match victim s with
  | some i =>
    if spillRefused s then refuseSpill i s
    else onStore (fun x => { x with spilling := (dramKeys s i).foldl addOnce x.spilling }) s
  | none =>
    match heaviest s with
    | some i => { s with bat := { s.bat with leaveOut := some i } }
    | none => s

/-- KV pressure where free pages have fallen below KV_LOW_PCT and no page is on its way out. -/
def relieve (s : State) : State :=
  if 100 * kvFree s < s.field 0x00060024 7 0 * s.kvPages ∧ s.store.spilling = [] then pressure s else s

/-- Does a running attention job read a session's pages (R296)? -/
def jobReads (s : State) (i : Nat) : Bool :=
  s.kv.jobs.any (fun j => j.running &&
    (List.range 64).any (fun b => s.mem.readLe (s.mem.readLe (hubBase + 6 * 0x2000000 + 64 * j.offset + 32) 5 + 8 * b) 4 / 4096 == i))

/-- KV_SPILL_DONE (R296): the page's image up to its watermark goes to a slot and its DRAM page is freed; it waits while
the log has no free band. A page with a poisoned line is lost (R305). -/
def effKvSpillDone (session entry : Nat) (s : State) : State :=
  let k := kvKey session entry
  let e := s.pte k
  if !s.store.spilling.contains k || e.state != 1 || inStep s session || jobReads s session then s
  else
    let s1 := onStore (fun x => { x with spilling := takeOut x.spilling k }) s
    if (poisonAt s1.mem (span (pageAddr e.loc) (watermark e.fill))).isSome then
      dropKv session 0x0505 (raise { code := 0x0502, info0 := (poisonAt s1.mem (span (pageAddr e.loc) (watermark e.fill))).getD 0 } s1)
    else if spillRefused s1 then refuseSpill session s1
    else
      match takeLogSlot s1 with
      | some (slot, s2) =>
        let image := s1.mem.readN (pageAddr e.loc) (watermark e.fill)
        bump 0x0006003C 1
          (onKv (fun v => { v with slots := put [] v.slots slot image, used := takeOut v.used e.loc })
            (setPte k { e with state := 2, loc := slot } s2))
      | none => s

/-! Fetches (R298 to R300). -/

/-- At most 64 fetches are in flight, the oldest first. -/
def State.inFlight? (s : State) (key : Nat) : Option Fetch := (s.kv.fetches.take 64).find? (fun f => f.key == key)

/-- A fetch ends (DEDUCED, log entry 112). -/
def endFetch (key : Nat) (s : State) : State := onKv (fun v => { v with fetches := v.fetches.filter (fun f => f.key != key) }) s

/-- Every transaction of a fetch completes FAULTED. -/
def faultWaiting (f : Fetch) (event i0 i1 : Nat) (s : State) : State :=
  f.waiting.foldl (fun u n => match u.txNum n with
    | some x => faultTx x event i0 i1 u
    | none => u) s

/-- A KV page is lost: its waiters fault and the session's KV is dropped (R300). -/
def losePage (f : Fetch) (i n : Nat) (event : Nat) (s : State) : State :=
  let h := s.handle i
  dropKv i 0x0505 (endFetch f.key (faultWaiting f event h n (raise (atSession event h h n) s)))

/-- The generation a slot's last session had. -/
def lastGen (s : State) (i : Nat) : Nat :=
  let g := (s.slotHist i).gen
  if g = 1 then 0xFFE else g - 1

/-- A fetched KV page's end (DEDUCED, log entry 114). -/
def kvFetched (f : Fetch) (i n : Nat) (readStep : Nat) (headerOk : Bool) (s : State) : State :=
  let k := kvKey i n
  let e := s.pte k
  if e.state ≠ 3 then
    let h := if (s.sess i).state = .free then i * 4096 + lastGen s i else s.handle i
    endFetch f.key (loseJobs i (faultWaiting f 0x0802 h n (if f.waiting.isEmpty then s else raise (atSession 0x0802 h h n) s)))
  else
    let s1 := countSlot 3 (16 * e.loc) readStep s
    if 6 ≤ readStep then losePage f i n 0x0504 s1
    else
      match takePage s with
      | none => pressure s
      | some page =>
        if !headerOk then losePage f i n 0x0504 (raise (atSession 0x050A (s.handle i) 0 0) s1)
        else
          let image := look [] s.kv.slots e.loc
          let bytes := image ++ List.replicate (65536 - image.length) 0#8
          let s2 := writeMem (run (pageAddr page) bytes) s1
          relieve (endFetch f.key (onKv (fun v => { v with slots := put [] v.slots e.loc [], used := v.used ++ [page] })
            (setPte k { e with state := 1, loc := page } s2)))

/-- A staging page's fetch ends (R184, R298, R300): the page of its district's image is written, or its waiters fault and the load of its
district fails. A page of no district's image holds nothing to fetch. -/
def stageFetched (f : Fetch) (readStep : Nat) (s : State) : State :=
  match stagedPlace s f.key with
  | some (d, j) =>
    let p := Config.districtPlace s.modelRoot d
    let first := match s.object? p.1 with
      | some o => o.first
      | none => 0
    let s1 := countSlot 4 (first + p.2.1 + 16 * j) readStep s
    if 6 ≤ readStep then
      let s2 := endFetch f.key (faultWaiting f 0x0504 d j (raise { code := 0x0504, info0 := d, info1 := j } s1))
      if s2.bat.load.any (fun l => l.district == d) then unstage d { s2 with bat := { s2.bat with load := none } } else s2
    else endFetch f.key (stagePage d s1 (j, f.key))
  | none => endFetch f.key (onKv (fun v => { v with unstaged := takeOut v.unstaged f.key }) s)

/-- SOFT_FAULT_FETCH_DONE (R298 to R300, R474); a page of the fill after ready only where no other page is awaited. A key below 2^32 is a staging page's DRAM page number (DESIGN CHOICE, log entry 98; DEDUCED, log entry 112). -/
def effSoftFaultFetchDone (key readStep : Nat) (headerOk : Bool) (s : State) : State :=
  match s.inFlight? key with
  | none =>
    if s.kv.fetches.isEmpty && s.kv.filling.contains key then
      let s1 := onKv (fun v => { v with filling := takeOut v.filling key }) s
      if s.kv.unstaged.contains key then stageFetched { key := key } readStep s1 else s1
    else s
  | some f =>
    if 2 ^ 32 ≤ key then kvFetched f ((key - 2 ^ 32) / 2 ^ 20) ((key - 2 ^ 32) % 2 ^ 20) readStep headerOk s
    else stageFetched f readStep s

/-! Attention jobs (R308, R312, R313, Table MEM-12). -/

/-- A job's record as read. -/
structure JobRec where
  heads : Nat
  layer : Nat
  nsess : Nat
  windowed : Bool
  nq : Nat
  q : Nat
  qs : Nat
  out : Nat
  sess : Nat
  sigma : F32
  window : Nat
  clean : Bool
  deriving DecidableEq, Repr

/-- The record at an offset of HUB_BANK_6; a poisoned one reads 0 (R303). -/
def readJob (m : Mem) (offset : Nat) : JobRec :=
  let a := jobAddr offset
  let w (i : Nat) : Nat := leNat ((span (a + 8 * i) 8).map (m.clean 0#8))
  { heads := bits (w 0) 55 48, layer := bits (w 0) 47 32, nsess := bits (w 0) 31 24, windowed := bit (w 0) 23, nq := bits (w 0) 22 11,
    q := bits (w 1) 39 0, qs := bits (w 2) 39 0, out := bits (w 3) 39 0, sess := bits (w 4) 39 0,
    sigma := BitVec.ofNat 32 (bits (w 5) 31 0), window := bits (w 5) 55 32,
    clean := bits (w 0) 10 0 == 0 && (List.range 4).all (fun i => bits (w (i + 1)) 63 40 == 0) && bits (w 5) 63 56 == 0 && w 7 == 0 }

/-- A job's STATUS written (R308). -/
def setStatus (offset status : Nat) (s : State) : State := writeMem [(jobAddr offset + 7, BitVec.ofNat 8 status)] (wakeBanks [jobAddr offset] s)

/-- A job refused (R313). -/
def refuseJob (offset : Nat) (s : State) : State := raise { code := 0x050B } (setStatus offset 4 s)

/-- ATT_DOORBELL (R308, R313). -/
def effAttDoorbell (offset : BitVec 19) (s : State) : State :=
  let o := offset.toNat
  if 16 ≤ (s.kv.jobs.filter (fun j => !j.running)).length then refuseJob o s
  else onKv (fun v => { v with jobs := v.jobs ++ [{ offset := o }] }) (setStatus o 0 s)

/-- Does an address lie in a BANK or SCRATCH allocation? -/
def inBankOrScratch (s : State) (a : Nat) : Bool := s.mem.within a 1 (fun x => x.kind == 1 || x.kind == 3)

/-- The bytes of a job's record and of its sessions' entries (R308). -/
def recordReads (s : State) (o : Nat) : List Nat :=
  let j := readJob s.mem o
  span (jobAddr o) 64 ++ span j.sess (8 * j.nsess)

/-- Sessions of a job whose entries stand in a poisoned line (R303). -/
def poisonedEntries (s : State) (j : JobRec) : List Nat :=
  (List.range j.nsess).filter (fun b => (span (j.sess + 8 * b) 8).any s.mem.poisoned)

/-- The limits of R313; a session whose entry is poisoned is faulted instead. -/
def jobOk (s : State) (j : JobRec) : Bool :=
  decide (1 ≤ j.heads) && decide (j.heads ≤ 72) && decide (1 ≤ j.nsess) && decide (j.nsess ≤ 64) && decide (1 ≤ j.nq) && decide (j.nq ≤ 2048)
    && (j.nq == 1 || j.nsess == 1) && j.clean && [j.q, j.qs, j.out, j.sess].all (inBankOrScratch s)
    && (jobSessions s.mem j.sess j.nsess).all (fun x =>
        (poisonedEntries s j).contains x.1 || match s.live? x.2.1 with
        | some i => decide (x.2.2 + j.nq - 1 < (s.sess i).maxctx)
        | none => false)

/-- The entries of a session that a job reads: pages from the first to that of its last query position (R312). -/
def jobEntries (s : State) (j : JobRec) (x : Nat × Nat × Nat) : List Nat :=
  match s.live? x.2.1 with
  | some i =>
    (List.range ((x.2.2 + j.nq - 1) / 248 + 1)).map (fun p => kvKey i (j.layer * pagesPerLayer (s.sess i).maxctx + p))
  | none => []

/-- One soft fault of a job's leaf (R298, R299): its page is fetched, or its fetch joined. -/
def jobFault (offset : Nat) (s : State) (k : Nat) : State :=
  let e := s.pte k
  if e.state = 2 ∨ e.state = 3 then
    let key := 2 ^ 32 + k
    let fs := if s.kv.fetches.any (fun f => f.key == key)
      then s.kv.fetches.map (fun f => if f.key = key then { f with jobs := addOnce f.jobs offset } else f)
      else s.kv.fetches ++ [{ key := key, jobs := [offset] }]
    bump 0x0008000C 1 (setPte k { e with state := 3 }
      (onKv (fun v => { v with fetches := fs, jobs := v.jobs.map (fun j => if j.offset = offset ∧ j.running then { j with soft := j.soft + 1 } else j) }) s))
  else s

/-- The oldest job in the queue taken out of it. -/
def takeJob : List Job → Option (Job × List Job × List Job)
  | [] => none
  | j :: r => if j.running then (takeJob r).map (fun x => (x.1, j :: x.2.1, x.2.2)) else some (j, [], r)

/-- ATTENTION_JOB_START (R312, R313): a queued job is refused, or runs, and its leaves fault on pages that are not in DRAM; no job
starts in the limit state of R446. -/
def effAttentionJobStart (s : State) : State :=
  match s.pow.limit, takeJob s.kv.jobs with
  | false, some (j, before, after) =>
    let s := wakeBanks (jobAddr j.offset :: recordReads s j.offset) s
    let s := match poisonAt s.mem (recordReads s j.offset) with
      | some l => raise { code := 0x0502, info0 := l } s
      | none => s
    let r := readJob s.mem j.offset
    if jobOk s r then
      let s1 := setStatus j.offset 1 (onKv (fun v => { v with jobs := before ++ { j with running := true, lost := poisonedEntries s r } :: after }) s)
      ((jobSessions s.mem r.sess r.nsess).map (jobEntries s r)).flatten.foldl (jobFault j.offset) s1
    else refuseJob j.offset (onKv (fun v => { v with jobs := before ++ after }) s)
  | _, _ => s

/-! The engine's arithmetic (R309 to R311). -/

/-- An E4M3 code's value in units of 2^−9; none for NaN. -/
def e4m3Units (code : Nat) : Option Int :=
  match fmtE4M3.decode code with
  | .fin neg m e => some (sgn neg (m * 2 ^ (e + 9).toNat))
  | _ => none

/-- The exact sum of 32 products of E4M3 codes, in units of 2^−18; none where a NaN takes part. -/
def blockDot (q k : List Nat) : Option Int :=
  (q.zip k).foldl (fun a x => match a, e4m3Units x.1, e4m3Units x.2 with
    | some t, some u, some v => some (t + u * v)
    | _, _, _ => none) (some 0)

/-- rne32(I × 2^(eq − 127) × 2^(ek − 127)), I in units of 2^−18; NaN where a scale is NaN. -/
def scaledDot (i : Option Int) (eq ek : Nat) : F32 :=
  match i with
  | some v => if eq = 255 ∨ ek = 255 then fNaN else frnd (v < 0) v.natAbs (-18 + ((eq : Int) - 127) + ((ek : Int) - 127))
  | none => fNaN

/-- The score of a head for a position (R309). -/
def score (q k : List Nat) (eq ek : List Nat) (sigma : F32) : F32 :=
  fMul ((List.range 4).foldl (fun a b =>
    fAdd a (scaledDot (blockDot ((q.drop (32 * b)).take 32) ((k.drop (32 * b)).take 32)) (nthD 0 eq b) (nthD 0 ek b))) fZero) sigma

/-- An E4M3 element under its E8M0 scale as FP32 (R99, R103). -/
def latentValue (code scale : Nat) : F32 :=
  match fmtE4M3.decode code with
  | .fin neg m e => if scale = 255 then fNaN else frnd neg m (e + ((scale : Int) - 127))
  | _ => fNaN

/-- A leaf's or a node's triple. -/
structure Triple where
  m : F32
  l : F32
  o : List F32
  deriving DecidableEq, Repr

/-- The leaf of one query row and head over its unmasked positions: score and value row of each (R310). -/
def leafTriple (xs : List (F32 × List F32)) : Option Triple :=
  match xs with
  | [] => none
  | x :: r =>
    let m := (r.map Prod.fst).foldl fMax x.1
    some (xs.foldl (fun t y =>
      let p := EType.value .e4m3 (EType.e4m3.encode (fMul (exp32 (fSub y.1 m)) 0x43800000#32)).1
      { t with l := fAdd t.l p, o := (t.o.zip y.2).map (fun z => fAdd z.1 (fMul p z.2)) }) ⟨m, fZero, List.replicate 128 fZero⟩)

/-- Two children combined, lower pages first (R311). -/
def combine (a b : Triple) : Triple :=
  let m := fMax a.m b.m
  let x := exp32 (fSub a.m m)
  let y := exp32 (fSub b.m m)
  { m := m, l := fAdd (fMul a.l x) (fMul b.l y), o := (a.o.zip b.o).map (fun z => fAdd (fMul z.1 x) (fMul z.2 y)) }

/-- One entry of a KV page: its 256 codes and 8 scales. -/
def latentOf (m : Mem) (page e : Nat) : List Nat × List Nat :=
  let a := pageAddr page + 64 + 264 * e
  ((m.readN a 256).map BitVec.toNat, (m.readN (a + 256) 8).map BitVec.toNat)

/-- The positions of a page that a query row at position t sees, below FILL (R294, R312). -/
def visible (j : JobRec) (t page fill : Nat) : List Nat :=
  (List.range fill).filter (fun e =>
    let pos := 248 * page + e
    decide (pos ≤ t) && (!j.windowed || decide (t < pos + j.window)))

/-- One query row and head over a session's pages: the output row, 128 FP32 values (R309 to R311). -/
def attendRow (s : State) (j : JobRec) (keys : List Nat) (t : Nat) (q : List Nat) (eq : List Nat) : List F32 :=
  let leaf (p : Nat) : Option Triple :=
    let e := s.pte (nthD 0 keys p)
    if e.state ≠ 1 then none
    else leafTriple ((visible j t p e.fill).map (fun i =>
      let c := latentOf s.mem e.loc i
      (score q (c.1.take 128) eq (c.2.take 4) j.sigma,
        (List.range 128).map (fun d => latentValue (nthD 0 c.1 (128 + d)) (nthD 0 c.2 (4 + d / 32))))))
  match treeReduce combine ((List.range keys.length).map leaf) with
  | some r => r.o.map (fun v => fDiv v r.l)
  | none => List.replicate 128 fZero

/-- Queries and outputs as descriptors: C32, contiguous, rows b × NQ + q (R116, R118). -/
def jobDesc (j : JobRec) (t : EType) (base : Nat) : Desc :=
  let ch := j.heads * 128
  let v := ceilDiv ch 32
  { handle := 0, esc := false, ndim := 2, etype := t, base := base, block := if t = .e4m3 then 32 else 0, wr := true,
    stype := if t = .e4m3 then .e8m0 else .none, scaleBase := j.qs, channels := ch, sideBase := 0, sizes := [j.nsess * j.nq],
    strides := [t.vecBytes / 16, v * t.vecBytes / 16] }

/-- One output row (R311): BF16 by R99. -/
def attendOut (s : State) (j : JobRec) (keys : List Nat) (row t : Nat) : List (Nat × Byte) :=
  let d := jobDesc j .e4m3 j.q
  let codes (h : Nat) : List Nat := (List.range 128).map (fun i => d.codeAt s.mem row (128 * h + i))
  let scales (h : Nat) : List Nat := (List.range 4).map (fun b => d.scaleCode s.mem row (4 * h + b))
  (jobDesc j .bf16 j.out).dataWrites row (((List.range j.heads).map (fun h =>
    (attendRow s j keys t (codes h) (scales h)).map (fun v => (EType.bf16.encode v).1))).flatten)

/-- The addresses of a session's query rows and their scales. -/
def queryReads (j : JobRec) (b : Nat) : List Nat :=
  let d := jobDesc j .e4m3 j.q
  ((List.range j.nq).map (fun q => span (d.vecAddr (b * j.nq + q) 0) (j.heads * 128) ++ span (d.scaleAddr (b * j.nq + q) 0) (j.heads * 4))).flatten

/-- The addresses of the entries below FILL of a session's pages. -/
def pageReads (s : State) (keys : List Nat) : List Nat :=
  (keys.map (fun k => let e := s.pte k; if e.state = 1 then span (pageAddr e.loc + 64) (264 * e.fill) else [])).flatten

/-- Positions a session's rows need that lie at or beyond their page's FILL (R294). -/
def maskedPositions (s : State) (j : JobRec) (x : Nat × Nat × Nat) (keys : List Nat) : Nat :=
  let hi := x.2.2 + j.nq - 1
  let lo := if j.windowed then x.2.2 + 1 - j.window else 0
  ((List.range (hi + 1)).filter (fun pos => decide (lo ≤ pos) &&
    (let e := s.pte (nthD 0 keys (pos / 248)); e.state != 1 || decide (e.fill ≤ pos % 248)))).length

/-- What one session of a job gives: its writes, positions masked, and the first poisoned line if it is faulted by poison. -/
def jobSession (s : State) (j : JobRec) (lost : List Nat) (x : Nat × Nat × Nat) : Option (List (Nat × Byte) × Nat) × Option Nat :=
  let keys := jobEntries s j x
  let bad := poisonAt s.mem (queryReads j x.1 ++ pageReads s keys)
  if lost.contains x.1 || keys.isEmpty || bad.isSome then (none, bad)
  else (some (((List.range j.nq).map (fun q => attendOut s j keys (x.1 * j.nq + q) (x.2.2 + q))).flatten,
    maskedPositions s j x keys), none)

/-- Lanes at work (R307, R310, Table MEM-13): one for each leaf of the running jobs, 64 at most; a leaf is a page in DRAM for one group
of up to 8 query rows, and the leaves of a job are at work from its start to its end (DESIGN CHOICE, log entry 149). -/
def lanesBusy (s : State) : Nat :=
  Nat.min 64 (sumOf ((s.kv.jobs.filter Job.running).map (fun x =>
    let j := readJob s.mem x.offset
    sumOf ((jobSessions s.mem j.sess j.nsess).map (fun e =>
      ceilDiv j.nq 8 * ((jobEntries s j e).filter (fun k => (s.pte k).state == 1)).length)))))

/-- ATTENTION_JOB_DONE (R308, R314): outputs, then the counts, then STATUS; a job whose leaves still wait for a page goes on (DEDUCED, log entry 113). -/
def effAttentionJobDone (job : BitVec 19) (s : State) : State :=
  let o := job.toNat
  match s.kv.jobs.find? (fun x => x.offset == o && x.running) with
  | some jb =>
    if s.kv.fetches.any (fun f => f.jobs.contains o) then s
    else
      let j := readJob s.mem o
      let s := wakeBanks (recordReads s o ++ ((jobSessions s.mem j.sess j.nsess).map (fun x => queryReads j x.1)).flatten) s
      let xs := jobSessions s.mem j.sess j.nsess
      let rs := xs.map (fun x => (x, jobSession s j jb.lost x))
      let bad := rs.filter (fun r => r.2.1.isNone)
      let masked := sumOf (rs.map (fun r => match r.2.1 with
        | some y => y.2
        | none => 0))
      let writes := (rs.map (fun r => match r.2.1 with
        | some y => y.1
        | none => [])).flatten
      let counts := run (jobAddr o + 48) (leBytes 4 jb.soft ++ leBytes 2 bad.length ++ leBytes 2 (match bad.head? with
        | some r => r.1.1
        | none => 0))
      let s1 := writeMem counts (writeMem writes (wakeBanks (writes.map Prod.fst) s))
      let s2 := setStatus o (if bad.isEmpty then 2 else 3)
        (onKv (fun v => { v with jobs := v.jobs.filter (fun x => !(x.offset == o && x.running)) }) s1)
      let s3 := if masked = 0 then s2 else raise { code := 0x0506 } (bump 0x00080020 masked s2)
      rs.foldl (fun u r => match r.2.2, s.live? r.1.2.1 with
        | some a, some i =>
          let v := markReplay 0 0 (raise { code := 0x0502, info0 := a } u)
          if (poisonAt s.mem (pageReads s (jobEntries s j r.1))).isSome then dropKv i 0x0505 v else v
        | _, _ => u) s3
  | none => s

/-- PARTITION_REQUEST (R290). -/
def execPartitionRequest (iface : Iface) (stageGib kvGib : BitVec 8) (s : State) : Host.Outcome State Fault Refusal := done (effPartitionRequest iface stageGib kvGib s)
/-- SOFT_FAULT_FETCH_DONE (R298). -/
def execSoftFaultFetchDone (page : Nat) (readStep : Nat) (headerOk : Bool) (s : State) : Host.Outcome State Fault Refusal := done (effSoftFaultFetchDone page readStep headerOk s)
/-- KV_SPILL_DONE (R296). -/
def execKvSpillDone (session entry : Nat) (s : State) : Host.Outcome State Fault Refusal := done (effKvSpillDone session entry s)
/-- ATT_DOORBELL (R308). -/
def execAttDoorbell (offset : BitVec 19) (s : State) : Host.Outcome State Fault Refusal := done (effAttDoorbell offset s)
/-- ATTENTION_JOB_START (R313). -/
def execAttentionJobStart  (s : State) : Host.Outcome State Fault Refusal := done (effAttentionJobStart s)
/-- ATTENTION_JOB_DONE (R314). -/
def execAttentionJobDone (job : BitVec 19) (s : State) : Host.Outcome State Fault Refusal := done (effAttentionJobDone job s)

end Sys2Proof.Machine
end

