-- ==== Sys2Proof/Machine/Batch.lean ====
section
/-! DEFINITION. The batcher, district loads, mirrors and thresholds (R78, R182 to R190, R198 to R201, R209, R304, R370, R379,
R388, R390). -/

namespace Sys2Proof.Machine

/-! Front control messages (Table FRO-3). -/

/-- The lead: the lowest rank of the membership (R383). -/
def State.lead (s : State) : Option Nat := firstBelow 32 (fun i => bit s.front.members i)

/-- The bytes of a front control message of this member. -/
def frontBytes (s : State) (ctype newEpoch set stepNo : Nat) (batch : List Byte) : List Byte :=
  List.replicate 4 0xFF#8 ++ leBytes 1 ctype ++ leBytes 1 s.myRank ++ leBytes 2 0 ++ leBytes 4 s.epoch ++
    leBytes 4 (s.word 0x00060108).toNat ++ leBytes 4 (s.word 0x0006010C).toNat ++ leBytes 4 newEpoch ++ leBytes 4 set ++
    leBytes 4 stepNo ++ batch

/-- The PEER sessions held, by slot. -/
def peers (s : State) : List Nat := sessionsWhere s (fun x => x.kind == 1 && x.state == .opened)

/-- A front control message sent on every PEER session. -/
def tellPeers (ctype newEpoch set stepNo : Nat) (batch : List Byte) (s : State) : State :=
  (peers s).foldl (fun u i => sendMsg i typPeer (frontBytes s ctype newEpoch set stepNo batch) false u) s

/-! The token step boundary (R78, R200, R304, R377, R379, R397). -/

/-- A region of a mirror: in the layer ROUTE names, or in another that holds matrices of its experts. -/
def Region.isMirror (root : Nat) (r : Region) (m : Nat × Nat × Nat) : Bool :=
  r.routed && r.expert == m.2.1 && r.inst == m.2.2 && (r.layer == m.1 || Config.expertsOf root r.layer == m.1)

/-- Mirrors join, those granted once MIRROR_LOAD_DONE has made them resident, and leave at a boundary; CON_MIRROR for each expert whose
count changes (R200) (DEDUCED, log entries 32 and 96). -/
def changeMirrors (s : State) : State :=
  let out := s.bat.leaving.filter (fun m => s.bat.mirrors.any (fun x => (x.layer, x.expert, x.inst) == m && x.resident))
  let gone := s.arr.regions.filter (fun r => s.bat.leaving.any (r.isMirror s.modelRoot))
  let joins := s.arr.joining.filter (mayJoin s)
  let s1 := countChanges joins out (gone.foldl freeRegion s)
  { s1 with arr := { s1.arr with joining := s1.arr.joining.filter (fun m => !joins.contains m && !s.bat.leaving.contains m) }
            bat := { s1.bat with leaving := []
                                 mirrors := s1.bat.mirrors.filter (fun m => !s.bat.leaving.contains (m.layer, m.expert, m.inst)) } }

/-- The thresholds of R209 that apply from the next token step. -/
def changeThetas (s : State) : State :=
  if s.arr.forecast.any (fun e => e.2.next.isSome) then
    { s with arr := { s.arr with forecast := s.arr.forecast.map (fun e => (e.1, { e.2 with theta := e.2.next.getD e.2.theta, next := none })) } }
  else s

/-- Shares whose rank is back, with their regions resident there, return to it (R400). -/
def returnShares (s : State) : State :=
  { s with front := { s.front with adoptions := s.front.adoptions.filter (fun a => !(a.back && a.home)) } }

/-- What changes at a token step boundary. -/
def boundary (s : State) : State := returnShares (changeThetas (changeMirrors s))

/-- A session's positions past a completed step (R292, R367, R370) (DEDUCED, log entry 32). -/
def passStep (s : State) (e : Nat × Nat) : State :=
  let x := s.sess e.1
  if x.state = .opened then
    onSess e.1 (fun y => { y with pos := y.pos + Nat.max 1 e.2, pending := y.pending - e.2, lastActive := s.ao, since := s.now }) s
  else s

/-- A batch that still reads poison after its re-executions (R379) (DEDUCED, log entry 118). -/
def computeError (st : TokenStep) (s : State) : State :=
  st.sessions.foldl (fun u e => if (u.sess e.1).state = .opened then sendStatus e.1 0x0022 [] (endGeneration e.1 8 u) else u)
    (raise { code := 0x0805 } s)

/-- Does a batch hold a session that asked for headroom replay (R78)? -/
def asksReplay (s : State) (st : TokenStep) : Bool := !st.fidelity && st.sessions.any (fun e => (s.sess e.1).replay)

/-- The formed step after a re-execution begins: its latches cleared, ATTEMPT raised (R159). -/
def again (st : TokenStep) (s : State) : State :=
  { s with bat := { s.bat with step := some st }, arr := { s.arr with replays := [] }
           front := { s.front with attempt := (s.front.attempt + 1) % 256, frames := [] } }

/-- The end of the formed step: none, or the step to be executed again. -/
def endStep (s : State) : State × Bool :=
  match s.bat.step with
  | none => (boundary { s with arr := { s.arr with replays := [] } }, true)
  | some st =>
    if s.arr.replays.any (fun r => decide (r.2 ≤ 2)) then
      if st.retries < 2 then (again { st with retries := st.retries + 1 } s, false)
      else
        (boundary (computeError st { s with bat := { s.bat with step := none }, arr := { s.arr with replays := [] },
                                                 front := { s.front with attempt := 0, frames := [] } }), true)
    else if s.arr.replays.any (fun r => r.2 == 3) && !st.headroom && asksReplay s st then
      (again { st with headroom := true } (raise { code := 0x010A } s), false)
    else
      let s1 := st.sessions.foldl passStep { s with bat := { s.bat with step := none }, arr := { s.arr with replays := [] } }
      (boundary { s1 with front := { s1.front with attempt := 0, frames := [] } }, true)

/-! Forming a step (R187, R190, R370, R378). -/

/-- Does a district's step need a share that is not loaded (R399)? -/
def shareMissing (s : State) (d : Nat) : Bool := s.front.adoptions.any (fun a => !a.done && Config.needsShare s.modelRoot a.share d)

/-- The queues of resident districts that still form steps: district and class. -/
def openQueues (s : State) : List (Nat × Bool) :=
  ((List.range s.bat.slots.length).filterMap (fun i =>
    if s.bat.load.any (fun l => l.slot == i) then none else (nthD {} s.bat.slots i).district.filter (fun d => districtTrimmed s d && !shareMissing s d))).flatMap (fun d => [(d, true), (d, false)])

/-- A queue's sessions, oldest wait first. -/
def queueOf (s : State) (q : Nat × Bool) : List (Nat × Session) :=
  (readyIn s q.1).filter (fun e => e.2.fidelity == q.2 && s.bat.leaveOut != some e.1)

/-- The eligible queue whose oldest session has waited longest; ties to fidelity, then the lower district. -/
def nextQueue (s : State) : Option (Nat × Bool) :=
  let qs := (openQueues s).filter (fun q => !(queueOf s q).isEmpty)
  let age (q : Nat × Bool) : Nat := match (queueOf s q).head? with
    | some e => e.2.since
    | none => 0
  (sortBy age (sortBy (fun q => b01 (!q.2)) (sortBy Prod.fst qs))).head?

/-- Prefill chunks of sessions in order, within the budget left (R370). -/
def chunksOf (chunk : Nat) : Nat → List (Nat × Session) → List (Nat × Nat)
  | _, [] => []
  | budget, e :: r =>
    let n := Nat.min (Nat.min chunk e.2.pending) budget
    if n = 0 then [] else (e.1, n) :: chunksOf chunk (budget - n) r

/-- The sessions of a step formed from a queue: decode sessions, then prefill chunks. -/
def stepSessions (s : State) (q : Nat × Bool) : List (Nat × Nat) :=
  let all := queueOf s q
  let decode := (all.filter (fun e => e.2.pending == 0)).take (s.policy 0x000A0208 16 8)
  decode.map (fun e => (e.1, 0)) ++
    chunksOf (s.field 0x00060020 15 0) (s.field 0x00060020 31 16) (all.filter (fun e => e.2.pending != 0))

/-- May a token step form now (R390, R398, R437, R446, R476)? -/
def mayForm (s : State) : Bool :=
  !s.bat.held && !s.pow.limit && s.bat.model.isSome && (s.fstate == 0 || (s.fstate == 2 && s.lead == some s.myRank))

/-- A step formed: announced in a front (R390); a session left out becomes the victim (R378). -/
def formFrom (q : Nat × Bool) (s : State) : State :=
  let no := if s.fstate = 2 then s.front.stepNo + 1 else 0
  let st : TokenStep := { district := q.1, fidelity := q.2, sessions := stepSessions s q, number := no }
  let s1 := onBat (fun b => { b with step := some st, leaveOut := none, inForce := policyWords s
                                     slots := b.slots.map (fun x => if x.district = some q.1 then { x with stepped := s.now } else x) }) s
  let s2 := if s.fstate = 2 then
      tellPeers 6 0 0 no ((st.sessions.map (fun e => leBytes 4 (s.handle e.1) ++ leBytes 4 e.2)).flatten)
        { s1 with front := { s1.front with stepNo := no } }
    else s1
  match s.bat.leaveOut with
  | some i =>
    if (dramKeys s2 i).isEmpty then s2
    else if spillRefused s2 then refuseSpill i s2
    else onStore (fun x => { x with spilling := (dramKeys s2 i).foldl addOnce x.spilling }) s2
  | none => s2

/-- TOKEN_STEP_FORM (R187): the formed step ends or is executed again; the next forms. -/
def effTokenStepForm (s : State) : State :=
  match endStep s with
  | (s1, false) => s1
  | (s1, true) =>
    let s2 := tryLoad s1
    if mayForm s2 then
      match nextQueue s2 with
      | some q => formFrom q s2
      | none => s2
    else s2

/-! District loads (R184, R188 to R190). -/

/-- SWITCH_AGE_EXPIRY (R188). -/
def effSwitchAgeExpiry (d : Nat) (s : State) : State :=
  if (readyIn s d).isEmpty || residentDistrict s d || s.bat.load.any (fun l => l.district == d) then s
  else
    tryLoad (onBat (fun b => { b with aged := if crowded s d then b.aged else addOnce b.aged d })
      (reach (oldestWait s d + s.policy 0x000A0200 15 0 * msHalves) s))

/-- DWELL_EXPIRY (R189). -/
def effDwellExpiry (slot : Fin 2) (s : State) : State :=
  match s.bat.slots[slot.val]? with
  | some x => if x.district.isSome then tryLoad (reach (x.since + s.policy 0x000A0204 31 16 * msHalves) s) else s
  | none => s

/-- DISTRICT_LOAD_START (R184, R190): once the last formed step of the slot's district is done, the slot is no longer resident; a
district that is not staged takes staging pages. -/
def effDistrictLoadStart (s : State) : State :=
  match s.bat.load, s.bat.model with
  | some l, some _ =>
    let old := (nthD {} s.bat.slots l.slot).district
    if l.start.isSome || (old.isSome && s.bat.step.any (fun t => some t.district == old)) then s
    else
      restage l.district (onBat (fun b => { b with
        load := some { l with start := some s.now, staged := b.staged.contains l.district }
        slots := setNth b.slots l.slot (fun x => { x with district := none }) }) s)
  | _, _ => s

/-- DISTRICT_LOAD_DONE (R183, R184, R190): with its regions trimmed the district is resident, and its image staged; no step of it has
run yet. -/
def effDistrictLoadDone (s : State) : State :=
  match s.bat.load with
  | some l =>
    match l.start, districtTrimmed s l.district with
    | some t, true =>
      let s1 := stageAll l.district (onBat (fun b => { b with load := none, slots := setNth b.slots l.slot (fun x =>
        { x with district := some l.district, since := s.now, stepped := 0 }) }) s)
      let src := if l.staged then 0 else 1
      tryLoad (raiseAll ({ code := 0x030D, info0 := src, info1 := (s.now - t) / usHalves } ::
        (if l.aged then [{ code := 0x030E }] else [])) (bump 0x000A021C 1 s1))
    | _, _ => s
  | none => s

/-! Mirrors (R198 to R201). -/

/-- Mirrors an expert wants: hot experts only (R198). -/
def wantedMirrors (hot most total e a : Nat) : Nat :=
  if total ≠ 0 ∧ hot * total ≤ 2 * a * e ∧ a ≠ 0 then Nat.min most (ceilDiv (a * e) total - 1) else 0

/-- One layer's grants in the making: mirrors held, those that leave, free slots, and whether a wish was not granted. -/
structure Grants where
  held : List Mirror
  leaving : List (Nat × Nat × Nat)
  free : Nat
  short : Bool := false
  deriving DecidableEq, Repr

/-- Mirrors of an expert. -/
def Grants.count (g : Grants) (e : Nat) : Nat := (g.held.filter (fun m => m.expert == e)).length

/-- An expert's highest-numbered mirror is given up. -/
def Grants.drop (layer e : Nat) (g : Grants) : Grants :=
  let i := g.count e
  { g with held := g.held.filter (fun m => !(m.expert == e && m.inst == i)), leaving := g.leaving ++ [(layer, e, i)], free := g.free + 1 }

/-- One more mirror for an expert: a free slot, else one of the last expert of the order after it that holds one (R199) (DEDUCED, log entry 126). -/
def Grants.grant (layer : Nat) (later : List Nat) (e : Nat) (g : Grants) : Grants :=
  let add (g : Grants) : Grants :=
    { g with held := g.held ++ [{ layer := layer, expert := e, inst := g.count e + 1 }], free := g.free - 1 }
  if 0 < g.free then add g
  else
    match later.reverse.find? (fun x => decide (0 < g.count x)) with
    | some x => add (g.drop layer x)
    | none => { g with short := true }

/-- Surplus mirrors are counted, and given up after two windows (R199). -/
def Grants.age (layer : Nat) (want : Nat → Nat) (e : Nat) (g : Grants) : Grants :=
  let held := g.held.map (fun m =>
    if m.expert = e then { m with surplus := if want e < m.inst then m.surplus + 1 else 0 } else m)
  let old := (held.filter (fun m => m.expert == e && decide (2 ≤ m.surplus))).length
  (List.range old).foldl (fun g _ => g.drop layer e) { g with held := held }

/-- A layer's grants at a window's end. -/
def grantLayer (s : State) (root layer experts : Nat) : Grants :=
  let a (e : Nat) : Nat := look 0 s.bat.demand (layer * 256 + e)
  let total := sumOf ((List.range experts).map a)
  let want := fun e => wantedMirrors (s.policy 0x000A0208 7 4) (s.policy 0x000A0208 3 0) total experts (a e)
  let order := sortBy (fun e => total - a e) (List.range experts)
  let held := s.bat.mirrors.filter (fun m => m.layer == layer && !s.bat.leaving.contains (m.layer, m.expert, m.inst))
  let g0 : Grants := { held := held, leaving := [], free := Config.mirrorSlots root layer - held.length }
  let g1 := order.foldl (fun g e => g.age layer want e) g0
  (List.range order.length).foldl (fun g i =>
    let e := nthD 0 order i
    (List.range (want e - g.count e)).foldl (fun g _ => g.grant layer (order.drop (i + 1)) e) g) g1

/-- MIRROR_WINDOW_END (R198, R199). -/
def effMirrorWindowEnd (s0 : State) : State :=
  match s0.bat.model with
  | none => s0
  | some m =>
    let s := reach (s0.bat.windowAt + s0.policy 0x000A020C 7 0 * sHalves) s0
    let gs := s.bat.experts.map (fun e => (e.1, grantLayer s m.1 e.1 e.2))
    let seen (l : Nat) : Bool := gs.any (fun g => g.1 == l)
    let s1 := onBat (fun b => { b with
      mirrors := b.mirrors.filter (fun x => !seen x.layer || b.leaving.contains (x.layer, x.expert, x.inst)
          || gs.any (fun g => g.2.leaving.contains (x.layer, x.expert, x.inst))) ++ (gs.map (fun g => g.2.held)).flatten
      leaving := (gs.map (fun g => g.2.leaving)).flatten.foldl addOnce b.leaving
      demand := [], windowAt := s.now }) s
    if gs.any (fun g => g.2.short) then raise { code := 0x030A } s1 else s1

/-- MIRROR_LOAD_DONE (R200): a granted mirror's regions are all resident; it joins at the next boundary (DEDUCED, log entry 96). -/
def effMirrorLoadDone (layer expert inst : Nat) (s : State) : State :=
  let m := (layer, expert, inst)
  if s.bat.mirrors.any (fun x => (x.layer, x.expert, x.inst) == m && !x.resident)
      && !s.arr.regions.any (fun r => r.state != .resident && r.isMirror s.modelRoot m) then
    joinMirror m { s with bat := { s.bat with mirrors := s.bat.mirrors.map (fun x =>
               if (x.layer, x.expert, x.inst) = m then { x with resident := true } else x) } }
  else s

/-! Thresholds (R209). -/

/-- A threshold moved by ± Δ within its limits, FP16 (R98), and whether a limit was reached. -/
def moveTheta (f : ForecastLayer) (up : Bool) : Nat × Bool :=
  let v (c : Nat) : F32 := fval (fmtFP16.decode c)
  let d := v f.delta
  let x := fAdd (v f.theta) (if up then d else fNeg d)
  if fLt x (v f.thetaMin) || fdec x == fdec (v f.thetaMin) then (f.thetaMin, true)
  else if fLt (v f.thetaMax) x || fdec x == fdec (v f.thetaMax) then (f.thetaMax, true)
  else ((EType.fp16.encode x).1, false)

/-- A new window begins; its threshold applies at once, or where a token step is formed from the next one (R209). -/
def ForecastLayer.restart (f : ForecastLayer) (inStep : Bool) (theta : Nat) : ForecastLayer :=
  { f with theta := if inStep then f.theta else theta, next := if inStep then some theta else none, sumA := 0, sumM := 0, sumK := 0, audits := 0 }

/-- The detail of CON_FORECAST_MISS: the layer and both sums, 24 bits of each (DESIGN CHOICE, log entry 146). -/
def missRaise (layer a m : Nat) : Raise :=
  { code := 0x030B, info0 := layer % 65536 + 65536 * (a / 65536 % 256) + 2 ^ 24 * (m / 65536 % 256), info1 := m % 65536 * 65536 + a % 65536 }

/-- THETA_RETUNE (R209): after AUDIT_WINDOW audits of a layer. -/
def effThetaRetune (layer : Nat) (s : State) : State :=
  let f0 := look {} s.arr.forecast layer
  let f := { f0 with theta := f0.next.getD f0.theta }
  if f.audits < s.policy 0x000A020C 15 8 then s
  else
    let target := s.policy 0x000A020C 31 16
    let down := decide (5 * target * f.sumA < 4 * 65536 * f.sumM)
    let up := decide (2 * 65536 * f.sumM < target * f.sumA)
    let r := if f.sumA = 0 then (f.theta, false) else if down then moveTheta f false else if up then moveTheta f true else (f.theta, false)
    let miss := decide (8 * target * f.sumA < 65536 * f.sumM)
    raiseAll ((if miss then [missRaise layer f.sumA f.sumM] else [])
        ++ (if r.2 then [{ code := 0x030C, info0 := layer }] else []))
      { s with arr := { s.arr with forecast := put {} s.arr.forecast layer (f0.restart s.bat.step.isSome r.1) } }

/-- TOKEN_STEP_FORM (R187). -/
def execTokenStepForm  (s : State) : Host.Outcome State Fault Refusal := done (effTokenStepForm s)
/-- SWITCH_AGE_EXPIRY (R188). -/
def execSwitchAgeExpiry (district : Nat) (s : State) : Host.Outcome State Fault Refusal := done (effSwitchAgeExpiry district s)
/-- DWELL_EXPIRY (R189). -/
def execDwellExpiry (slot : Fin 2) (s : State) : Host.Outcome State Fault Refusal := done (effDwellExpiry slot s)
/-- DISTRICT_LOAD_START (R190). -/
def execDistrictLoadStart  (s : State) : Host.Outcome State Fault Refusal := done (effDistrictLoadStart s)
/-- DISTRICT_LOAD_DONE (R190). -/
def execDistrictLoadDone  (s : State) : Host.Outcome State Fault Refusal := done (effDistrictLoadDone s)
/-- MIRROR_WINDOW_END (R198). -/
def execMirrorWindowEnd  (s : State) : Host.Outcome State Fault Refusal := done (effMirrorWindowEnd s)
/-- MIRROR_LOAD_DONE (R200). -/
def execMirrorLoadDone (layer expert inst : Nat) (s : State) : Host.Outcome State Fault Refusal := done (effMirrorLoadDone layer expert inst s)
/-- THETA_RETUNE (R209). -/
def execThetaRetune (layer : Nat) (s : State) : Host.Outcome State Fault Refusal := done (effThetaRetune layer s)

end Sys2Proof.Machine
end

