-- ==== Sys2Proof/Machine/SweepIssue.lean ====
section
/-! DEFINITION. SWEEP at issue: its encoding, its checks and its way into the queue (R19, R21, R73, R155, R157, R160,
R258 to R260). -/

namespace Sys2Proof.Machine

/-- A SWEEP's slots and registers, for its refusals (R245). -/
structure SweepSlots where
  din : Nat := 0
  d0 : Nat := 0
  d1 : Nat := 0
  ds : Nat := 0
  dr : Nat := 0
  db : Nat := 0
  rdisp : Nat := 0
  ract : Nat := 0
  rtm : Nat := 0
  rcm : Nat := 0
  rss : Nat := 0
  deriving DecidableEq, Repr

/-- Bits [hi:lo] of an extension word. -/
def xf (w : Word64) (hi lo : Nat) : Nat := bits w.toNat hi lo

/-- The slots and registers of a SWEEP's words. -/
def sweepSlots (w : Head) (w1 w2 w3 : Word64) : SweepSlots :=
  { din := fld w 40 33, d0 := fld w 32 25, d1 := fld w 24 17, ds := fld w 16 9, dr := fld w 8 1, db := xf w2 61 54,
    rdisp := xf w1 37 32, ract := xf w1 31 26, rtm := xf w1 25 20, rcm := xf w1 19 14, rss := xf w3 61 56 }

/-- The word index of a SWEEP's first illegal field (Table STI-7, R259). -/
def sweepBad (w : Head) (w1 w2 w3 : Word64) : Option Nat :=
  let d0en := bit w2.toNat 63
  let quant := bit w2.toNat 44
  let stat := xf w2 50 48
  let esc := xf w2 42 39
  let ok0 := fld w 0 0 == 0 && (d0en || fld w 32 25 == 0) && (quant || fld w 24 17 == 0) && (stat != 0 || fld w 16 9 == 0)
    && (bit w2.toNat 51 || fld w 8 1 == 0)
  let ok1 := decide (xf w1 43 42 < 2) && xf w1 45 44 != 3 && xf w1 39 38 != 3 && xf w1 12 0 == 0
    && (!bit w1.toNat 41 || xf w1 43 42 == 0) && (xf w1 43 42 == 0 || xf w1 47 46 % 2 == 0)
    && (xf w1 37 32 != 0 || (xf w1 39 38 == 0 && !bit w1.toNat 13))
  let ok2 := (bit w2.toNat 62 || xf w2 61 54 == 0) && stat != 7 && (stat == 6 || xf w2 47 45 == 0) && (d0en || quant)
    && (quant || (!bit w2.toNat 43 && esc == 0)) && decide (esc ≤ 8) && xf w2 36 0 == 0
  let ok3 := xf w3 63 62 != 3 && (xf w3 63 62 != 0 || xf w3 61 56 == 0) && xf w3 23 0 == 0
  if !ok0 then some 0 else if !ok1 then some 1 else if !ok2 then some 2 else if !ok3 then some 3 else none

/-- A register's value at issue, none for g0. -/
def regOpt (s : State) (t : Who) (i : Nat) : Option Nat := if i = 0 then none else some (s.g t i).toNat

/-- A SWEEP with the values it reads at issue; in a headroom replay its gain is 1 (R78). -/
def readSweep (s : State) (t : Who) (w : Head) (w1 w2 w3 : Word64) (din : Desc) : SweepOp :=
  let k := sweepSlots w w1 w2 w3
  let x := s.thr t.num
  let d (on : Bool) (i : Nat) : Option Desc := if on then x.desc i else none
  { layer := xf w1 63 48, place := xf w1 47 46, gsize := xf w1 45 44, auto := xf w1 43 42 == 1 && !s.bat.step.any TokenStep.headroom, fidelity := bit w1.toNat 41,
    acc := bit w1.toNat 40, sweepNo := xf w1 39 38, din := din, d0 := d (bit w2.toNat 63) k.d0, d1 := d (bit w2.toNat 44) k.d1,
    ds := d (xf w2 50 48 != 0) k.ds, dr := d (bit w2.toNat 51) k.dr, db := d (bit w2.toNat 62) k.db,
    disp := regOpt s t k.rdisp, actWords := regOpt s t k.ract, tokMask := regOpt s t k.rtm, chMask := regOpt s t k.rcm,
    inrow := bit w1.toNat 13, act := xf w2 53 52, stat := xf w2 50 48, topk := xf w2 47 45, qrow := bit w2.toNat 43,
    escMax := xf w2 42 39, ratio := ratioOf (xf w2 38 37), send := xf w3 63 62, sess := (s.g t k.rss).toNat % 2 ^ 32,
    stream := xf w3 55 24 }

/-! The checks of Table STI-8. -/

/-- The input width of a layer: where its last region's input ends (DEDUCED, log entry 15). -/
def layerInput (rs : List Region) : Nat := maxOf (rs.map (fun r => r.inelem0 + r.inwidth))

/-- Do CHANNELS end within the layer's last 256 output columns (DEDUCED, log entry 15)? -/
def outWidthOk (rs : List Region) (n : Nat) : Bool :=
  let top := 32 * maxOf (rs.map Region.outvec0)
  decide (top < n) && decide (n ≤ top + 256)

/-- Does a mask of n bits at an address lie in one hub or stack-base bank (R143, R258)? -/
def inBank (n a : Nat) : Bool :=
  match bankOf a with
  | some b => let r := bankRange b; decide (r.1 ≤ a) && decide (a + ceilDiv n 8 ≤ r.1 + r.2)
  | none => false

/-- Types of destination 0 and the bias (R138, Table ACC-2). -/
def chainType (d : Desc) : Bool := d.etype == .fp32 || d.etype == .bf16 || d.etype == .fp16

/-- May a sweep read a descriptor's allocation, or write it, or append through it (Table MEM-2, R295)? -/
def kindIn (m : Mem) (d : Desc) : Bool := d.kind m != 4 && d.kind m != 6

/-- The form of a KVAPPEND destination (R295). -/
def appendOk (m : Mem) (d : Desc) : Bool :=
  kindIn m d || (d.kind m == 6 && d.etype == .e4m3 && d.block == 32 && d.stype == .e8m0 && d.channels == 256)

/-- Check 4: the slot or register of the first operand that breaks it. A mask outside the banks (R143, R258) is refused here too, with
its register: Table STI-8 has no check for it (DESIGN CHOICE, log entry 137). -/
def sweepOperands (m : Mem) (rs : List Region) (op : SweepOp) (k : SweepSlots) : Option Nat :=
  let wide (d : Desc) : Bool := d.channels == op.width && outWidthOk rs d.channels
  let opt (d : Option Desc) (p : Desc → Bool) : Bool := match d with
    | some x => p x
    | none => true
  firstBad
    [(k.d0, opt op.d0 (fun d => chainType d && wide d && d.wr && appendOk m d) && (!op.acc || op.d0.isSome)),
     (k.d1, opt op.d1 (fun d => (d.etype == .act8 || d.etype == .e4m3 || d.etype == .e5m2) && wide d && d.wr
        && (op.escMax == 0 || d.etype == .act8) && appendOk m d)),
     (k.ds, opt op.ds (fun d => d.etype == .fp32 && d.wr && d.channels == statChannels (statKind op.stat) && kindIn m d)),
     (k.dr, opt op.dr (fun d => (chainType d || d.etype == .act8) && wide d && kindIn m d)),
     (k.db, opt op.db (fun d => chainType d && wide d && kindIn m d)),
     (k.rtm, op.tokMask.all (inBank op.din.rows)), (k.rcm, op.chMask.all (inBank op.din.vecs))]

/-- Check 5: the slot whose row count disagrees: SIZE1 without dispatch, so that the further dimensions of a KVAPPEND destination do not
count. -/
def sweepRowCounts (m : Mem) (op : SweepOp) (k : SweepSlots) : Option Nat :=
  let outs := [(k.d0, op.d0), (k.d1, op.d1), (k.ds, op.ds), (k.dr, op.dr)].filterMap (fun x => x.2.map (fun d => (x.1, d)))
  match op.disp with
  | none => firstBad (outs.map (fun x => (x.1, x.2.size 1 == op.din.size 1)))
  | some a =>
    let h := dispatchHeader m a
    firstBad ((k.din, op.din.rows == (if op.inrow then h.k * h.t else h.t)) :: outs.map (fun x => (x.1, x.2.rows == h.k * h.t)))

/-- Check 6: the slot of an input of Finish that overlaps a destination: destination 0 in add mode against the others, the residual, its
alias of R140 apart, and the bias. -/
def sweepOverlap (m : Mem) (op : SweepOp) (k : SweepSlots) : Option Nat :=
  let dr := match op.dr with
    | some r => !(op.dests m).any (fun d => d.overlaps r) ||
        (op.d0.any (fun d => d.sameMemory r) && !((op.d1.toList ++ op.ds.toList).filter (fun d => d.kind m != 6)).any (fun d => d.overlaps r))
    | none => true
  let db := match op.db with
    | some b => !(op.dests m).any (fun d => d.overlaps b)
    | none => true
  let d0 := !op.acc || !op.d0.any (fun a => ((op.d1.toList ++ op.ds.toList).filter (fun d => d.kind m != 6)).any (fun d => d.overlaps a))
  firstBad [(k.d0, d0), (k.dr, dr), (k.db, db)]

/-- Check 7: the register whose use the layer does not allow. -/
def sweepTables (m : Mem) (rs : List Region) (op : SweepOp) (k : SweepSlots) : Option Nat :=
  firstBad
    [(k.rdisp, op.disp.all (fun a => rs.all Region.routed && (dispatchHeader m a).layer == op.layer)),
     (k.ract, op.actWords.isNone || rs.all (fun r => r.role == 2))]

/-- Check 8: a fidelity sweep on an uncovered column (R92). -/
def sweepUncovered (s : State) (rs : List Region) (op : SweepOp) : Bool :=
  op.fidelity && rs.any (fun r => analog r.place && (s.pair r.apair).uncovered)

/-- Check 9: what of a fused send is not allowed (R157, R160); mtu is the path MTU of the PEER session named, if it is one (DEDUCED, log entry 125). -/
def sweepSend (op : SweepOp) (k : SweepSlots) (mtu : Option Nat) : Option Nat :=
  if op.send = 0 then none
  else
    let typed := op.d0.any (fun d => d.etype == .fp32 || d.etype == .bf16)
    let bare := op.db.isNone && op.act == 0 && op.dr.isNone && op.stat == 0 && op.d1.isNone
    let least := if op.frameType = .fp32 then 4224 else 2176
    firstBad [(k.d0, op.send == 2 || typed), (0, op.send == 1 || bare), (k.rss, mtu.any (fun x => decide (least ≤ x))),
              (0, op.stream != 0xFFFFFFFF)]

/-- The hold space of a stack base: the banks Finish owns there, less retired segments (R155, R460). -/
def holdSpace (s : State) (stack : Nat) : Nat :=
  let banks := (List.range 16).filter (fun j => s.mem.owner (8 + 16 * stack + j) == 22)
  let lost := (s.mem.segments ++ s.mem.untested).filter (fun a => (bankOf a).any (fun b => banks.any (fun j => b == 8 + 16 * stack + j)))
  banks.length * 0x1000000 - lost.length * 65536

/-- The hold need of a sweep on a stack base (R155): vector v is homed on stack v mod 16 (R256). With dispatch the unmasked tokens are
counted as the combine rows the lists name (DESIGN CHOICE, log entry 138). -/
def holdNeed (s : State) (op : SweepOp) (stack : Nat) : Nat :=
  (sweepRows s op).length * ((List.range (ceilDiv op.width 32)).filter (fun v => v % 16 == stack)).length * 128

/-- Check 10: the first stack base that cannot hold a deferred sweep. -/
def sweepHold (s : State) (op : SweepOp) : Option Nat :=
  if op.qrow then (List.range 16).find? (fun i => decide (holdSpace s i < holdNeed s op i)) else none

/-- The first check of Table STI-8 that refuses a sweep: its number and INFO1 (DEDUCED, log entry 125); scratch names an operand of
FORECAST that breaks R274, as check 4. -/
def sweepCheck (s : State) (op : SweepOp) (k : SweepSlots) (mtu : Option Nat) (scratch : Option Nat := none) : Option (Nat × Nat) :=
  let rs := layerRegions s op.layer
  let next (n : Nat) (x : Option Nat) (r : Option (Nat × Nat)) : Option (Nat × Nat) := match x with
    | some i => some (n, i)
    | none => r
  if rs.isEmpty || rs.any (fun r => r.state == .leaving) then some (1, op.layer)
  else if rs.any (fun r => r.place != op.place || r.gmode != op.gsize) then some (2, op.layer)
  else if op.din.etype != .act8 || !kindIn s.mem op.din || op.din.channels != layerInput rs
      || (op.din.stype != .none && rs.any (fun r => decide (op.din.block < r.span))) then some (3, k.din)
  else
    next 4 ((sweepOperands s.mem rs op k).orElse (fun _ => scratch)) <| next 5 (sweepRowCounts s.mem op k) <| next 6 (sweepOverlap s.mem op k) <|
      next 7 (sweepTables s.mem rs op k) <|
        if sweepUncovered s rs op then some (8, 0) else next 9 (sweepSend op k mtu) ((sweepHold s op).map (fun i => (10, i)))

/-- A sweep refused by its checks (R155, R245); the source of NUM_HOLD_CAPACITY is the stack, KIND 2 (DESIGN CHOICE, log entry 138). -/
def refuseSweep (s : State) (op : SweepOp) (r : Nat × Nat) (tag : Nat) : Effect :=
  if r.1 = 10 then
    let h := holdNeed s op r.2
    .refused (raise ⟨0x0207, r.2, h, 2, r.2, 0⟩ s) 0x19 0x0207 r.2 h tag
  else refuse r.1 r.2 tag

/-! Entering the queue (R21, R260). -/

/-- Hub threads in the order they win a free slot: PRIO first, then the rotation (R21). -/
def Sweeps.rank (p : Sweeps) (n : Nat) : Nat :=
  let r := p.rotation
  match (List.range r.length).find? (fun i => nthD 0 r i == n) with
  | some i => 64 + i
  | none => n

/-- The held SWEEP or FORECAST of a thread. -/
def State.heldSweep (s : State) (n : Nat) : Option Tx := s.arr.sweeps.waiting.find? (fun y => y.c * 8 + y.k == n)

/-- A FORECAST of a thread whose second sweep waits for the queue with its regions ready (R274). -/
def State.secondOf (s : State) (n : Nat) : Option Nat :=
  s.arr.sweeps.seconds.find? (fun num => (s.txNum num).any (fun x => x.c * 8 + x.k == n) && (s.sweepOf num).any (regionsReady s))

/-- The threads with a sweep that waits for the queue and whose regions are ready: a held SWEEP or FORECAST, or a FORECAST's second. -/
def queueWaiters (s : State) : List Nat :=
  (List.range 32).filter (fun n =>
    let x := s.thr n
    (s.secondOf n).isSome || (x.state == .waiting && x.held.any (fun h => h.kind == .sweep)
      && (s.heldSweep n).any (fun y => y.sweepOp.any (regionsReady s))))

/-- The waiting thread that enters first. -/
def queueWinner (s : State) : Option Nat :=
  let ws := queueWaiters s
  let best := sortBy (fun n => (3 - (s.thr n).prio) * 4096 + s.arr.sweeps.rank n) ws
  best.head?

/-- A transaction's sweep put last in the queue; the winner goes to the back of the rotation. -/
def enterQueue (num thread : Nat) (s : State) : State :=
  onSweeps (fun p => { p with queue := p.queue ++ [num], rotation := takeOut p.rotation thread ++ [thread] }) s

/-- The step number of a FORECAST (R207, R274): a throughput one with FIRST advances the counter and latches it for its thread (DEDUCED, log entry 16). -/
def latchStep (t : Who) (x : Tx) (s : State) : State :=
  match x.op with
  | .forecast f =>
    if f.first && !f.fidelity then
      onThr t.num (fun y => { y with stepNo := s.arr.stepNo + 1 }) { s with arr := { s.arr with stepNo := s.arr.stepNo + 1 } }
    else s
  | _ => s

/-- A FORECAST carries its thread's step number. -/
def withStep (n : Nat) (x : Tx) : Tx :=
  match x.op with
  | .forecast f => { x with op := .forecast { f with stepNo := n } }
  | _ => x

/-- A held SWEEP or FORECAST becomes a transaction, and its sweep enters the queue; the thread goes on. -/
def admitHeld (t : Who) (x : Tx) (n : Nat) (s : State) : State :=
  let s1 := latchStep t x (onSweeps (fun p => { p with waiting := p.waiting.filter (fun y => y.c * 8 + y.k != t.num) }) s)
  unhold t n (enterQueue x.num t.num (addTx (withStep (s1.thr t.num).stepNo x) s1))

/-- SWEEP_ENQUEUE (R21, R260): the thread's sweep enters when a slot is free, its regions are ready and it is first; the second sweep of
its FORECAST, issued before, goes ahead of a SWEEP that holds the thread (R274), and with that the thread goes on. -/
def effSweepEnqueue (t : Who) (s : State) : State :=
  if 2 ≤ s.arr.sweeps.queue.length ∨ s.test.holdIssue ∨ queueWinner s ≠ some t.num then s
  else
    match s.secondOf t.num with
    | some n => enterQueue n t.num (onSweeps (fun p => { p with seconds := takeOut p.seconds n }) s)
    | none =>
      match (s.thr t.num).held, s.heldSweep t.num with
      | some h, some x => admitHeld t x h.words.length s
      | _, _ => s

/-- A sweep that passed its checks holds its thread until it enters the queue (R260). -/
def submitSweep (s : State) (t : Who) (tag : Nat) (slots : List Nat) (op : TxOp) (words : List Word64) : Effect :=
  let x : Tx := { c := t.c.val, tag := tag, k := t.k.val, pc := (s.thr t.num).pc.toNat, op := op, slots := slots }
  .stay (hold t .sweep words (onSweeps (fun p =>
    { p with waiting := p.waiting.filter (fun y => y.c * 8 + y.k != t.num) ++ [x] }) s))

/-- The slots a SWEEP names as operands. -/
def sweepOperandSlots (w : Head) (w1 w2 w3 : Word64) : List Nat :=
  let k := sweepSlots w w1 w2 w3
  [k.din] ++ (if bit w2.toNat 63 then [k.d0] else []) ++ (if bit w2.toNat 44 then [k.d1] else []) ++
    (if xf w2 50 48 = 0 then [] else [k.ds]) ++ (if bit w2.toNat 51 then [k.dr] else []) ++ (if bit w2.toNat 62 then [k.db] else [])

/-- SWEEP at issue; mtu gives the path MTU of a PEER session. -/
def effSweepWith (mtu : State → Nat → Option Nat) (t : Who) (w : Head) (w1 w2 w3 : Word64) (s : State) : State :=
  issue t (tensor 0xA0 w [w1, w2, w3] true true false (sweepBad w w1 w2 w3))
    (fun s =>
      let tag := fld w 49 41
      let slots := sweepOperandSlots w w1 w2 w3
      operands s t slots tag (fun ds =>
        match ds with
        | din :: _ =>
          let op := readSweep s t w w1 w2 w3 din
          match sweepCheck s op (sweepSlots w w1 w2 w3) (mtu s op.sess) with
          | some r => refuseSweep s op r tag
          | none => submitSweep s t tag slots (.sweep op) [fullWord 0xA0 w, w1, w2, w3]
        | [] => .fail 0x15 0 0 tag)) s

/-- SWEEP_ENQUEUE (R260). -/
def execSweepEnqueue (t : Who) (s : State) : Host.Outcome State Fault Refusal := done (effSweepEnqueue t s)

end Sys2Proof.Machine
end

