-- ==== Sys2Proof/Machine/Route.lean ====
section
/-! DEFINITION. ROUTE and FORECAST (R191 to R197, R201 to R207, R271 to R274). -/

namespace Sys2Proof.Machine

/-! ROUTE's computation. -/

/-- The capacity of an instance in one sweep (R193). -/
def routeCapacity (cap t k e : Nat) : Nat := (cap * t * k + 64 * e - 1) / (64 * e)

/-- The instance of a token's position among n (R201). -/
def mirrorHash (pos : Int) (n : Nat) : Nat := (pos * 0x9E3779B1 % 2 ^ 32).toNat * n / 2 ^ 32

/-- One entry of a token's final set: its expert and logit, where it is placed (instance, sweep, order), and its gate. -/
structure Pick where
  e : Nat
  l : F32
  place : Option (Nat × Nat × Nat) := none
  dropped : Bool := false
  g : F32 := fZero
  deriving DecidableEq, Repr

/-- A token's final set and candidates. -/
structure RouteToken where
  t : Nat
  pos : Int
  picks : List Pick
  cands : List Nat
  deriving DecidableEq, Repr

/-- Gates of logits in set order (R192). -/
def gates (sigmoid : Bool) (ls : List F32) : List F32 :=
  let l0 := ls.headD fZero
  let es := ls.map (fun l => if sigmoid then sigmoid32 l else exp32 (fSub l l0))
  let sum := match es with
    | [] => fOne
    | e :: r => r.foldl fAdd e
  es.map (fun e => fDiv e sum)

/-- Gates of a set recomputed, dropped entries apart (DEDUCED, log entry 34). -/
def regate (sigmoid : Bool) (ps : List Pick) : List Pick :=
  let gs := gates sigmoid ((ps.filter (fun p => !p.dropped)).map Pick.l)
  let step (acc : List Pick × List F32) (p : Pick) : List Pick × List F32 :=
    if p.dropped then (acc.1 ++ [p], acc.2) else (acc.1 ++ [{ p with g := acc.2.headD fZero }], acc.2.drop 1)
  (ps.foldl step ([], gs)).1

/-- A token's choices and candidates (R191): experts with NaN logits are never chosen. -/
def chooseToken (sigmoid : Bool) (k t : Nat) (pos : Int) (ls : List F32) : RouteToken :=
  let order := (sortBy (fun i => topRank (nthD fZero ls i)) (List.range ls.length)).filter (fun i => !fIsNaN (nthD fZero ls i))
  { t := t, pos := pos, picks := regate sigmoid ((order.take k).map (fun e => { e := e, l := nthD fZero ls e })),
    cands := (order.drop k).take 2 }

/-- The placing of assignments: room taken by (expert × 9 + instance) × 3 + sweep, and the number placed. -/
structure Placing where
  fill : List (Nat × Nat) := []
  placed : Nat := 0
  deriving DecidableEq, Repr

/-- An assignment placed in the lowest sweep with room on its hashed instance (R194). -/
def Placing.tryPlace (c : Nat) (instances : List Nat) (e : Nat) (pos : Int) (p : Placing) : Option ((Nat × Nat × Nat) × Placing) :=
  let i := mirrorHash pos (Nat.max 1 (nthD 1 instances e))
  ((List.range 3).find? (fun s => decide (look 0 p.fill (directoryIndex e i s) < c))).map (fun s =>
    ((i, s, p.placed), { fill := change 0 p.fill (directoryIndex e i s) (· + 1), placed := p.placed + 1 }))

/-- All of ROUTE's working state. -/
structure Routing where
  tokens : List RouteToken
  placing : Placing := {}
  /-- Unplaced assignments in placement order: token index and expert. -/
  unplaced : List (Nat × Nat) := []
  reassigned : Nat := 0
  dropped : Nat := 0
  deriving DecidableEq, Repr

/-- Rank r of the j-th token placed, or noted as unplaced (R194). -/
def placeRank (c : Nat) (instances : List Nat) (r : Nat) (x : Routing) (j : Nat) : Routing :=
  match x.tokens[j]? with
  | none => x
  | some tk =>
    match tk.picks[r]? with
    | none => x
    | some p =>
      match x.placing.tryPlace c instances p.e tk.pos with
      | some (at_, pl) =>
        { x with placing := pl, tokens := setNth x.tokens j (fun t => { t with picks := setNth t.picks r (fun q => { q with place := some at_ }) }) }
      | none => { x with unplaced := x.unplaced ++ [(j, p.e)] }

/-- An unplaced assignment reassigned to a candidate, or dropped (R195) (DEDUCED, log entry 34). -/
def reassign (sigmoid : Bool) (c : Nat) (instances : List Nat) (logits : Nat → List F32) (x : Routing) (u : Nat × Nat) : Routing :=
  match x.tokens[u.1]? with
  | none => x
  | some tk =>
    let free := tk.cands.filter (fun e => !tk.picks.any (fun p => p.e == e))
    match free.findSome? (fun e => (x.placing.tryPlace c instances e tk.pos).map (fun r => (e, r))) with
    | some (e, at_, pl) =>
      let l := nthD fZero (logits tk.t) e
      let ps := tk.picks.map (fun p => if p.e == u.2 then { p with e := e, l := l, place := some at_ } else p)
      let sorted := sortBy (fun p => topRank p.l * 512 + p.e) ps
      { x with placing := pl, reassigned := x.reassigned + 1,
               tokens := setNth x.tokens u.1 (fun t => { t with picks := regate sigmoid sorted }) }
    | none =>
      { x with dropped := x.dropped + 1,
               tokens := setNth x.tokens u.1 (fun t =>
                 { t with picks := t.picks.map (fun p => if p.e == u.2 then { p with dropped := true, g := fZero } else p) }) }

/-- ROUTE's routing of the tokens left by the mask (R191 to R195). -/
def routing (m : Mem) (op : RouteOp) : Routing :=
  let live := (List.range op.dl.rows).filter (tokenOn m op.tokMask)
  let c := routeCapacity op.capFactor live.length op.k op.dl.channels
  let toks := live.map (fun t => chooseToken op.sigmoid op.k t (op.dp.int m 0 t) (op.dl.row m t))
  let order := ((List.range op.k).map (fun r => (List.range toks.length).map (fun j => (r, j)))).flatten
  let x := order.foldl (fun x rj => placeRank c op.instances rj.1 x rj.2) { tokens := toks }
  x.unplaced.foldl (reassign op.sigmoid c op.instances (op.dl.row m)) x

/-- Choice slots that only NaN logits could fill (R191). -/
def nanSlots (m : Mem) (op : RouteOp) : Nat :=
  sumOf (((List.range op.dl.rows).filter (tokenOn m op.tokMask)).map (fun t =>
    Nat.min op.k op.dl.channels - Nat.min op.k ((op.dl.row m t).filter (fun l => !fIsNaN l)).length))

/-- The kept entries: combine row, token, pick. -/
def Routing.entries (x : Routing) (t : Nat) : List (Nat × Nat × Pick) :=
  (x.tokens.map (fun tk => (List.range tk.picks.length).filterMap (fun r =>
    (tk.picks[r]?).bind (fun p => if p.dropped then none else some (r * t + tk.t, tk.t, p))))).flatten

/-- The dispatch table's bytes (Table STI-12). The order in which lists stand and the OFFSET of an empty one are free functions of the
lists' sizes, so that equal inputs give equal bytes (R13) (DESIGN CHOICE, log entry 33). -/
def dispatchBytes (op : RouteOp) (x : Routing) : List Byte :=
  let e := op.dl.channels
  let t := op.dl.rows
  let es := x.entries t
  let keyed := es.filterMap (fun r => r.2.2.place.map (fun a => (directoryIndex r.2.2.e a.1 a.2.1, a.2.2, r.1, r.2.1)))
  let listOf (i : Nat) : List (Nat × Nat × Nat × Nat) := sortBy (fun r => r.2.1) (keyed.filter (fun r => r.1 == i))
  let dir := (List.range (27 * e)).map listOf
  let size (i : Nat) : Nat := match dir[i]? with
    | some l => l.length
    | none => 0
  let sizes := dir.map List.length
  let order := sortBy (Config.listPlace sizes) ((List.range (27 * e)).filter (fun i => size i != 0))
  let offs := (order.foldl (fun (a : List (Nat × Nat) × Nat) i => ((i, a.2) :: a.1, a.2 + size i)) ([], 0)).1
  let offset (i : Nat) : Nat := ((offs.find? (fun o => o.1 == i)).map Prod.snd).getD (Config.listPlace sizes i % 2 ^ 32)
  let placed (s : Nat) : Nat := (keyed.filter (fun r => r.1 % 3 == s)).length
  let flags := (if placed 1 = 0 then 0 else 2) + (if placed 2 = 0 then 0 else 4)
  leBytes 2 t ++ leBytes 1 op.k ++ leBytes 2 e ++ leBytes 1 flags ++ leBytes 2 op.layer
    ++ leBytes 4 (placed 0) ++ leBytes 4 (placed 1) ++ leBytes 4 (placed 2) ++ leBytes 4 x.reassigned ++ leBytes 4 x.dropped
    ++ leBytes 36 0
    ++ ((List.range (27 * e)).map (fun i =>
        leBytes 4 (offset i) ++ leBytes 2 (size i) ++ leBytes 2 0)).flatten
    ++ (((order.map listOf).flatten).map (fun r => leBytes 2 r.2.2.2 ++ leBytes 2 r.2.2.1)).flatten

/-- ROUTE's outputs (R272, R273) and events (R191, R195) (DESIGN CHOICE, log entry 33). -/
def routeResult (c k : Nat) (m : Mem) (op : RouteOp) : Result :=
  let x := routing m op
  let t := op.dl.rows
  let es := x.entries t
  let cell (row : Nat) : Option (Nat × Pick) := (es.find? (fun r => r.1 == row)).map Prod.snd
  let rows := List.range (op.k * t)
  let choice (row : Nat) : Nat := match cell row with
    | some r => r.2.e
    | none => 0xFFFFFFFF
  let index (row : Nat) : Nat := match cell row with
    | some r => r.1
    | none => 0xFFFFFFFF
  let gate (row : Nat) : Nat := match cell row with
    | some r => r.2.g.toNat
    | none => 0
  { writes := run op.table (dispatchBytes op x) ++ op.dc.dataWrites 0 (rows.map choice) ++ op.di.dataWrites 0 (rows.map index)
      ++ op.dg.dataWrites 0 (rows.map gate)
    counts := { nan := nanSlots m op }
    raises := (if x.reassigned = 0 then [] else [atThread 0x0307 c k x.reassigned 0])
      ++ (if x.dropped = 0 then [] else [atThread 0x0308 c k x.dropped 0]) }

/-- The assignments of ranks 0 to k − 1 before reassignment, as expert numbers (R198). -/
def routeDemand (m : Mem) (op : RouteOp) : List Nat :=
  (((List.range op.dl.rows).filter (tokenOn m op.tokMask)).map (fun t =>
    (chooseToken op.sigmoid op.k t (op.dp.int m 0 t) (op.dl.row m t)).picks.map Pick.e)).flatten

/-- REASSIGNED and DROPPED advanced (R195), and the window's demand (R198). -/
def routeCounters (m : Mem) (op : RouteOp) (s : State) : State :=
  let x := routing m op
  let s1 := bump 0x000A0218 x.dropped (bump 0x000A0214 x.reassigned s)
  { s1 with bat := { s1.bat with
      demand := (routeDemand m op).foldl (fun d e => change 0 d (op.layer * 256 + e) (· + 1)) s1.bat.demand
      experts := put 0 s1.bat.experts op.layer op.dl.channels } }

/-! ROUTE at issue (R271). -/

/-- Experts a layer records (DEDUCED, log entry 15). -/
def layerExperts (rs : List Region) : Nat := maxOf ((rs.filter Region.routed).map (fun r => r.expert + 1))

/-- Instances of an expert in the residency map (R201, R271), mirrors that have not joined yet apart (R200). -/
def instanceCount (s : State) (layer e : Nat) : Nat :=
  Nat.max 1 (((s.arr.regions.filter (fun r =>
    r.layer == layer && r.routed && r.expert == e && (r.state == .resident || r.state == .reloading)
      && (r.inst == 0 || !s.arr.joining.contains (layer, e, r.inst)))).map Region.inst).eraseDups.length)

/-- Does n bytes from an address lie wholly in a hub bank allocation of a program? -/
def hubAlloc (s : State) (program a n : Nat) : Bool :=
  s.mem.within a n (fun x => x.program == program && x.kind == 1 && (bankOf x.base).any (fun b => decide (b < 8)))

/-- ROUTE. -/
def effRoute (t : Who) (w : Head) (w1 : Word64) (s : State) : State :=
  issue t (tensor 0xD8 w [w1] true true false (need (xf w1 32 0 == 0) 1))
    (fun s =>
      let tag := fld w 49 41
      let k := xf w1 47 45 + 1
      let slots := [fld w 40 33, fld w 32 25, fld w 24 17, fld w 16 9, fld w 8 1]
      operands s t slots tag (fun ds =>
        match ds with
        | [dl, dp, dg, di, dc] =>
          let e := dl.channels
          let n := dl.rows
          let layer := xf w1 63 48
          let table := (s.g t (xf w1 44 39)).toNat
          let rs := layerRegions s layer
          let out (d : Desc) (ty : EType) : Bool := d.etype == ty && d.channels == k * n && d.wr
          match firstBad [(fld w 40 33, dl.etype == .fp32 && decide (e ≤ 256) && dl.ndim == 2 && decide (n ≤ 256)),
              (fld w 32 25, dp.etype == .int32 && dp.channels == n), (fld w 24 17, out dg .fp32), (fld w 16 9, out di .int32),
              (fld w 8 1, out dc .int32)] with
          | some i => refuse 1 i tag
          | none =>
            if layerExperts rs ≠ e then refuse 2 (fld w 40 33) tag
            else if !hubAlloc s (s.thr t.num).program table (64 + 216 * e + 4 * k * n) then refuse 3 (xf w1 44 39) tag
            else launch s t tag slots (.route
              { dl := dl, dp := dp, dg := dg, di := di, dc := dc, sigmoid := bit w.toNat 0, layer := layer, k := k, table := table,
                tokMask := regOpt s t (xf w1 38 33), instances := (List.range e).map (instanceCount s layer),
                capFactor := s.policy 0x000A0204 8 0 })
        | _ => .fail 0x15 0 0 tag)) s

/-! FORECAST (R202, R203, R206, R207, R274). -/

/-- A Forecast B layer's region. -/
def forecastRegion (s : State) (layer : Nat) : Option Region := (layerRegions s layer).find? Region.fcB

/-- FORECAST's sweep of a stage, in the group mode its layer records. -/
def forecastSweep (s : State) (f : ForecastOp) (stage : Nat) : SweepOp :=
  let op := { f with stage := stage }.sweep
  { op with gsize := ((layerRegions s op.layer).head?.map Region.gmode).getD 1 }

/-- The first refusal of a FORECAST: the checks of Table STI-8 for its first sweep, then for its second, a BLAYER without a Forecast B
region as check 1 and a scratch of the wrong form as check 4 (R245, R274, R516); then its choices and its activity words' range as
check 1 (DEDUCED, log entry 125). -/
def forecastCheck (s : State) (w : Head) (w1 : Word64) (f : ForecastOp) : Option (Nat × Nat) :=
  let t := f.din.rows
  let n := f.dc.channels
  let dh := f.dh.etype == .act8 && f.dh.channels == 128 && f.dh.block == 32 && f.dh.stype == .fp16
  let dsc := (forecastRegion s f.blayer).any (fun r => f.dsc.etype == .fp32 && f.dsc.channels == (r.fcE + 1) * r.fcG)
  match sweepCheck s (forecastSweep s f 0) { din := fld w 40 33, d1 := fld w 24 17 } none (firstBad [(fld w 24 17, dh)]) with
  | some r => some r
  | none =>
    if (forecastRegion s f.blayer).isNone then some (1, f.blayer)
    else
      match sweepCheck s (forecastSweep s f 1) { din := fld w 24 17, d0 := fld w 16 9 } none (firstBad [(fld w 16 9, dsc)]) with
      | some r => some r
      | none =>
        (firstBad [(fld w 32 25, f.dc.etype == .int32 && n % t == 0 && decide (1 ≤ n / t) && decide (n / t ≤ 8)),
          (xf w1 31 26, (bankOf f.actBase).any (fun b => decide (b < 8)) && inBank (64 * n) f.actBase)]).map (fun i => (1, i))

/-- FORECAST (DEDUCED, log entry 16). -/
def effForecast (t : Who) (w : Head) (w1 : Word64) (s : State) : State :=
  issue t (tensor 0xD9 w [w1] true true false
      (match need (fld w 8 0 == 0) with
        | some i => some i
        | none => need (xf w1 23 0 == 0) 1))
    (fun s =>
      let tag := fld w 49 41
      let slots := [fld w 40 33, fld w 32 25, fld w 24 17, fld w 16 9]
      operands s t slots tag (fun ds =>
        match ds with
        | [din, dc, dh, dsc] =>
          let f : ForecastOp :=
            { din := din, dc := dc, dh := dh, dsc := dsc, alayer := xf w1 63 48, blayer := xf w1 47 32,
              actBase := (s.g t (xf w1 31 26)).toNat, fidelity := bit w1.toNat 25, first := bit w1.toNat 24 }
          match forecastCheck s w w1 f with
          | some r => refuseSweep s (forecastSweep s f 0) r tag
          | none => submitSweep s t tag slots (.forecast f) [fullWord 0xD9 w, w1]
        | _ => .fail 0x15 0 0 tag)) s

/-- Is a FORECAST's decision written with NO_SKIP: exact mode, or an audit step (R206, R207)? -/
def ForecastOp.noSkip (f : ForecastOp) : Bool := f.fidelity || (f.stepNo != 0 && f.stepNo % 256 == 0)

/-- The activity word of a choice (R202, R203, R274). -/
def activityWord (s : State) (f : ForecastOp) (r : Region) (idx : Nat) : Nat :=
  let t := idx % f.din.rows
  let e := f.dc.int s.mem 0 idx
  let theta := fval (fmtFP16.decode (look {} s.arr.forecast f.blayer).theta)
  if e < 0 ∨ (r.fcE : Int) < e then 0
  else
    let on (g : Nat) : Bool :=
      let v := f.dsc.value s.mem t (e.toNat * r.fcG + g)
      fIsNaN v || (!fLt v theta && !fIsNaN theta)
    sumOf ((List.range r.fcG).map (fun g => if on g then 2 ^ g else 0)) + (if f.noSkip then 2 ^ 63 else 0)

/-- FORECAST's activity words, written when both sweeps are done. -/
def forecastResult (s : State) (f : ForecastOp) : Result :=
  match forecastRegion s f.blayer with
  | some r => { writes := ((List.range f.dc.channels).map (fun i =>
      run (f.actBase + 8 * i) (leBytes 8 (activityWord s f r i)))).flatten }
  | none => {}

/-- ROUTE (R194). -/
def execRoute (t : Who) (w : Head) (w1 : Word64) (s : State) : Host.Outcome State Fault Refusal := done (effRoute t w w1 s)
/-- FORECAST (R274). -/
def execForecast (t : Who) (w : Head) (w1 : Word64) (s : State) : Host.Outcome State Fault Refusal := done (effForecast t w w1 s)

end Sys2Proof.Machine
end

