-- ==== Sys2Proof/Machine/NetInstr.lean ====
section
/-! DEFINITION. NET.SEND and NET.RECV, SWEEP at issue, and fused tiles (R157 to R160, R231, R251, R252, R258, R357, R377). -/

namespace Sys2Proof.Machine

/-! NET.SEND (R251). -/

/-- Types a program may send on a session of a kind (Table NET-6): STREAM and CTRL; PEER and CTRL; MGMT and CTRL. -/
def sendTypeOk (kind typ : Nat) : Bool :=
  typ == 2 || (kind == 0 && typ == 1) || (kind == 1 && typ == 3) || (kind == 2 && typ == 4)

/-- May a program use a session (R251, R252)? (DESIGN CHOICE, log entry 145) -/
def Session.serves (x : Session) (program : Nat) : Bool := x.program.all (· == program)

/-- The slot of a live session that a program may use. -/
def State.ownLive? (s : State) (program h : Nat) : Option Nat := (s.live? h).filter (fun i => (s.sess i).serves program)

/-- The message type of a TYPE field. -/
def sendType (typ : Nat) : Nat :=
  match typ with
  | 0 => typData | 1 => typStream | 2 => typCtrl | 3 => typPeer | _ => typMgmt

/-- NET.SEND. -/
def effNetSend (t : Who) (w : Head) (s : State) : State :=
  issue t (tensor 0x8B w [] true true false (need (decide (fld w 26 24 < 5) && fld w 22 0 == 0)))
    (fun s =>
      let tag := fld w 49 41
      let rh := fld w 32 27
      operands s t [fld w 40 33] tag (fun ds =>
        match ds with
        | [src] =>
          let h := (s.g t rh).toNat % 2 ^ 32
          match s.ownLive? (s.thr t.num).program h with
          | some i =>
            if sendTypeOk (s.sess i).kind (fld w 26 24) then
              launch s t tag [fld w 40 33] (.netSend src h (fld w 26 24) (bit w.toNat 23))
            else refuse 5 rh tag
          | none => refuse 5 rh tag
        | _ => .fail 0x15 0 0 tag)) s

/-- Bytes of datagrams' sealed copies: header, payload and tag (R349, R357). -/
def copyBytes (ds : List Dgram) : Nat := sumOf (ds.map (fun d => d.payload.length + 48))

/-- Bytes of sealed copies held (R357). -/
def sealedBytes (s : State) : Nat := sumOf (s.net.sessions.map (fun e => copyBytes e.2.out))

/-- Is a send the first of its session in its conductor's order (R231)? -/
def firstSend (s : State) (x : Tx) (h : Nat) : Bool :=
  (s.txs.find? (fun y => y.c == x.c && (match y.op with
    | .netSend _ h' _ _ => h' == h
    | _ => false))).any (fun y => y.num == x.num)

/-- A transaction on a closed session (R377). -/
def faultClosed (x : Tx) (h : Nat) (s : State) : State := faultTx x 0x0802 h 0 (raise (atSession 0x0802 h h 0) s)

/-- Is a handle's session open to work? -/
def openSlot (s : State) (h : Nat) : Option Nat := (s.live? h).bind (fun i => if (s.sess i).state = .closing then none else some i)

/-- NET_SEND_DONE (R251, R357): the message is cut and its copy kept; without room for it the tag stays PENDING. -/
def effNetSendDone (c : Fin 20) (tag : Fin 512) (s : State) : State :=
  match s.tx? c.val tag.val with
  | some x =>
    match x.op with
    | .netSend src h typ last =>
      if !firstSend s x h then s
      else
        match openSlot s h with
        | none => faultClosed x h s
        | some i =>
          let msg := imageBytes s.mem src
          if s.field 0x00060018 31 28 * 2 ^ 30 < sealedBytes s + copyBytes (cut (s.sess i).room 0 (sendType typ) msg last) then s
          else
            let s1 := sendMsg i (sendType typ) msg last s
            if (s1.sess i).state = .closing then faultClosed x h s1 else finish x [src] {} s1
    | _ => s
  | none => s

/-! NET.RECV (R252). -/

/-- The receipt's 32 bytes fit the address (R225). -/
def receiptOk (s : State) (program a : Nat) : Bool :=
  (List.range 4).all (fun i => scalarOk s program (a + 8 * i) 8)

/-- NET.RECV. -/
def effNetRecv (t : Who) (w : Head) (s : State) : State :=
  issue t (tensor 0x8C w [] true true false (need (fld w 20 0 == 0)))
    (fun s =>
      let tag := fld w 49 41
      let rh := fld w 32 27
      let rr := fld w 26 21
      operands s t [fld w 40 33] tag (fun ds =>
        match ds with
        | [dst] =>
          let h := (s.g t rh).toNat % 2 ^ 32
          let a := (s.g t rr).toNat
          if !dst.wr then refuse 1 (fld w 40 33) tag
          else if h ≠ 0xFFFFFFFF ∧ (s.ownLive? (s.thr t.num).program h).isNone then refuse 6 rh tag
          else if !receiptOk s (s.thr t.num).program a then refuse 6 rr tag
          else launch s t tag [fld w 40 33] (.netRecv dst h a)
        | _ => .fail 0x15 0 0 tag)) s

/-- The receives that name a handle, in order of issue. -/
def receivesOf (s : State) (h : Nat) : List Tx :=
  s.txs.filter (fun y => match y.op with
    | .netRecv _ h' _ => h' == h
    | _ => false)

/-- The slot a receive for any session takes: the lowest of a session its program receives for, with a message that no receive on it
claims. -/
def anySlot (s : State) (program : Nat) : Option Nat :=
  (s.net.sessions.find? (fun e => e.2.state != .free && e.2.serves program && decide ((receivesOf s (s.handle e.1)).length < e.2.inbox.length))).map Prod.fst

/-- A receipt (Table STI-4). -/
def receiptBytes (s : State) (handle : Nat) (m : Message) (written : Nat) : List Byte :=
  leBytes 4 handle ++ leBytes 1 m.typ ++ leBytes 1 (b01 (decide (written < m.payload.length)) + 2 * b01 m.last) ++ leBytes 2 0
    ++ leBytes 4 m.payload.length ++ leBytes 4 written ++ leBytes 8 m.seq ++ leBytes 8 s.ao

/-- A message received into a transaction's destination. -/
def receiveInto (x : Tx) (dst : Desc) (receipt i : Nat) (s : State) : State :=
  match (s.sess i).inbox with
  | m :: rest =>
    let bs := m.payload.take dst.imageBytes
    finish x [] { writes := imageWrites dst bs ++ run receipt (receiptBytes s (s.handle i) m bs.length) }
      (onSess i (fun y => { y with inbox := rest }) s)
  | [] => s

/-- NET_RECV_DONE (R252, R377). -/
def effNetRecvDone (c : Fin 20) (tag : Fin 512) (s : State) : State :=
  match s.tx? c.val tag.val with
  | some x =>
    match x.op with
    | .netRecv dst h receipt =>
      let program := (s.thr (x.c * 8 + x.k)).program
      if h = 0xFFFFFFFF then
        if !((receivesOf s h).find? (fun y => (s.thr (y.c * 8 + y.k)).program == program)).any (fun y => y.num == x.num) then s
        else
          match anySlot s program with
          | some i => receiveInto x dst receipt i s
          | none => s
      else if !(receivesOf s h).head?.any (fun y => y.num == x.num) then s
      else
        match openSlot s h with
        | some i => receiveInto x dst receipt i s
        | none => faultClosed x h s
    | _ => s
  | none => s

/-! SWEEP at issue, and its fused tiles (R157 to R160, R258). -/

/-- The path MTU of a PEER session. -/
def peerMtu (s : State) (h : Nat) : Option Nat :=
  (openSlot s h).bind (fun i => if (s.sess i).kind = 1 then some (s.sess i).pmtu else none)

/-- SWEEP (R258 to R260). -/
def effSweep (t : Who) (w : Head) (w1 w2 w3 : Word64) (s : State) : State := effSweepWith peerMtu t w w1 w2 w3 s

/-- May these tiles form one frame (R158)? (DEDUCED, log entry 111) -/
def frameOk (op : SweepOp) (token0 vec0 ntile : Nat) : Bool :=
  decide (1 ≤ ntile) && decide (ntile ≤ 4) && decide (ntile * 1024 * op.frameType.bits ≤ 8 * 8872)
    && (List.range ntile).all (fun j => op.tiles.contains (token0, vec0 + j))

/-- OUTPUT_TILE_SEND (R157, R158): finished tiles leave as one frame; without the peer they are only noted (R160). -/
def effOutputTileSend (c : Fin 20) (tag : Fin 512) (token0 vec0 ntile : Nat) (s0 : State) : State :=
  let num := c.val * 512 + tag.val
  let s := passAll num s0
  match s.sweepOf num, s.workOf num with
  | some op, some w =>
    if op.send == 0 || (if op.qrow then w.held.isNone else finishHeld s num op) || !frameOk op token0 vec0 ntile
        || (List.range ntile).any (fun j => tileSent s num token0 (vec0 + j)) then s
    else
      let s1 := onSweeps (fun p => { p with sentTiles := p.sentTiles ++ [(num, token0, vec0, ntile)] }) s
      match openSlot s op.sess with
      | some i =>
        let frame := look 0 s.front.frames op.stream
        sendMsg i typPeer (frameBytes s.mem op (w.withShares s op) s.epoch s.myRank s.front.attempt frame token0 vec0 ntile) false
          { s1 with front := { s1.front with frames := put 0 s1.front.frames op.stream (frame + 1) } }
      | none => s1
  | _, _ => s

/-- NET_SEND (R251). -/
def execNetSend (t : Who) (w : Head) (s : State) : Host.Outcome State Fault Refusal := done (effNetSend t w s)
/-- NET_SEND_DONE (R251). -/
def execNetSendDone (c : Fin 20) (tag : Fin 512) (s : State) : Host.Outcome State Fault Refusal := done (effNetSendDone c tag s)
/-- NET_RECV (R252). -/
def execNetRecv (t : Who) (w : Head) (s : State) : Host.Outcome State Fault Refusal := done (effNetRecv t w s)
/-- NET_RECV_DONE (R252). -/
def execNetRecvDone (c : Fin 20) (tag : Fin 512) (s : State) : Host.Outcome State Fault Refusal := done (effNetRecvDone c tag s)
/-- SWEEP (R258). -/
def execSweep (t : Who) (w : Head) (w1 w2 w3 : Word64) (s : State) : Host.Outcome State Fault Refusal := done (effSweep t w w1 w2 w3 s)
/-- OUTPUT_TILE_SEND (R157). -/
def execOutputTileSend (c : Fin 20) (tag : Fin 512) (token0 vec0 ntile : Nat) (s : State) : Host.Outcome State Fault Refusal := done (effOutputTileSend c tag token0 vec0 ntile s)

end Sys2Proof.Machine
end

