-- ==== Sys2Proof/Machine/Sess.lean ====
section
/-! DEFINITION. The session instructions (R185, R275, R293, R295, R369 to R372, R376, Table STI-14). -/

namespace Sys2Proof.Machine

/-! Issue (R275). -/

/-- A session instruction at issue: its slots that are operands with the types they may have, DD written, its legal fields, its
transaction. An operand of another type is refused as check 1 (DEDUCED, log entry 144). -/
def sessIssue (op : Nat) (t : Who) (w : Head) (da dd : Bool) (daOk ddOk : Desc → Bool) (fields : Bool) (mk : List Desc → Nat → TxOp) (s : State) : State :=
  let ia := fld w 40 33
  let id := fld w 32 25
  issue t (tensor op w [] true true false (need (fields && (da || ia == 0) && (dd || id == 0))))
    (fun s =>
      let tag := fld w 49 41
      let slots := (if da then [ia] else []) ++ (if dd then [id] else [])
      operands s t slots tag (fun ds =>
        if da && !((s.thr t.num).desc ia).any daOk then refuse 1 ia tag
        else if dd && !((s.thr t.num).desc id).any (fun d => d.wr && ddOk d) then refuse 1 id tag
        else launch s t tag slots (mk ds (s.g t (fld w 24 19)).toNat))) s

/-- An operand of one element type. -/
def ofType (t : EType) (d : Desc) : Bool := d.etype == t

/-- A descriptor of a list by place. -/
def pick (ds : List Desc) (i : Nat) (k : Desc → TxOp) (other : TxOp) : TxOp := match ds[i]? with
  | some d => k d
  | none => other

/-- SESS.TOKENIZE. -/
def effSessTokenize (t : Who) (w : Head) (s : State) : State :=
  sessIssue 0xE0 t w true true (ofType .int8) (ofType .int32) (fld w 18 0 == 0)
    (fun ds a => pick ds 0 (fun x => pick ds 1 (fun y => .tokenize x y a) (.sessClose 0 a)) (.sessClose 0 a)) s

/-- SESS.DETOKENIZE. -/
def effSessDetokenize (t : Who) (w : Head) (s : State) : State :=
  sessIssue 0xE1 t w true true (ofType .int32) (ofType .int8) (fld w 18 0 == 0)
    (fun ds a => pick ds 0 (fun x => pick ds 1 (fun y => .detokenize x y a) (.sessClose 0 a)) (.sessClose 0 a)) s

/-- SESS.SAMPLE. -/
def effSessSample (t : Who) (w : Head) (s : State) : State :=
  sessIssue 0xE2 t w true true (ofType .fp32) (ofType .int32) (fld w 17 0 == 0)
    (fun ds a => pick ds 0 (fun x => pick ds 1 (fun y => .sample x y a (bit w.toNat 18)) (.sessClose 0 a)) (.sessClose 0 a)) s

/-- SESS.BIND: DA is an operand only where [18] binds from it. -/
def effSessBind (t : Who) (w : Head) (s : State) : State :=
  let fromDa := bit w.toNat 18
  sessIssue 0xE3 t w fromDa false (ofType .fp32) (fun _ => true) (fld w 6 0 == 0 && (!fromDa || fld w 17 8 == 0))
    (fun ds a => .bind ds.head? (fld w 17 8) (bit w.toNat 7) a) s

/-- SESS.KVMAP. -/
def effSessKvmap (t : Who) (w : Head) (s : State) : State :=
  sessIssue 0xE4 t w false true (fun _ => true) (ofType .int32) (fld w 18 16 == 0) (fun ds a => pick ds 0 (fun d => .kvmap d (fld w 15 0) a) (.sessClose 0 a)) s

/-- SESS.CLOSE: the reason is the low byte of a status from 0x0010 to 0x0016 (Table NET-14) (DEDUCED, log entry 116). -/
def effSessClose (t : Who) (w : Head) (s : State) : State :=
  let r := fld w 7 0
  sessIssue 0xE5 t w false false (fun _ => true) (fun _ => true) (fld w 18 8 == 0 && decide (0x10 ≤ r) && decide (r ≤ 0x16)) (fun _ a => .sessClose r a) s

/-! Their work. -/

/-- The handles of n rows; those of a poisoned line read 0 (DEDUCED, log entry 117). -/
def handlesAt (m : Mem) (a n : Nat) : List Nat := (List.range n).map (fun p => cleanLe m (a + 4 * p) 4)

/-- Each row whose handle names a live session that is not closing, as (row, slot), in row order. -/
def liveRows (s : State) (a n : Nat) : List (Nat × Nat) :=
  (List.range n).filterMap (fun p => (openSlot s (nthD 0 (handlesAt s.mem a n) p)).map (fun i => (p, i)))

/-- Integers written in the first lanes of a row at the width of its type, 8 or 32 bits, and the row's padding lanes (R120). -/
def laneWrites (d : Desc) (p : Nat) (vs : List Nat) : List (Nat × Byte) :=
  ((List.range (Nat.min d.channels vs.length)).map (fun c => run (d.elemAddr p c) (leBytes (d.etype.bits / 8) (nthD 0 vs c)))).flatten
    ++ d.padWrites p

/-- The bytes of n handles. -/
def handleAddrs (a n : Nat) : List Nat := span a (4 * n)

/-- Tokens added to a session's context; a context that would pass MAXCTX ends its generation instead (R369). -/
def addTokens (i : Nat) (toks : List Nat) (s : State) : State :=
  let x := s.sess i
  if x.maxctx < x.pos + x.pending + toks.length then sendStatus i 0x0021 [] (endGeneration i 5 s)
  else onSess i (fun y => { y with tokens := y.tokens ++ toks, pending := y.pending + toks.length }) s

/-- One session's received bytes tokenised (R369): its row's bytes after CARRY; CARRY keeps what could still merge. -/
def tokenizeRow (a d : Desc) (acc : State × List (Nat × Byte)) (r : Nat × Nat) : State × List (Nat × Byte) :=
  let s := acc.1
  let x := s.sess r.2
  let n := Nat.min x.text a.channels
  let bs := x.carry ++ ((List.range n).map (fun c => BitVec.ofNat 8 (a.codeAt s.mem r.1 c)))
  let force := x.force && n == x.text
  let tk := Config.tokenise s.modelRoot force bs
  let was := x.ready
  let s1 := onSess r.2 (fun y => { y with carry := (bs.drop tk.2).take 15, text := y.text - n, force := y.force && !force }) s
  (noteReady r.2 was (addTokens r.2 tk.1 s1), acc.2 ++ laneWrites d r.1 tk.1)

/-- TOKENIZE's work. -/
def doTokenize (x : Tx) (a d : Desc) (handles : Nat) (s : State) : State :=
  let r := (liveRows s handles a.rows).foldl (tokenizeRow a d) (s, [])
  finish x [a] { writes := r.2 } r.1 (handleAddrs handles a.rows)

/-- DETOKENIZE's work: the tokens of each row whose handle names a live session, as bytes in the row's first lanes. -/
def doDetokenize (x : Tx) (a d : Desc) (handles : Nat) (s : State) : State :=
  let row (p : Nat) : List (Nat × Byte) :=
    laneWrites d p ((((List.range a.channels).map (fun c =>
      let v := a.int s.mem p c
      if v < 0 then [] else Config.tokenBytes s.modelRoot v.toNat)).flatten).map BitVec.toNat)
  finish x [a] { writes := (((liveRows s handles (Nat.min a.rows d.rows)).map Prod.fst).map row).flatten } s (handleAddrs handles a.rows)

/-! Sampling (R371). -/

/-- A row's candidates as (id, logit): every id of a logits row, or the ids of a TOPK record (R153). -/
def candidatesOf (m : Mem) (a : Desc) (topk : Bool) (p : Nat) : List (Nat × F32) :=
  if topk then
    (List.range 8).filterMap (fun j =>
      let id := match fdec (a.value m p (8 + j)) with
        | .fin neg k e => rneInt neg k e
        | _ => -1
      if id < 0 then none else some (id.toNat, a.value m p j))
  else (List.range a.channels).map (fun c => (c, a.value m p c))

/-- Repetition penalty on the ids of the last REP_WINDOW positions. -/
def penalise (x : Session) (l : List (Nat × F32)) : List (Nat × F32) :=
  let seen := x.tokens.drop (x.tokens.length - x.repWindow)
  l.map (fun e => if seen.contains e.1 then (e.1, if fLt fZero e.2 then fDiv e.2 x.repPenalty else fMul e.2 x.repPenalty) else e)

/-- R152's order of candidates: the largest first, lower places first on a tie. -/
def inOrder (l : List (Nat × F32)) : List (Nat × F32) := sortBy (fun e => topRank e.2) l

/-- Running sums in order, rne32 at each addition. -/
def runningSums : F32 → List F32 → List F32
  | _, [] => []
  | a, e :: r => fAdd a e :: runningSums (fAdd a e) r

/-- rne32(r × 2^−32 × c). -/
def scaleDraw (r : Nat) (c : F32) : F32 :=
  match fdec c with
  | .fin neg m e => frnd neg (m * r) (e - 32)
  | _ => c

/-- The token a draw chooses from kept candidates and their running sums. -/
def drawToken (r : Nat) (keep : List Nat) (c : List F32) : Nat :=
  let t := scaleDraw r (nthD fZero c (keep.length - 1))
  match (List.range keep.length).find? (fun j => fLt t (nthD fZero c j)) with
  | some j => nthD 0 keep j
  | none => nthD 0 keep (keep.length - 1)

/-- The token sampled for a session from its candidates and 32 random bits (R371). -/
def sampleToken (x : Session) (cands : List (Nat × F32)) (r : Nat) : Nat :=
  let l := penalise x cands
  if fAbs x.temperature = fZero then ((inOrder l).head?.map Prod.fst).getD 0
  else
    let z := inOrder (l.map (fun e => (e.1, fDiv e.2 x.temperature)))
    let kept := if x.topK = 0 then z else z.take x.topK
    let z0 := (kept.head?.map Prod.snd).getD fZero
    let es := kept.map (fun e => exp32 (fSub e.2 z0))
    let c := match es with
      | [] => []
      | e :: rest => e :: runningSums e rest
    let last := nthD fZero c (c.length - 1)
    let n := if fLt x.topP fOne then
        match (List.range c.length).find? (fun j => !fLt (nthD fZero c j) (fMul x.topP last)) with
        | some j => j + 1
        | none => c.length
      else c.length
    drawToken r ((kept.take n).map Prod.fst) (c.take n)

/-! What a token does to its generation (R372, R373). -/

/-- Where a stop string first ends in bytes: the bytes before it. -/
def stopAt (stops : List (List Byte)) (bs : List Byte) : Option (List Byte) :=
  ((List.range (bs.length + 1)).find? (fun k => stops.any (fun st => !st.isEmpty && (bs.drop k).take st.length == st))).map bs.take

/-- How many of the last bytes could begin a stop string: at most 15. -/
def heldTail (stops : List (List Byte)) (bs : List Byte) : Nat :=
  (((List.range 16).reverse).find? (fun n => n == 0 || (decide (n ≤ bs.length) &&
    stops.any (fun st => decide (n < st.length) && st.take n == bs.drop (bs.length - n))))).getD 0

/-- A sampled token appended to its session's generation, and the generation's end where it is the first reason of R372. -/
def takeToken (i tok : Nat) (s : State) : State :=
  let x := s.sess i
  if !x.generating then s
  else
    let y := { x with tokens := x.tokens ++ [tok], generated := x.generated + 1, sinceStream := x.sinceStream + 1 }
    if tok = Config.endToken s.modelRoot then endGeneration i 1 (setSess i y s)
    else if y.stopTok.contains tok then endGeneration i 2 (setSess i y s)
    else
      let bs := y.hold ++ Config.tokenBytes s.modelRoot tok
      match stopAt y.stopStr bs with
      | some before => endGeneration i 3 (setSess i { y with fresh := y.fresh ++ before, hold := bs.drop before.length } s)
      | none =>
        let n := heldTail y.stopStr bs
        let z := { y with fresh := y.fresh ++ bs.take (bs.length - n), hold := bs.drop (bs.length - n) }
        let s1 := setSess i z s
        if z.maxNew ≤ z.generated then endGeneration i 4 s1
        else if z.maxctx ≤ z.tokens.length then endGeneration i 5 s1
        else if z.streamEvery ≤ z.sinceStream then sendStream i 0 s1
        else s1

/-- One session's sample: the DRBG is drawn in the order of the rows, not for greedy sessions. -/
def sampleRow (a d : Desc) (topk : Bool) (m : Mem) (acc : State × List (Nat × Byte)) (r : Nat × Nat) : State × List (Nat × Byte) :=
  let s := acc.1
  let x := s.sess r.2
  let tok := sampleToken x (candidatesOf m a topk r.1) (s.drawn % 2 ^ 32)
  let s1 := if fAbs x.temperature = fZero then s else skipFree 1 s
  (takeToken r.2 tok s1, acc.2 ++ laneWrites d r.1 [tok])

/-- SAMPLE's work. -/
def doSample (x : Tx) (a d : Desc) (handles : Nat) (topk : Bool) (s : State) : State :=
  let r := (liveRows s handles a.rows).foldl (sampleRow a d topk s.mem) (s, [])
  finish x [a] { writes := r.2 } r.1 (handleAddrs handles a.rows)

/-! Binding (R185, R186, R370). -/

/-- An unbound session bound to a district: its ACCEPT's 0xFFFF is reported in a CTRL status OK (DEDUCED, log entry 115). -/
def bindSession (i d : Nat) (s : State) : State :=
  let x := s.sess i
  if x.kind = 0 ∧ x.district = 0xFFFF ∧ d < Config.districts s.modelRoot then
    noteReady i x.ready (sendStatus i 0 (beBytes 2 d) (onSess i (fun y => { y with district := d }) s))
  else s

/-- BIND's work: the district of the largest logit of each row, or the field's (DEDUCED, log entry 115). -/
def doBind (x : Tx) (a : Option Desc) (district handles : Nat) (s : State) : State :=
  match a with
  | some d =>
    let bind1 (u : State) (r : Nat × Nat) : State :=
      bindSession r.2 (((inOrder ((List.range d.channels).map (fun c => (c, d.value s.mem r.1 c)))).head?.map Prod.fst).getD 0) u
    finish x [d] {} ((liveRows s handles d.rows).foldl bind1 s) (handleAddrs handles d.rows)
  | none => finish x [] {} ((liveRows s handles 1).foldl (fun u r => bindSession r.2 district u) s) (handleAddrs handles 1)

/-! KVMAP (R293, R295, R378). -/

/-- Page-table pages a session needs. -/
def ptPagesOf (layers maxctx : Nat) : Nat := ceilDiv (layers * pagesPerLayer maxctx * 8) 65536

/-- The entries that the next n positions of a session need, in all layers. -/
def entriesNeeded (s : State) (n : Nat) (i : Nat) : List Nat :=
  let x := s.sess i
  let m := Nat.min n (x.maxctx - x.pos)
  if m = 0 then []
  else
    ((List.range (Config.layers s.modelRoot)).map (fun l =>
      (List.range ((x.pos + m - 1) / 248 + 1 - x.pos / 248)).map (fun p =>
        kvKey i (entryNumber x.maxctx l (x.pos + 248 * p))))).flatten

/-- Pages of page table still missing for a session. -/
def tablesMissing (s : State) (i : Nat) : Nat :=
  ptPagesOf (Config.layers s.modelRoot) (s.sess i).maxctx - (s.sess i).ptPages.length

/-- One page taken from the KV part. -/
def claimPage (k : Nat → State → State) (s : State) : State :=
  match takePage s with
  | some p => k p (onKv (fun v => { v with used := v.used ++ [p] }) s)
  | none => s

/-- A session's page tables and entries mapped, FILL unchanged. -/
def mapSession (n : Nat) (s : State) (i : Nat) : State :=
  let s1 := (List.range (tablesMissing s i)).foldl (fun u _ => claimPage (fun p => onSess i (fun x => { x with ptPages := x.ptPages ++ [p] })) u) s
  (entriesNeeded s1 n i).foldl (fun u k =>
    if (u.pte k).state = 0 then claimPage (fun p v => setPte k { v.pte k with state := 1, loc := p } v) u else u) s1

/-- The session and position of each row: a session's rows take its next positions in order. -/
def appendRows (s : State) (rows : List (Nat × Nat)) : List (Nat × Nat) :=
  (List.range rows.length).map (fun j =>
    let i := (nthD (0, 0) rows j).2
    (i, (s.sess i).pos + ((rows.take j).filter (fun r => r.2 == i)).length))

/-- KVMAP's work: spilled pages are fetched first; pages that are not free are made so; then all is mapped and the destination
prepared, its allocation's handle in lane 0 of each row (DEDUCED, log entry 117). -/
def doKvmap (x : Tx) (d : Desc) (n handles : Nat) (s : State) : State :=
  let rows := liveRows s handles d.rows
  let slots := (rows.map Prod.snd).eraseDups
  let keys := (slots.map (entriesNeeded s n)).flatten
  match keys.find? (fun k => 2 ≤ (s.pte k).state) with
  | some k => softFault x (2 ^ 32 + k) (setPte k { s.pte k with state := 3 } s)
  | none =>
    let need := (keys.filter (fun k => (s.pte k).state == 0)).length + sumOf (slots.map (tablesMissing s))
    if kvFree s < need then (if s.store.spilling.isEmpty then pressure s else s)
    else
      match freeHandle s with
      | none => s
      | some h =>
        let s1 := slots.foldl (mapSession n) s
        let s2 := skipFree 1 { s1 with mem := s1.mem.addAlloc ⟨h, 6, ((s.thr (x.c * 8 + x.k)).program), 0, 0⟩ }
        let s3 := onKv (fun v => { v with appends := put [] v.appends h (appendRows s rows) }) s2
        relieve (finish x [] { writes := (rows.map (fun r => laneWrites d r.1 [h])).flatten } s3 (handleAddrs handles d.rows))

/-- SESS.CLOSE's work (R376) (DEDUCED, log entry 116). -/
def doClose (x : Tx) (reason handles : Nat) (s : State) : State :=
  finish x [] {} ((liveRows s handles 1).foldl (fun u r => beginClose r.2 reason u) s) (handleAddrs handles 1)

/-- SESS_TOKENIZE (R369). -/
def execSessTokenize (t : Who) (w : Head) (s : State) : Host.Outcome State Fault Refusal := done (effSessTokenize t w s)
/-- SESS_DETOKENIZE (R275). -/
def execSessDetokenize (t : Who) (w : Head) (s : State) : Host.Outcome State Fault Refusal := done (effSessDetokenize t w s)
/-- SESS_SAMPLE (R371). -/
def execSessSample (t : Who) (w : Head) (s : State) : Host.Outcome State Fault Refusal := done (effSessSample t w s)
/-- SESS_BIND (R185). -/
def execSessBind (t : Who) (w : Head) (s : State) : Host.Outcome State Fault Refusal := done (effSessBind t w s)
/-- SESS_KVMAP (R295). -/
def execSessKvmap (t : Who) (w : Head) (s : State) : Host.Outcome State Fault Refusal := done (effSessKvmap t w s)
/-- SESS_CLOSE (R376). -/
def execSessClose (t : Who) (w : Head) (s : State) : Host.Outcome State Fault Refusal := done (effSessClose t w s)

end Sys2Proof.Machine
end

