-- ==== Sys2Proof/Machine/Complete.lean ====
section
/-! DEFINITION. The ends of sweeps and of the other tensor transactions (R78, R100, R226, R262, R274, R294, R295, R303, R304). -/

namespace Sys2Proof.Machine

/-! KV entries written by Finish (R295). -/

/-- FILL after an entry is written: it advances over contiguous entries only. -/
def advanceFill (e : Pte) (i : Nat) : Pte :=
  if i < e.fill then e
  else
    let early := addOnce e.early i
    let fill := (List.range (early.length + 1)).foldl (fun f _ => if early.contains f then f + 1 else f) e.fill
    { e with fill := fill, early := early.filter (fun k => decide (fill ≤ k)) }

/-- One entry written: its latent and scales, then FILL, and the header when FILL leaves 0. -/
def writeEntry (layer : Nat) (codes scales : List Nat) (s : State) (at_ : Nat × Nat) : State :=
  let x := s.sess at_.1
  let k := kvKey at_.1 (entryNumber x.maxctx layer at_.2)
  let e := s.pte k
  if e.state ≠ 1 then s
  else
    let i := at_.2 % 248
    let a := pageAddr e.loc
    let e1 := advanceFill e i
    let entry := run (a + 64 + 264 * i) (leBytesOf codes ++ leBytesOf scales)
    let head := if e.fill = e1.fill then []
      else if e.fill = 0 then run a (pageHeader (s.handle at_.1) layer e1.fill (at_.2 / 248 * 248))
      else [(a + 6, BitVec.ofNat 8 e1.fill)]
    setPte k e1 (writeMem (entry ++ head) s)
where
  /-- Codes of one byte each. -/
  leBytesOf (l : List Nat) : List Byte := l.map (BitVec.ofNat 8)

/-- The row i of dimension 1 and the layer L of dimension 2 of a row of a KVAPPEND destination, read from its place in the descriptor's
own strides, so that BASE picks the layer (DESIGN CHOICE, log entry 139). -/
def appendPlace (d : Desc) (row : Nat) : Nat × Nat :=
  let a := d.base + rowOffset d.sizes (d.strides.drop 1) row
  let layers := 16 * nthD 0 d.strides 2
  ((if layers = 0 then a else a % layers) / (16 * nthD 1 d.strides 1), if layers = 0 then 0 else a / layers)

/-- A row of a KVAPPEND destination written (R295). -/
def appendRow (op : SweepOp) (w : SweepWork) (m : Mem) (d : Desc) (s : State) (row : Nat) : State :=
  let q := quantOut op d (finalRow m op w row)
  let p := appendPlace d row
  match (look [] s.kv.appends d.handle)[p.1]? with
  | some at_ => writeEntry p.2 q.codes q.scales s at_
  | none => s

/-- The KVAPPEND destinations of a sweep written. -/
def appendKv (op : SweepOp) (w : SweepWork) (s : State) : State :=
  (op.d1.toList.filter (fun d => d.kind s.mem == 6)).foldl (fun u d => (w.rows.map Prod.fst).foldl (appendRow op w s.mem d) u) s

/-! SWEEP_DONE (R262). -/

/-- The step's latch where a sweep clipped and the batch asked for headroom replay (R78). -/
def latchClip (num : Nat) (op : SweepOp) (w : SweepWork) (s : State) : State :=
  if w.clips ≠ 0 && !op.fidelity && s.bat.step.any (fun st => !st.headroom && asksReplay s st) then markReplay num 3 s else s

/-- A sweep's work at its end, with the address of the first poisoned line it read. -/
def closeSweep (x : Tx) (op : SweepOp) (w0 : SweepWork) (s : State) : State × Option Nat :=
  let w := w0.withShares s op
  let pz := sweepPoison s.mem op w
  let s1 := dropShares op <| latchClip x.num op w (endSweep x op w (appendKv op w s))
  (onSweeps (Sweeps.leave x.num) (if pz.isSome then markReplay x.num 0 s1 else s1), pz)

/-- A FORECAST between its sweeps (R274): the second waits for the queue, or its decision can be written. -/
def nextStage (x : Tx) (f : ForecastOp) (pz : Option Nat) (s : State) : State :=
  let fault := match x.fault, pz with
    | none, some a => some (0x0502, a, 0)
    | y, _ => y
  let s1 := setTx { x with op := .forecast { f with stage := f.stage + 1 }, fault := fault } s
  if f.stage = 0 then onSweeps (fun p => { p with seconds := p.seconds ++ [x.num] }) s1 else s1

/-- SWEEP_DONE (DESIGN CHOICE, log entry 122): a sweep still in the array passes its last words first. -/
def effSweepDone (c : Fin 20) (tag : Fin 512) (env : MemEnv) (s0 : State) : State :=
  match s0.tx? c.val tag.val with
  | some x =>
    let s := passAll x.num s0
    match s.sweepOf x.num, s.workOf x.num with
    | some op, some w =>
      if sweepEnds s x.num op w then
        let r := closeSweep x op w (environment env s)
        match x.op with
        | .forecast f => nextStage x f r.2 r.1
        | _ =>
          match r.2 with
          | some a => faultTx x 0x0502 a 0 r.1
          | none => doneTx x r.1
      else s
    | _, _ => s
  | none => s0

/-! TENSOR_OP_COMPLETE. -/

/-- ROUTE's end: its counters and demand, and poison in its mask. -/
def doRoute (x : Tx) (op : RouteOp) (s : State) : State :=
  let mask := match op.tokMask with
    | some a => span a (ceilDiv op.dl.rows 8)
    | none => []
  finish x [op.dl, op.dp] (routeResult x.c x.k s.mem op) (routeCounters s.mem op s) mask

/-- FORECAST's end: activity words and their layer (R203, R208). -/
def doForecast (x : Tx) (f : ForecastOp) (s : State) : State :=
  if f.stage < 2 then s
  else
    finish x [f.dc, f.dsc] (forecastResult s f)
      (onSweeps (fun p => { p with actOwners := p.actOwners.filter (fun e => e.1 != f.actBase) ++ [(f.actBase, f.blayer)] }) s)

/-- The work of a tensor transaction that has no end of its own elsewhere. -/
def completeOp (x : Tx) (env : MemEnv) (s0 : State) : State :=
  let s := environment env s0
  match x.op with
  | .vbin fn bc a b d => finish x [a, b] (vbinResult s.mem fn bc a b d) s
  | .vun fn a d => finish x [a] (vunResult s.mem fn a d) s
  | .vcvt e r g a d => finish x [a] (vcvtResult s.mem e r g a d) s
  | .vscale a b => finish x [a, b] (vscaleResult s.mem a b) s
  | .vfill v d => finish x [] (vfillResult v d) s
  | .red kind k a d => finish x [a] (redResult s.mem kind k a d) s
  | .gather a i d => finish x [a, i] (gatherResult x.c x.k s.mem a i d) s
  | .scatterAdd a i d g skip => finish x ([a, i] ++ g.toList ++ [d]) (scatterResult x.c x.k s.mem a i d g skip) s
  | .xpose a d => finish x [a] (xposeResult s.mem a d) s
  | .route op => doRoute x op s
  | .forecast f => doForecast x f s
  | .tokenize a d h => doTokenize x a d h s
  | .detokenize a d h => doDetokenize x a d h s
  | .sample a d h topk => doSample x a d h topk s
  | .bind a d _ h => doBind x a d h s
  | .kvmap d n h => doKvmap x d n h s
  | .sessClose r h => doClose x r h s
  | _ => s0

/-- TENSOR_OP_COMPLETE (R226, R303) (DESIGN CHOICE, log entry 7; DESIGN CHOICE, log entry 122). -/
def effTensorOpComplete (c : Fin 20) (tag : Fin 512) (env : MemEnv) (s : State) : State :=
  match s.tx? c.val tag.val with
  | some x => completeOp x env s
  | none => s

end Sys2Proof.Machine
end

