-- ==== Sys2Proof/Machine/Front.lean ====
section
/-! DEFINITION. Fronts: fused frames received, heartbeats, agreement, suspension, adoption and rejoining (R159, R383 to R400). -/

namespace Sys2Proof.Machine

/-- The front's state changed. -/
def onFront (f : Front → Front) (s : State) : State := { s with front := f s.front }

/-- FSTATE set. -/
def setFstate (v : Nat) (s : State) : State := setField 0x00060100 31 29 v s

/-- The PEER session with a rank, in any state but FREE. -/
def peerSlot (s : State) (r : Nat) : Option Nat := (sessionsWhere s (fun x => x.kind == 1 && x.rank == r && x.state != .free)).head?

/-- A front control message sent to one rank. -/
def tellRank (r ctype newEpoch set : Nat) (s : State) : State :=
  match peerSlot s r with
  | some i => sendMsg i typPeer (frontBytes s ctype newEpoch set 0 []) false s
  | none => s

/-- The ranks of a set. -/
def ranksOf (set : Nat) : List Nat := (List.range 32).filter (bit set)

/-- A set without, or with, a rank. -/
def withRank (set r : Nat) : Nat := if bit set r then set else set + 2 ^ r

/-! Fused frames (R158, R159, R392). -/

/-- A tile's rows placed: rows whose ROWMASK bit is 0 keep what was there. -/
def mergeRows (mask : Word32) (old new : List (List Word32)) : List (List Word32) :=
  (List.range (Nat.max old.length new.length)).map (fun i =>
    if mask.getLsbD i then nthD [] new i else nthD [] old i)

/-- One tile of a frame placed by TOKEN0 and vector. -/
def placeTile (f : FusedFrame) (j : Nat) (tiles : List (Nat × Nat × Word32 × List (List Word32))) :
    List (Nat × Nat × Word32 × List (List Word32)) :=
  let new := nthD [] f.tiles j
  let here (e : Nat × Nat × Word32 × List (List Word32)) : Bool := e.1 == f.token0 && e.2.1 == f.vec0 + j
  match tiles.find? here with
  | some old =>
    tiles.filter (fun e => !here e) ++ [(f.token0, f.vec0 + j, old.2.2.1 ||| f.rowMask, mergeRows f.rowMask old.2.2.2 new)]
  | none => tiles ++ [(f.token0, f.vec0 + j, f.rowMask, mergeRows f.rowMask [] new)]

/-- A frame taken into its stream (R159): a lower ATTEMPT is discarded, a higher one discards the tiles before it. -/
def takeFrame (f : FusedFrame) (x : FusedStream) : FusedStream :=
  if f.attempt < x.attempt then x
  else
    let tiles := if x.attempt < f.attempt then [] else x.tiles
    { x with attempt := f.attempt, tiles := (List.range f.ntile).foldl (fun l j => placeTile f j l) tiles }

/-- The writes of a RESULT frame's tiles into the destination; rows whose ROWMASK bit is 0 are untouched (R159). -/
def resultWrites (f : FusedFrame) (d : Desc) : List (Nat × Byte) :=
  ((List.range f.ntile).map (fun j =>
    ((List.range f.ntok).map (fun i =>
      if f.rowMask.getLsbD i && decide (f.token0 + i < d.rows) && decide (f.vec0 + j < d.vecs) then
        run (d.vecAddr (f.token0 + i) (f.vec0 + j))
          (packCodes d.etype ((List.range 32).map (fun l =>
            if 32 * (f.vec0 + j) + l < d.channels then (nthD 0#32 (nthD [] (nthD [] f.tiles j) i) l).toNat else d.etype.zero)))
      else [])).flatten)).flatten

/-- A RESULT frame accepted (R157, R159): its tiles go to the receiving program's descriptor; a complete stream is dropped
(DESIGN CHOICE, log entry 135). -/
def takeResult (f : FusedFrame) (x : FusedStream) (s : State) : State :=
  match Config.resultPlan s.modelRoot f.stream.toNat with
  | some (t, slot, tiles) =>
    let s1 := if f.attempt < x.attempt then s
      else match (s.thr t).desc slot with
        | some d => if d.wr && d.etype.code == f.etype then let w := resultWrites f d; writeMem w (wakeBanks (w.map Prod.fst) s) else s
        | none => s
    if tiles ≤ x.tiles.length then { s1 with arr := { s1.arr with streams := takeOut s1.arr.streams x } } else s1
  | none => s

/-- FUSED_FRAME_RECEIVE (R159, R392, R393). -/
def effFusedFrameReceive (f : FusedFrame) (s : State) : State :=
  let s1 := heardRank f.srcRank s
  if f.epoch ≠ s.epoch then bump 0x0006011C 1 s1
  else
    let old := (s.arr.streams.find? (fun x => x.stream == f.stream)).getD { stream := f.stream, attempt := f.attempt, tiles := [] }
    let x := takeFrame f old
    let s2 := { s1 with arr := { s1.arr with streams := s1.arr.streams.filter (fun x => x.stream != f.stream) ++ [x] } }
    if f.kind = 1 then takeResult f x s2 else s2

/-! Suspension (R398). -/

/-- A client session suspended. -/
def suspendSession (s : State) (i : Nat) : State :=
  let s1 := endGeneration i 9 s
  sendStatus i 0x0023 (frontLostDetail s1) (onSess i (fun x => { x with state := .suspended }) s1)

/-- This member suspends front work. -/
def suspend (s : State) : State :=
  let s1 := raise { code := 0x0904 } (setFstate 4
    { s with front := { s.front with proposal := none, attempt := 0, frames := [] }, bat := { s.bat with step := none } })
  (sessionsWhere s1 (fun x => x.kind == 0 && x.state == .opened)).foldl suspendSession s1

/-! Agreement (R395, R396). -/

/-- Ranks in a set. -/
def rankCount (set : Nat) : Nat := (ranksOf set).length

/-- May a part continue (R395)? -/
def mayContinue (members part : Nat) : Bool :=
  decide (rankCount members < 2 * rankCount part)
    || (2 * rankCount part == rankCount members && (match (ranksOf members).head? with
        | some r => bit part r
        | none => false))

/-- This member's part: itself and the members not lost to it. -/
def State.part (s : State) : Nat :=
  sumOf ((ranksOf s.front.members).map (fun r => if r = s.myRank ∨ bit (s.word 0x00060108).toNat r then 2 ^ r else 0))

/-- Does a proposal's epoch suit this member (R396, R400)? The next one; while it rejoins, any above the one it has taken, since other
joiners may come first (DEDUCED, log entry 108). -/
def epochFits (s : State) (newEpoch : Nat) : Bool :=
  if s.fstate = 4 ∨ s.front.restarted then decide (s.front.written.getD s.epoch < newEpoch) else newEpoch == s.epoch + 1

/-- The adopter of a share (R399). -/
def adopterOf (s : State) (set share : Nat) : Nat :=
  let next := (((List.range s.frontSize).map (fun k => (share + 1 + k) % s.frontSize)).find? (bit set)).getD share
  match Config.adopter s.modelRoot share with
  | some r => if bit set r then r else next
  | none => next

/-- Shares after a commit: those of absent ranks are adopted; those whose rank is back stay with their adopter until its regions are
resident (R399, R400). -/
def adoptShares (s : State) (set : Nat) : List Adoption :=
  let held (r : Nat) : Option Adoption := s.front.adoptions.find? (fun a => a.share == r && bit set a.by_)
  let fresh (r : Nat) : Adoption := { share := r, by_ := adopterOf s set r, fits := Config.shareFits s.modelRoot r (adopterOf s set r) }
  (List.range s.frontSize).filterMap (fun r =>
    if bit set r then (held r).map (fun a => { a with back := true })
    else some { (held r).getD (fresh r) with back := false, home := false })

/-- Sessions of the districts that need a share which fits no adopter are told FRONT_LOST (R399). -/
def tellLost (s : State) : State :=
  let stuck (d : Nat) : Bool := s.front.adoptions.any (fun a => !a.fits && Config.needsShare s.modelRoot a.share d)
  (sessionsWhere s (fun x => x.kind == 0 && x.state == .opened && stuck x.district)).foldl
    (fun u i => sendStatus i 0x0023 (frontLostDetail u) u) s

/-- A front token step is executed again under a new epoch (R397). -/
def redoStep (s : State) : State :=
  match s.bat.step with
  | some st => again st s
  | none => s

/-- The new epoch and membership adopted (R396, R397, R399, R400). -/
def adoptEpoch (e set : Nat) (s : State) : State :=
  let gone := (ranksOf s.front.members).filter (fun r => !bit set r)
  let joined := s.fstate == 4 || (s.front.members != 0 && (ranksOf set).any (fun r => !bit s.front.members r))
  let s1 := setWord 0x0006010C (s.word 0x0006010C &&& BitVec.ofNat 32 set) (setWord 0x00060108 (BitVec.ofNat 32 set)
    (setWord 0x00060104 (BitVec.ofNat 32 e) (setFstate 2 (bump 0x00060118 1 s))))
  let s2 := onFront (fun f => { f with
    members := set, accepted := none, proposal := none, adoptions := adoptShares s set, excluded := none, restarted := false,
    written := none, asked := none, suspectAt := f.suspectAt.filter (fun x => bit set x.1) }) s1
  let s3 := (gone.filterMap (peerSlot s2)).foldl (fun u i => releaseSession i u) s2
  let back := sessionsWhere s3 (fun x => x.kind == 0 && x.state == .suspended)
  let s4 := back.foldl (fun u i => noteReady i false (onSess i (fun x => { x with state := .opened }) u)) s3
  redoStep (tellLost (raiseAll ({ code := 0x0903 } :: (if joined then [{ code := 0x0905 }] else [])) s4))

/-- This member proposes a set (R396): it accepts its own proposal. -/
def propose_ (set : Nat) (s : State) : State :=
  let e := s.epoch + 1
  if s.front.accepted.any (fun a => a.1 == e) then s
  else
    let s1 := onFront (fun f => { f with proposal := some (e, set, 2 ^ s.myRank), accepted := some (e, set, s.now) })
      (if s.fstate = 2 then setFstate 3 s else s)
    ((ranksOf set).filter (· != s.myRank)).foldl (fun u r => tellRank r 2 e set u) s1

/-- The next REJOIN that waits is proposed (R400); a rank that is a member again by then needs none. -/
def nextRejoin (s : State) : State :=
  match s.front.rejoins.filter (fun e => !bit s.front.members e.2) with
  | (_, r) :: rest =>
    if s.fstate = 2 ∧ s.front.proposal = none ∧ s.lead = some s.myRank then
      propose_ (withRank s.front.members r) (onFront (fun f => { f with rejoins := rest }) s)
    else s
  | [] => s

/-- The proposal commits once every rank of its SET has accepted. -/
def tryCommit (s : State) : State :=
  match s.front.proposal with
  | some (e, set, acc) =>
    if (ranksOf set).all (bit acc) then
      nextRejoin (adoptEpoch e set (((ranksOf set).filter (· != s.myRank)).foldl (fun u r => tellRank r 4 e set u) s))
    else s
  | none => s

/-- PROPOSE (R396). -/
def effPropose (m : FrontMsg) (s0 : State) : State :=
  let s := heardRank m.rank s0
  let set := m.set.toNat
  let reach_ := (ranksOf set).all (fun r => r == s.myRank || bit (s.word 0x00060108).toNat r)
  let free := match s.front.accepted with
    | some (e, st, _) => e != m.newEpoch || st == set
    | none => true
  if s.fstate != 0 && epochFits s m.newEpoch && bit set s.myRank && reach_ && free && mayContinue s.front.members set then
    tellRank m.rank 3 m.newEpoch set
      (onFront (fun f => { f with accepted := some (m.newEpoch, set, s.now) }) (if s.fstate = 2 then setFstate 3 s else s))
  else s

/-- A front ACCEPT at the coordinator (R396). -/
def effFrontAccept (m : FrontMsg) (s0 : State) : State :=
  let s := heardRank m.rank s0
  match s.front.proposal with
  | some (e, set, acc) =>
    if m.newEpoch = e ∧ m.set.toNat = set ∧ bit set m.rank then
      tryCommit (onFront (fun f => { f with proposal := some (e, set, withRank acc m.rank) }) s)
    else s
  | none => s

/-- COMMIT (R396, R398): adopted by a member that accepted it; a member it excludes suspends. -/
def effCommit (m : FrontMsg) (s0 : State) : State :=
  let s := heardRank m.rank s0
  let set := m.set.toNat
  if bit set s.myRank then
    match s.front.accepted with
    | some (e, st, _) => if e = m.newEpoch ∧ st = set then adoptEpoch e set s else s
    | none => s
  else if s.epoch < m.newEpoch ∧ s.fstate ≠ 0 then
    let s1 := onFront (fun f => { f with excluded := some set }) s
    if s.fstate = 2 ∨ s.fstate = 3 then suspend s1 else s1
  else s

/-- COMMIT_TIMEOUT (R396): 2 ms after an acceptance. A forming or suspended member only gives the proposal up. -/
def effCommitTimeout (s : State) : State :=
  match s.front.accepted with
  | some (_, _, t) =>
    let s1 := reach (t + 2 * msHalves) s
    if s.fstate = 3 then suspend s1 else onFront (fun f => { f with accepted := none, proposal := none }) s1
  | none => s

/-! Heartbeats and loss (R393, R394). -/

/-- HEARTBEAT_SEND (R393). -/
def effHeartbeatSend (rank : Fin 32) (s : State) : State :=
  match peerSlot s rank.val with
  | some i =>
    if (s.sess i).state = .opened then
      let s1 := reach (look 0 s.front.sent rank.val + 100 * usHalves) s
      onFront (fun f => { f with sent := put 0 f.sent rank.val s1.now }) (tellRank rank.val 1 0 0 s1)
    else s
  | none => s

/-- Does this member hold an open PEER session to every other member of the configuration (R387)? -/
def allPeers (s : State) : Bool :=
  (List.range s.frontSize).all (fun r => r == s.myRank || (match peerSlot s r with
    | some i => (s.sess i).state == .opened
    | none => false))

/-- The lowest rank proposes the full membership when it holds every session (R387). -/
def tryForm (s : State) : State :=
  if s.fstate = 1 ∧ s.myRank = 0 ∧ allPeers s ∧ s.front.proposal = none then propose_ (2 ^ s.frontSize - 1) s else s

/-- A suspended member takes the continuing part's epoch and asks to rejoin (R400). -/
def tryRejoin (m : FrontMsg) (s : State) : State :=
  let auto := s.fstate == 4 && s.field 0x00060100 17 17 == 1 && decide (s.front.written.getD s.epoch < m.epoch)
  let s1 := if auto then onFront (fun f => { f with written := some m.epoch }) s else s
  match (s1.fstate == 4 || s1.front.restarted), s1.front.written with
  | true, some e =>
    if s1.front.asked = some e then s1
    else
      let lead := (ranksOf (withRank m.live.toNat m.rank)).headD m.rank
      onFront (fun f => { f with asked := some e }) (tellRank lead 5 e 0 s1)
  | _, _ => s1

/-- HEARTBEAT (R393, R394, R387, R400). -/
def effHeartbeat (m : FrontMsg) (s : State) : State :=
  if s.fstate = 0 ∧ !s.front.restarted then s else tryForm (tryRejoin m (heardRank m.rank s))

/-- Is a rank another member that this one still counts on? -/
def watched (s : State) (r : Nat) : Bool :=
  bit s.front.members r && r != s.myRank && bit (s.word 0x00060108).toNat r

/-- PEER_SUSPECT_TIMEOUT (R394): 300 µs without a heartbeat. -/
def effPeerSuspectTimeout (rank : Fin 32) (s0 : State) : State :=
  let r := rank.val
  if !watched s0 r || look 0 s0.front.suspectAt r != 0 then s0
  else
    let s := reach (look 0 s0.front.heard r + 300 * usHalves) s0
    raise ⟨0x0901, 0, 0, 6, r, 0⟩ (setField 0x0006010C r r 1 (onFront (fun f => { f with suspectAt := put 0 f.suspectAt r s.now }) s))

/-- What a member does with its part when it has lost a peer (R395, R396). -/
def afterLoss (s : State) : State :=
  if s.fstate ≠ 2 ∧ s.fstate ≠ 3 then s
  else if !mayContinue s.front.members s.part then suspend s
  else if (ranksOf s.part).head? = some s.myRank then tryCommit (propose_ s.part s) else s

/-- PEER_LOST_TIMEOUT (R394): a peer still silent 5 ms after its suspicion is lost. -/
def effPeerLostTimeout (rank : Fin 32) (s0 : State) : State :=
  let r := rank.val
  let t := look 0 s0.front.suspectAt r
  if !watched s0 r || t == 0 then s0
  else
    afterLoss (raise ⟨0x0902, 0, 0, 6, r, 0⟩ (setField 0x00060108 r r 0
      (onFront (fun f => { f with suspectAt := put 0 f.suspectAt r 0 }) (reach (t + 5 * msHalves) s0))))

/-! Rejoining (R385, R400). -/

/-- REJOIN at the lead: refused where its epoch is not the current one, else proposed in order of arrival (DEDUCED, log entry 109). -/
def effRejoin (m : FrontMsg) (s0 : State) : State :=
  let s := heardRank m.rank s0
  if s.lead ≠ some s.myRank ∨ (s.fstate ≠ 2 ∧ s.fstate ≠ 3) then s
  else if m.newEpoch ≠ s.epoch then raise ⟨0x0905, 1, 0, 6, m.rank, 0⟩ s
  else
    let waiting := sortBy (fun e => e.1 * 32 + e.2) (s.front.rejoins ++ [(s.ao, m.rank)])
    nextRejoin (onFront (fun f => { f with rejoins := waiting }) s)

/-- The bytes of a PEER OPEN (Tables NET-8, FRO-2); the nonce and the ephemeral key are draws of Chevik's DRBG. -/
def peerOpen (s : State) (i rank epoch : Nat) : List Byte :=
  let p := [1#8, 0#8] ++ beBytes 2 0 ++ beBytes 4 131072 ++ beBytes 4 0 ++ beBytes 2 (s.field 0x0005000C 13 0) ++ beBytes 2 1
    ++ beBytes 32 s.drawn ++ publicKey (beBytes 74 (Config.freeNat (s.free + 1))) ++ List.replicate 3 0#8
    ++ beBytes 8 ((s.word 0x00060114).toNat * 2 ^ 32 + (s.word 0x00060110).toNat) ++ beBytes 1 s.myRank ++ beBytes 1 rank
    ++ beBytes 2 0 ++ beBytes 4 epoch ++ beBytes 64 s.front.digest ++ beBytes 4 (i * 4096 + (s.slotHist i).gen)
    ++ beBytes 2 860 ++ report s (beBytes 32 s.drawn)
  p ++ sign (ak s) (Config.sha512 p)

/-- A PEER session opened to a rank above this one's (DEDUCED, log entry 108). -/
def openPeer (rank epoch : Nat) (s : State) : State :=
  match s.front.entries[rank]?, freeSlot s with
  | some e, some i =>
    let x : Session :=
      { state := .handshake, gen := (s.slotHist i).gen, maxctx := 131072, addr := e.addr, port := e.port, kind := 1, rank := rank,
        ipv4 := decide (e.addr / 2 ^ 32 = 0xFFFF), pmtu := linkMtu s (decide (e.addr / 2 ^ 32 = 0xFFFF)), opener := true, program := Config.sessionProgram s.modelRoot 1, openReq := peerOpen s i rank epoch, eph := Config.freeNat (s.free + 1),
        openedAt := s.now, lastActive := s.ao, idleS := s.field 0x0006000C 31 16 }
    onNet (fun n => { n with ctl := n.ctl ++ [openPacket s x] })
      (onFront (fun f => { f with openedAt := put 0 f.openedAt rank s.now }) (skipFree 2 (setSess i x s)))
  | _, _ => s

/-- REJOIN_OPEN_RETRY (R385, R387, R400): every 100 ms, to a configured rank above this one's without a PEER session (DEDUCED, log entry 108). -/
def effRejoinOpenRetry (rank : Fin 32) (s0 : State) : State :=
  let r := rank.val
  if s0.frontSize ≤ r || r ≤ s0.myRank || (peerSlot s0 r).isSome then s0
  else
    let s := reach (look 0 s0.front.openedAt r + 100 * msHalves) s0
    match s.fstate, s.front.written with
    | 1, _ => openPeer r 0 s
    | 2, _ => openPeer r s.epoch s
    | 4, some e => openPeer r e s
    | _, _ => s0

/-! Front token steps, formation and adoption (R387, R390, R399). -/

/-- STEP (R390): the lead's step; steps run in ascending STEPNO (DESIGN CHOICE, log entry 110). -/
def effStep (m : FrontMsg) (s0 : State) : State :=
  let s := heardRank m.rank s0
  if s.fstate = 2 ∧ m.epoch = s.epoch ∧ s.lead = some m.rank ∧ m.rank ≠ s.myRank ∧ s.front.stepNo < m.stepNo then
    let mine := m.batch.filterMap (fun e => (s.live? e.1.toNat).bind (fun i => if (s.sess i).kind = 0 then some (i, e.2) else none))
    let first := s.sess ((mine.head?.map Prod.fst).getD 0)
    onFront (fun f => { f with stepNo := m.stepNo })
      (onBat (fun b => { b with step := some { district := first.district, fidelity := first.fidelity, sessions := mine, number := m.stepNo } })
        (endStep s).1)
  else s

/-- FORMATION_TIMEOUT (R387): 60 s after the configuration. -/
def effFormationTimeout (s : State) : State :=
  if s.fstate = 1 then raise { code := 0x0908 } (reach (s.front.configuredAt + 60 * sHalves) s) else s

/-- ADOPTION_DONE (R399, R400): an adopted share is resident, or one whose rank is back is resident there (DEDUCED, log entry 109; DESIGN CHOICE, log entry 158). -/
def effAdoptionDone (share : Fin 32) (s : State) : State :=
  let mark (f : Adoption → Adoption) : State :=
    onFront (fun x => { x with adoptions := x.adoptions.map (fun b => if b.share = share.val then f b else b) }) s
  match s.front.adoptions.find? (fun a => a.share == share.val) with
  | some a =>
    if a.back then mark (fun b => { b with home := true })
    else if a.done || !a.fits then s
    else
      let s1 := mark (fun b => { b with done := true })
      if a.by_ = s.myRank then raise ⟨0x0906, 0, 0, 6, share.val, 0⟩ s1 else s1
  | none => s

/-- FUSED_FRAME_RECEIVE (R159). -/
def execFusedFrameReceive (f : FusedFrame) (s : State) : Host.Outcome State Fault Refusal := done (effFusedFrameReceive f s)
/-- HEARTBEAT_SEND (R393). -/
def execHeartbeatSend (rank : Fin 32) (s : State) : Host.Outcome State Fault Refusal := done (effHeartbeatSend rank s)
/-- HEARTBEAT (R393). -/
def execHeartbeat (m : FrontMsg) (s : State) : Host.Outcome State Fault Refusal := done (effHeartbeat m s)
/-- PEER_SUSPECT_TIMEOUT (R394). -/
def execPeerSuspectTimeout (rank : Fin 32) (s : State) : Host.Outcome State Fault Refusal := done (effPeerSuspectTimeout rank s)
/-- PEER_LOST_TIMEOUT (R394). -/
def execPeerLostTimeout (rank : Fin 32) (s : State) : Host.Outcome State Fault Refusal := done (effPeerLostTimeout rank s)
/-- PROPOSE (R396). -/
def execPropose (m : FrontMsg) (s : State) : Host.Outcome State Fault Refusal := done (effPropose m s)
/-- FRONT_ACCEPT (R396). -/
def execFrontAccept (m : FrontMsg) (s : State) : Host.Outcome State Fault Refusal := done (effFrontAccept m s)
/-- COMMIT (R396). -/
def execCommit (m : FrontMsg) (s : State) : Host.Outcome State Fault Refusal := done (effCommit m s)
/-- COMMIT_TIMEOUT (R396). -/
def execCommitTimeout  (s : State) : Host.Outcome State Fault Refusal := done (effCommitTimeout s)
/-- REJOIN (R400). -/
def execRejoin (m : FrontMsg) (s : State) : Host.Outcome State Fault Refusal := done (effRejoin m s)
/-- REJOIN_OPEN_RETRY (R400). -/
def execRejoinOpenRetry (rank : Fin 32) (s : State) : Host.Outcome State Fault Refusal := done (effRejoinOpenRetry rank s)
/-- STEP (R390). -/
def execStep (m : FrontMsg) (s : State) : Host.Outcome State Fault Refusal := done (effStep m s)
/-- FORMATION_TIMEOUT (R387). -/
def execFormationTimeout  (s : State) : Host.Outcome State Fault Refusal := done (effFormationTimeout s)
/-- ADOPTION_DONE (R399). -/
def execAdoptionDone (shareRank : Fin 32) (s : State) : Host.Outcome State Fault Refusal := done (effAdoptionDone shareRank s)

end Sys2Proof.Machine
end

