-- ==== Sys2Proof/Machine/Reset.lean ====
section
/-! DEFINITION. Resets, the ROM's step, HOLD, and the parity-storm recovery (R412, R415, R421, R427, R464, R465, R470,
R475, R479 to R481, R495). -/

namespace Sys2Proof.Machine

/-! Start-up registers (Table BOO-4). -/

/-- BOOT_STATE. -/
def State.bootState (s : State) : Nat := s.field 0x00000100 31 28
/-- BOOT_STATE set. -/
def setBootState (v : Nat) (s : State) : State := setField 0x00000100 31 28 v s
/-- READY. -/
def State.isReady (s : State) : Bool := s.field 0x00000100 23 23 == 1
/-- The start-up state changed. -/
def onBoot (f : Boot → Boot) (s : State) : State := { s with boot := f s.boot }
/-- Is the module in Off with 36 V present (Table POW-3), a start not under way? -/
def State.isOff (s : State) : Bool := s.boot.powered && s.boot.step == 0 && s.bootState == 0

/-! What the health record rebuilds (R464, R465). -/

/-- One entry's share in the repair map, the retired segments, the untested units, the partition request and the age trims. -/
def applyEntry (s : State) (e : HEntry) : State :=
  let a (i : Nat) : Nat := nthD 0 e.args i
  let n := a 0 * 48 + a 1
  match e.typ with
  | 1 => onPair n (switchMap n { column := a 2, spare := a 3, trigger := a 4 }) s
  | 2 =>
    onPair n (fun p =>
      { p.onTrim (a 2) (fun t => { t with state := if a 3 = 1 then 2 else 3, spare := 15 }) with
        spares := p.spares.map (fun x => if x.2.inUse && x.2.column == a 2 then (x.1, { x.2 with inUse := false, column := 255, spent := true }) else x) }) s
  | 3 =>
    let b := if a 0 = 16 then a 1 else 8 + 16 * a 0 + a 1
    let g := (bankRange b).1 + a 2 * 65536
    { s with mem := if a 3 = 1 then { s.mem with segments := addOnce s.mem.segments g }
                    else { s.mem with untested := addOnce s.mem.untested g } }
  | 4 => { s with test := { s.test with groups := ((List.range (a 1)).map (a 0 + ·)).foldl addOnce s.test.groups } }
  | 5 =>
    if a 1 = 1 then { s with mem := { s.mem with withheld := addOnce s.mem.withheld (a 0) } }
    else { s with test := { s.test with regions := addOnce s.test.regions (a 0) } }
  | 6 => setField (0x00020100 + 4 * a 0) 21 17 (a 1) s
  | 8 => { s with mem := { s.mem with partRequest := some (a 0, a 1) } }
  | _ => s

/-- The module's repair state rebuilt from the entries, with REMAPS (R465); its arrays hold nothing else (DEDUCED, log entry 59). -/
def rebuild (s : State) : State :=
  let s1 := s.test.health.entries.foldl applyEntry
    { s with arr := {}, mem := { s.mem with segments := [], untested := [], withheld := [], partRequest := none },
             test := { s.test with groups := [], regions := [] } }
  setField 0x000A0108 31 20 (Nat.min 4095 (s.test.health.entries.filter (fun e => e.typ == 1)).length) s1

/-! Losses (Table BOO-2, R427, R475 to R478). -/

/-- Does a register keep its value when the logic outside the always-on domain resets? The blocks powered in Off do, and the
store controller's in a warm reset; so do ERASES_TOTAL, which counts since format, and the front's configuration (DEDUCED, log entry 47). -/
def keptWord (store link : Bool) (a : Nat) : Bool :=
  decide (a < 0x50000) || (decide (0xC0000 ≤ a) && decide (a < 0xD0000)) || [0x60100, 0x60110, 0x60114, 0x70014].contains a
    || (store && decide (0x70000 ≤ a) && decide (a < 0x80000)) || (link && decide (0x50000 ≤ a) && decide (a < 0x70000))

/-- An install under way is discarded (R337) (DEDUCED, log entry 50). -/
def dropInstall (x : Store) : Store :=
  match x.install with
  | some ids => { x with install := none, objects := x.objects.filter (fun o => !ids.contains o.id) }
  | none => x

/-- What a front member keeps of its configuration; it is restarted and holds no epoch (R400) (DEDUCED, log entry 49). -/
def restartFront (s : State) : State :=
  if s.frontSize = 0 then { s with front := {} }
  else
    setField 0x00060100 17 17 1 (setFstate 4 { s with front :=
      { entries := s.front.entries, digest := s.front.digest, root := s.front.root, configuredAt := s.front.configuredAt, restarted := true } })

/-- The arrays as a reload from staging and a trim will restore them: regions loading, every working state of their logic
gone (Table BOO-2, R438, R440; DEDUCED, log entry 41) (DEDUCED, log entry 71). -/
def shelve (a : Arrays) : Arrays :=
  { a with
    regions := (a.regions.filter (fun r => r.state == .resident || r.state == .reloading)).map (fun r => { r with state := .loading, written := false, gauto := [] })
    pairs := a.pairs.map (fun e => (e.1, { e.2 with
      wv := [], baro := [], remaps := [], zeroWords := 0, clips := [], acc := [], caps := [], delays := [], turn := false,
      a := e.2.a.filter (fun x => decide (x.1 % 512 < 268)), forced := 0, band := 0, coolSince := none, refreshing := [],
      due := [], refreshed := [], reloads := [], recal := none, recalDue := none, retryAt := 0, calAt := none }))
    tiles := a.tiles.map (fun e => (e.1, { e.2 with cache := [], hits := 0, misses := 0 }))
    sweeps := {}, forecast := [], stepNo := 0, replays := [], streams := [], joining := [] }

/-- Threads, transactions, programs and the working state of the units reset; the always-on domain keeps its own (DEDUCED, log entry 50). -/
def loseUnits (s : State) : State :=
  { s with
    clk := { s.clk with
      stretch := []
      bases := putAll (0, 0) s.clk.bases ((List.range 16).map (fun d => (d, (s.now, s.domainSteps d)))) }
    threads := [], tags := [], txs := [], recSeq := [], rot := [], programs := [], latch := []
    kv := {}, bat := {}, side := { s.side with windows := [] }
    sec := { s.sec with debug := false, fwDigest := 0 }
    pow := { s.pow with maxSince := none, limit := false, moving := none, next := none, breeze := [], droopAt := [], excluded := [],
                        hot := [], comparators := [] }
    test := { s.test with slice := none, waitAt := none, holdIssue := false, retireLater := [], phase := 0, step := 0, wake := false, storm := false }
    mem := { s.mem with code := [] }
    store := { dropInstall s.store with spilling := [] } }

/-- Every session is gone, its keys zeroed (R427). -/
def dropSessions (s : State) : State := s.net.sessions.foldl (fun u e => releaseSession e.1 u) s

/-- A session that closes at once: its CLOSE leaves, and its slot is released (R412, R415, R476, R479). -/
def closeOne (status i : Nat) (s : State) : State :=
  let s1 := beginClose i status s
  match (s1.sess i).out.getLast? with
  | some d => releaseSession i (transmit i d s1)
  | none => releaseSession i s1

/-- Every session closes at once. -/
def closeAll (status : Nat) (s : State) : State :=
  (sessionsWhere s (fun x => x.state != .free)).foldl (fun u i => closeOne status i u) s

/-- The port after a reset: the link retrains, and no address is in use. -/
def freshPort (n : Net) : Net := { sessions := n.sessions, slots := n.slots, wire := n.wire }

/-- What a warm reset loses (Table BOO-2): DRAM, the staged districts and the store stay (DEDUCED, log entry 47). -/
def loseWarm (s : State) : State :=
  let staged := s.bat.staged
  let s1 := loseUnits (dropSessions s)
  let s2 := { s1 with
    csr := s1.csr.filter (fun e => keptWord true false e.1)
    net := freshPort s1.net
    bat := { staged := staged }
    kv := { images := s.kv.images, unstaged := s.kv.unstaged }
    arr := shelve s1.arr
    mem := { s1.mem with
      cells := s1.mem.cells.filter (fun e => decide (e.1 < hubBase))
      allocs := (s1.mem.allocs.filter (fun x => x.kind == 4)).map (fun x => { x with program := 0 })
      fills := [], poison := s1.mem.poison.filter (fun e => decide (e.1 * 64 < hubBase)), poisonTimes := [], replayTimes := [], banks := [] } }
  restartFront (setField 0x000A0108 31 20 (s.field 0x000A0108 31 20) s2)

/-- What is lost with every rail but VAO: DRAM, the arrays and the store controller's state too. The health record rebuilds the
repair map (R465) (DEDUCED, log entry 48). -/
def loseRails (s : State) : State :=
  let s1 := loseUnits s
  let s2 := { s1 with
    csr := s1.csr.filter (fun e => keptWord false false e.1)
    net := { wire := s1.net.wire }
    mem := { partLock := s1.mem.partLock, stageCur := s1.mem.stageCur, kvCur := s1.mem.kvCur, gibs := s1.mem.gibs, hashDraw := s1.mem.hashDraw }
    store := { s1.store with failed := [], luns := [], geometry := none, good := [], reads := [], relocating := [], head := none, logSlots := 0, patrols := [], late := [] } }
  restartFront (rebuild s2)

/-- What stays when 36 V is lost: the fuses, the NOR and the programmed NAND pages (R478), and what has left the module. -/
def loseAll (s : State) : State :=
  let st := dropInstall s.store
  let s1 : State :=
    { pending := s.pending, free := s.free, pins := { resetN := s.pins.resetN }, net := { wire := s.net.wire }, side := { out := s.side.out }
      csr := s.csr.filter (fun e => [0x60100, 0x60110, 0x60114, 0x70014].contains e.1)
      front := s.front
      sec := { fuses := s.sec.fuses, delegs := s.sec.delegs, exported := s.sec.exported, nor := s.sec.nor, store := s.sec.store,
               active := s.sec.active, try_ := s.sec.try_ }
      test := { health := { s.test.health with skipTest := false } }
      store := { formatted := st.formatted, recorded := st.recorded, objects := st.objects, packages := st.packages, data := st.data,
                 recordAt := st.recordAt, salt := st.salt, table := st.table, spares := st.spares, dirty := st.dirty
                 bad := st.bad, bands := st.bands, written := st.written, erases := st.erases, credit := st.credit, hours := st.hours } }
  restartFront s1

/-! Chevik's ROM (R406, R412, R415, R420, R421, R465). -/

/-- An owner's slot revoked. -/
def revokeOwner (i : Nat) (s : State) : State :=
  { s with sec := { s.sec with fuses := { s.sec.fuses with owners := setNth s.sec.fuses.owners i (fun o => { o with revoked := true }) } } }

/-- The fuses changed (DEDUCED, log entry 102). -/
def onFuses (f : Fuses → Fuses) (s : State) : State := { s with sec := { s.sec with fuses := f s.sec.fuses } }

/-- The DIK public key is exported and LC_GROUP[0] blown (R412). -/
def personalise (s : State) : State :=
  raise { code := 0x0A05 } (onFuses (fun f => { f with groups := Nat.max 1 f.groups }) { s with sec := { s.sec with exported := true } })

/-- A start in MANUFACTURE (R412): a complete secret repeats the export and the blow; an interrupted draw into SECRET_A is blown
whole and drawn again into SECRET_B; an interrupted SECRET_B is blown whole too. -/
def resumeSecret (s : State) : State :=
  let f := s.sec.fuses
  if f.secretA = 2 ∨ f.secretB = 2 then personalise s
  else if f.secretA = 1 then
    if f.secretB = 0 then personalise (onFuses (fun f => { f with secretA := 3, secretB := 2 }) s)
    else onFuses (fun f => { f with secretA := 3, secretB := 3 }) s
  else if f.secretA = 3 ∧ f.secretB = 1 then onFuses (fun f => { f with secretB := 3 }) s
  else s

/-- The lower of two current owners is revoked (R415). -/
def settleOwners (s : State) : State :=
  match currentOwner s with
  | some c => (List.range c).foldl (fun u i => revokeOwner i u) s
  | none => s

/-- A FIELD module whose every written owner slot is revoked completes its transition (R412). -/
def resumeWipe (s : State) : State :=
  let f := s.sec.fuses
  if f.groups = 2 ∧ !f.owners.isEmpty ∧ f.owners.all OwnerSlot.revoked then
    raise { code := 0x0A05 } (onFuses (fun f => { f with groups := if f.secretA = 3 ∧ f.secretB = 3 then 4 else 3 }) s)
  else s

/-- The start's fuse work, in a state's own rules. -/
def startFuses (s : State) : State :=
  if s.sec.fuses.groups = 0 then resumeSecret s else resumeWipe (settleOwners s)

/-- An image by slot (DEDUCED, log entry 84). -/
def slotImage (l : List (Nat × FwImage)) (k : Nat) : Option FwImage := (l.find? (fun e => e.1 == k)).map Prod.snd

/-- The image of a NOR slot that R418 and R420 pass. -/
def bootable (s : State) (k : Nat) : Option FwImage :=
  (slotImage s.sec.nor k).filter (fun i => decide (s.sec.fuses.fwMin ≤ i.svn))

/-- An image booted from a slot. -/
def bootImage (k : Nat) (tried : Bool) (i : FwImage) (s : State) : State :=
  onBoot (fun b => { b with image := some i, step := 2 }) { s with sec := { s.sec with booted := k, tried := tried } }

/-- The other slot boots after a refusal; where it fails too the module goes into ROM recovery (R421, R479). -/
def bootOther (k : Nat) (s : State) : State :=
  match bootable s k with
  | some i => raise { code := 0x0A02 } (bootImage k false i s)
  | none => raise { code := 0x0A01 } (setBootState 12 (onBoot (fun b => { b with image := none, step := 2 }) (refuseSig s)))

/-- The boot slot chosen: TRY once, else ACTIVE; a slot that fails gives way to the other (R421). -/
def chooseSlot (s : State) : State :=
  let first := s.sec.try_.getD s.sec.active
  let tried := s.sec.try_.isSome
  let s1 := { s with sec := { s.sec with try_ := none } }
  match bootable s1 first with
  | some i => bootImage first tried i s1
  | none => bootOther (1 - first) (refuseSig s1)

/-- The health record's verdict, and its consumption marker (R465) (DEDUCED, log entry 59). -/
def judgeRecord (s : State) : State :=
  match s.test.health.record with
  | some r =>
    if (r.kind = 1 ∨ r.kind = 2) ∧ r.lc = s.sec.fuses.groups ∧ !s.test.health.consumed then
      { s with test := { s.test with health := { s.test.health with skipTest := true, consumed := true } } }
    else s
  | none => s

/-- Step 2 of Table BOO-1, as Chevik's ROM runs it: fuses, boot slot, and on a cold path the record and what it rebuilds. A
SCRAPPED module stays in ROM (Table SEC-3). -/
def runRom (s0 : State) : State :=
  let s := startFuses (setBootState 1 s0)
  if 4 ≤ s.sec.fuses.groups then onBoot (fun b => { b with step := 0 }) s
  else if s.boot.warm then chooseSlot s
  else chooseSlot (judgeRecord (rebuild s))

/-- A start at step 2 (R470, R475), held by a low RESET_N (R495). -/
def startRom (cause : Nat) (warm : Bool) (s : State) : State :=
  let s1 := setField 0x00000100 27 21 (cause * 8) (setField 0x00020024 28 25 0 (setBootState 1 (onBoot (fun b => { b with
    warm := warm, step := 1, startAt := s.now, hold := 0, forced := false, shutdown := 0, wdogAt := none, linkDone := false,
    storeDone := false, image := none, waiting := false, tripAt := none, railAt := none, lowAt := none, tripHeld := false,
    arrays := b.arrays && warm, railsGood := b.railsGood && warm })
    { s with test := { s.test with health := { s.test.health with skipTest := false } } })))
  if s.pins.resetN then runRom s1 else onBoot (fun b => { b with waiting := true }) s1

/-- A warm reset with its cause (R475). -/
def warmReset (cause : Nat) (s : State) : State :=
  startRom cause true (loseWarm (raise { code := 0x0D04, info0 := cause } s))

/-- A start that the rails' loss precedes, at step 2 (R470, R477) (DESIGN CHOICE, log entry 6). -/
def startCold (cause : Nat) (s : State) : State := startRom cause false (loseRails s)

/-- Every rail except VAO turns off (R435, R452, R476, R479). -/
def railsOff (s : State) : State :=
  setBootState 0 (setField 0x00000100 23 23 0 (setField 0x00000100 21 21 0 (setField 0x00020024 28 25 0 (setWord 0x00040000 0
    (onBoot (fun b => { b with
      railsGood := false, arrays := false, step := 0, waiting := false, shutdown := 0, wdogAt := none, linkDone := false, storeDone := false,
      forced := false, hold := 0 }) (loseRails s))))))

/-- HOLD entered (R480): after a storm (5) or a watchdog (4) the hub rail, the link and Pelet stay; after a rail fault (6) or a failed
step (1) every rail is off. -/
def enterHold (cause : Nat) (s : State) : State :=
  let link := cause = 4 ∨ cause = 5
  let s1 := if link then
      let t := dropSessions s
      { loseUnits t with csr := t.csr.filter (fun e => keptWord true true e.1), bat := {}, arr := shelve t.arr, net := { t.net with hs := [], ctl := [] } }
    else railsOff s
  let s2 := onBoot (fun b => { b with hold := cause, forced := true, step := 0, shutdown := 0, wdogAt := none, waiting := false }) s1
  raise { code := 0x0D08 }
    (bumpSat 0x00000110 7 0 1 (setField 0x00000100 23 23 0 (setField 0x00000100 21 21 0 (setBootState 10 s2))))

/-- A start step fails (R481) (DEDUCED, log entry 56). -/
def failStep (n : Nat) (s : State) : State := raise { code := 0x0D02, info0 := n } (setField 0x00000100 20 17 n s)

/-- A failure counted in the last hour; its HOLD limit reached? (Table BOO-3). -/
def countRecovery (cause limit : Nat) (s : State) : State × Bool :=
  let times := recent s.now (3600 * sHalves) (look [] s.boot.recoveries cause) ++ [s.now]
  (onBoot (fun b => { b with recoveries := put [] b.recoveries cause times }) s, decide (limit ≤ times.length))

/-- A recovery taken: BOO_RECOVERY with its cause (R479) (DEDUCED, log entry 58). -/
def noteRecovery (cause : Nat) (s : State) : State := raise { code := 0x0D07, info0 := cause } s

/-- The recovery of a parity storm declared in the command (R306, R479): no new steps, sessions closed, warm reset, then Downpour's
phases 2 and 4 before step 8; at its limit HOLD (DESIGN CHOICE, log entry 52). -/
def recoverStorm (s0 : State) : State :=
  if s0.boot.stormDue then
    let s := onBoot (fun b => { b with stormDue := false }) s0
    let s1 := closeAll 0x0014 s
    match countRecovery 5 3 s1 with
    | (s2, true) => enterHold 5 s2
    | (s2, false) => onBoot (fun b => { b with storm := true }) (warmReset 5 (noteRecovery 5 (bumpSat 0x00000110 23 16 1 s2)))
  else s0

/-- A command that may poison lines starts with no storm declared: the flag is used within one command alone. -/
def noStorm (s : State) : State := onBoot (fun b => { b with stormDue := false }) s

/-- DMA_COPY_DONE (R249). -/
def execDmaCopyDone (c : Fin 20) (tag : Fin 512) (env : MemEnv) (s : State) : Host.Outcome State Fault Refusal :=
  done (recoverStorm (effDmaCopyDone c tag env (noStorm s)))
/-- SWEEP_DONE (R262). -/
def execSweepDone (c : Fin 20) (tag : Fin 512) (env : MemEnv) (s : State) : Host.Outcome State Fault Refusal :=
  done (recoverStorm (effSweepDone c tag env (noStorm s)))
/-- TENSOR_OP_COMPLETE (R226). -/
def execTensorOpComplete (c : Fin 20) (tag : Fin 512) (env : MemEnv) (s : State) : Host.Outcome State Fault Refusal :=
  done (recoverStorm (effTensorOpComplete c tag env (noStorm s)))

end Sys2Proof.Machine
end

