-- ==== Sys2Proof/Machine/Power.lean ====
section
/-! DEFINITION. Power states, caps and the Lull, rails, clocks, droop and heat (R433 to R455). -/

namespace Sys2Proof.Machine

/-- The power state changed. -/
def onPow (f : Power → Power) (s : State) : State := { s with pow := f s.pow }

/-! Caps and telemetry (R442, R443). -/

/-- A cap word written: both fields held within their ranges (R454); it takes effect at the next telemetry boundary. -/
def writeCap (a : Nat) (v : Word32) (s : State) : State :=
  if !s.boot.powered then s
  else
    onPow (fun p => { p with capDue := true })
      (setField a 21 12 (clampNat 300 850 (bits v.toNat 21 12)) (setField a 31 22 (clampNat 300 900 (bits v.toNat 31 22)) s))

/-- CAP_OWN_WRITE (R443). -/
def effCapOwnWrite (v : Word32) (s : State) : State := writeCap 0x00020000 v s

/-- CAP_BOARD_WRITE (R443). -/
def effCapBoardWrite (v : Word32) (s : State) : State := writeCap 0x00020004 v s

/-- Is input power estimated: in a start, a start test, Downpour or recovery (R442)? -/
def State.estimated (s : State) : Bool := !s.isReady || s.test.phase != 0

/-- The caps in effect: C_W and C_S (R443), the window cap at most 600 W in Downpour (R461). -/
def capsDue (s : State) : Nat × Nat :=
  let w := Nat.min (s.field 0x00020000 31 22) (s.field 0x00020004 31 22)
  let cw := if s.test.phase = 0 then w else Nat.min 600 w
  (cw, Nat.min cw (Nat.min (s.field 0x00020000 21 12) (s.field 0x00020004 21 12)))

/-- Written caps take effect at a boundary (R443); t and E restart when C_S changes (R444). -/
def applyCaps (s : State) : State :=
  let c := capsDue s
  let old := (s.field 0x00020008 31 22, s.field 0x00020008 21 12)
  let s1 := onPow (fun p => { p with capDue := false, capAt := if c.2 = old.2 then p.capAt else s.now })
    (setField 0x00020008 21 12 c.2 (setField 0x00020008 31 22 c.1 s))
  if c = old then s1 else raise { code := 0x0B01 } s1

/-- Readings of a window that ends now. -/
def Power.within (p : Power) (now window : Nat) : List (Nat × Nat × Nat) := p.samples.filter (fun x => decide (now < x.2.2 + window))

/-- Their energy in nanojoules, and their time in microseconds. -/
def energyOf (l : List (Nat × Nat × Nat)) : Nat := sumOf (l.map (fun x => x.1 * x.2.1))
/-- See `energyOf`. -/
def spanOf (l : List (Nat × Nat × Nat)) : Nat := sumOf (l.map (fun x => x.2.1))

/-- The mean input power of a window in whole watts, rounded down (DEDUCED, log entry 42). -/
def meanWatts (s : State) (window : Nat) : Nat :=
  let l := s.pow.within s.now window
  energyOf l / (1000 * Nat.max 1 (spanOf l))

/-- TELEMETRY_SAMPLE (R442, R443): a reading every 20 µs, or an estimate every 2 µs (DESIGN CHOICE, log entry 123). -/
def effTelemetrySample (mw : Nat) (s0 : State) : State :=
  if !s0.boot.powered then s0
  else
    let dt := if s0.estimated then 2 else 20
    let last := match s0.pow.samples.head? with
      | some x => x.2.2
      | none => 0
    let s := reach (last + dt * usHalves) s0
    let e := s.pow.energyNano + mw * dt
    let s1 := onPow (fun p => { p with samples := (mw, dt, s.now) :: p.within s.now sHalves, energyNano := e % 10 ^ 9 }) s
    let total := (s.word 0x0002001C).toNat * 2 ^ 32 + (s.word 0x00020018).toNat + e / 10 ^ 9
    let s2 := setWord 0x0002001C (BitVec.ofNat 32 (total / 2 ^ 32)) (setWord 0x00020018 (BitVec.ofNat 32 total) s1)
    let s3 := setField 0x00020014 31 31 (b01 s.estimated) (setField 0x00020014 15 0 (meanWatts s2 sHalves) s2)
    let s4 := setField 0x00020010 15 0 (meanWatts s2 (40 * usHalves)) (setField 0x00020010 31 16 (meanWatts s2 msHalves) s3)
    if s4.pow.capDue then applyCaps s4 else s4

/-! The Lull (R444 to R447). -/

/-- The excess P − T of R444 as a fraction of milliwatts. P is nanojoules over microseconds; H spans t, at most 1 s, since the
last change of C_S. -/
def lullExcess (s : State) : Int × Nat :=
  let near := s.pow.within s.now (40 * usHalves)
  let d := Nat.max 1 (spanOf near)
  let guard := if s.estimated then 10 else s.field 0x0002000C 19 16
  let cw : Int := s.field 0x00020008 31 22
  let cs : Int := s.field 0x00020008 21 12
  let t := Nat.min sHalves (s.now - s.pow.capAt)
  -- in 1/3,800,000,000 of a milliwatt: 20 × H, with H in nanojoules, is in units of 10^-6 mW
  let h : Int := cs * 1000 * t - (energyOf (s.pow.within s.now t) : Int) * 3800
  let tgt := Min.min (cw * 10 * (100 - (guard : Int)) * 3800000000) (Max.max 0 (cs * 1000 * 3800000000 + 20 * h))
  ((energyOf near : Int) * 3800000000 - tgt * d, d * 3800000000)

/-- R444's step d: the excess in units of LULL_STEP_W, rounded up; below the target that is minus the floor of what is left. -/
def lullStep (s : State) : Int :=
  let x := lullExcess s
  (0 - (0 - x.1) / ((x.2 * (s.field 0x0002000C 24 20 * 1000) : Nat) : Int))

/-! Bubbles (R445). -/

/-- The temperature word of a stack, or of the hub. -/
def tjWord (d : Nat) : Nat := 0x00030100 + 4 * d

/-- L_s = max(L_cap, L_th,s) as last computed. -/
def lullNow (s : State) (d : Nat) : Nat := Nat.max (s.field 0x00020008 11 6) (s.field (tjWord d) 21 16)

/-- The frame of 64 steps that a stack is in. -/
def lullFrame (s : State) (d : Nat) : Nat := s.domainSteps d / 64

/-- L_s of the frame under way: a new value applies from the next frame that starts. -/
def lullRatio (s : State) (d : Nat) : Nat :=
  match s.pow.lulls.find? (fun e => e.1 == d && e.2.1 == lullFrame s d) with
  | some e => e.2.2
  | none => lullNow s d

/-- L_cap or the thermal ratios change: every stack's frame under way keeps its ratio. -/
def latchLulls (s : State) : State :=
  onPow (fun p => { p with lulls := (List.range 16).map (fun d => (d, lullFrame s d, lullRatio s d)) }) s

/-- Is step n of a frame a bubble on a stack, at a ratio? -/
def bubble (ratio d n : Nat) : Bool := let m := (n + 4 * d) % 64; decide (m * ratio / 64 < (m + 1) * ratio / 64)

/-- Is a stack's present step a bubble? -/
def inBubble (s : State) (d : Nat) : Bool := bubble (lullRatio s d) d (s.domainSteps d % 64)

/-- Do the attention engine's lanes idle in a step: the bubbles of L_cap at phase 0? -/
def lanesIdle (s : State) (n : Nat) : Bool := bubble (s.field 0x00020008 11 6) 0 (n % 64)

/-- LULL_UPDATE (R444 to R447). -/
def effLullUpdate (s0 : State) : State :=
  if !s0.boot.powered then s0
  else
    let s := reach (s0.pow.lullAt + 50 * usHalves) s0
    let x := (lullExcess s).1
    let own : Nat := (Max.max 0 (Min.min 56 ((s.field 0x00020008 11 6 : Int) + lullStep s))).toNat
    let pace := s.field 0x0002000C 31 31 = 1
    let fix := s.field 0x0002000C 30 25
    let l := if pace then Nat.max fix own else own
    let ms := s.pow.limitUs + (if s.pow.limit then 50 else 0)
    let s1 := setField 0x00020008 11 6 l (bump 0x00020020 (ms / 1000) (onPow (fun p => { p with
      lullAt := s.now, limitUs := ms % 1000
      maxSince := if l = 56 ∧ 0 < x then some (p.maxSince.getD s.now) else none
      limit := p.limit && decide (0 ≤ x) }) (latchLulls s)))
    if pace ∧ fix < own then raise { code := 0x0B03 } s1 else s1

/-- LULL_AT_MAX (R446): at 56 for 1 ms with power above target. -/
def effLullAtMax (s : State) : State :=
  match s.pow.maxSince with
  | some t =>
    if s.pow.limit then s else raise { code := 0x0B02 } (onPow (fun p => { p with limit := true }) (reach (t + msHalves) s))
  | none => s

/-! Power states (R438 to R441). -/

/-- STATE: 0 Gale, 1 Breeze, 2 Calm, 3 Frost. -/
def State.powState (s : State) : Nat := s.field 0x00020024 28 26

/-- STATE changed, with POW_STATE (R439). -/
def enterState (v : Nat) (s : State) : State :=
  let s1 := setField 0x00020024 28 26 v (setField 0x00020024 25 25 0 (onPow (fun p => { p with moving := none }) s))
  if s.powState = v then s1 else raise { code := 0x0B08 } s1

/-- A transition begins: BUSY (DEDUCED, log entry 68). -/
def beginMove (t : PowerTarget) (s : State) : State :=
  setField 0x00020024 25 25 1 (onPow (fun p => { p with moving := some t }) s)

/-- Bytes of the resident regions' images (DEDUCED, log entry 43). -/
def imageSize (s : State) : Nat :=
  sumOf ((s.arr.regions.filter (fun r => r.state == .resident || r.state == .reloading)).map (fun r => r.rows * 256 * placeBits r.place / 8))

/-- The trunk and the resident districts staged; staged districts that are not resident give way, least recently used first (R440)
(DEDUCED, log entry 41). -/
def stageResident (s : State) : State :=
  if s.bat.model.isSome then
    (Config.districts s.modelRoot :: s.bat.slots.filterMap DistrictSlot.district).foldl (fun u d => stageAll d (restage d u)) s
  else s

/-- Frost begins, or is refused for want of staging (R440). -/
def beginFrost (s : State) : State :=
  if s.mem.stageCur * 2 ^ 30 < imageSize s then raise { code := 0x0B0E } s else beginMove .frost (stageResident s)

/-- A state asked for (R439, R441): a transition under way is never overlapped; Gale goes to Frost through Calm, and Frost to Calm
through Gale. Without the reference clock the module stays in Calm (R437) (DEDUCED, log entry 68). -/
def requestState (t : PowerTarget) (s : State) : State :=
  if !s.boot.railsGood then s
  else
    match s.pow.moving, t with
    | some m, _ => onPow (fun p => { p with next := if m = t then none else some t }) s
    | none, .breeze => s
    | none, .gale =>
      if s.powState = 0 ∨ !s.pow.refclk then s
      else if s.powState = 1 then wakeDies (List.range 16) s
      else beginMove .gale s
    | none, .calm =>
      if s.powState = 2 then s
      else if s.powState = 3 then beginMove .gale (onPow (fun p => { p with next := some .calm }) s)
      else beginMove .calm s
    | none, .frost =>
      if s.powState = 3 then s
      else if s.powState = 2 then beginFrost s
      else beginMove .calm (onPow (fun p => { p with next := some .frost }) s)

/-- A region's Forecast values recorded again (R208, R255). -/
def forecastAgain (s : State) (r : Region) : State :=
  if r.fcB then
    let v : ForecastLayer :=
      { theta := bits r.fcParams 63 48, delta := bits r.fcParams 47 32, thetaMin := bits r.fcParams 31 16, thetaMax := bits r.fcParams 15 0 }
    { s with arr := { s.arr with forecast := put {} s.arr.forecast r.layer v } }
  else s

/-- The arrays on again: every staged region reloaded and trimmed by R62 (R438, R440, Table BOO-2). -/
def reloadArrays (s : State) : State :=
  let back := s.arr.regions.filter (fun r => r.state == .loading)
  let s0 := arraysOn s
  let s1 := { s0 with arr := { s.arr with regions := s.arr.regions.map (fun r => if r.state == .loading then { r with state := .resident } else r) } }
  let macros := ((back.filter (fun r => analog r.place)).map Region.apair).eraseDups
  macros.foldl (fun u n => trimPair n u) (back.foldl (fun u r => forecastAgain (rewriteRegion r u) r) s1)

/-- The arrays off: what Frost loses, its images staged (R438, R440) (DEDUCED, log entry 71). -/
def dropArrays (s : State) : State := { s with boot := { s.boot with arrays := false }, arr := shelve s.arr }

/-- A transition complete; what waits for it begins (R441). Time in Calm and Frost does not count for a Drizzle pass (R457). -/
def completeMove (t : PowerTarget) (s : State) : State :=
  let slept := if t = .gale ∧ 2 ≤ s.powState then s.now - s.pow.calmAt else 0
  let s1 := match t with
    | .gale => enterState 0 (if s.powState = 3 then reloadArrays s else s)
    | .calm => enterState 2 s
    | .frost => enterState 3 (dropArrays s)
    | .breeze => s
  let s2 := onPow (fun p => { p with
    next := none, breeze := [], idleAt := if t = .gale then s.now else p.idleAt, calmAt := if t = .calm then s.now else p.calmAt })
    { s1 with test := { s1.test with passAt := s1.test.passAt + slept } }
  match s.pow.next with
  | some n => requestState n s2
  | none => s2

/-- POWER_TRANSITION_DONE (R441, Table POW-4): a request that reverses an entry turns it back at its safe point; Calm waits until the
queued sweeps are drained. -/
def effPowerTransitionDone (s : State) : State :=
  match s.pow.moving, s.pow.next with
  | some .calm, some .gale => onPow (fun p => { p with next := none }) (enterState s.powState s)
  | some .frost, some .gale => beginMove .gale (onPow (fun p => { p with next := none }) s)
  | some .frost, some .calm => onPow (fun p => { p with next := none }) (enterState 2 s)
  | some .calm, _ => if s.arr.sweeps.order.isEmpty then completeMove .calm s else s
  | some t, _ => completeMove t s
  | none, _ => s

/-- STATE_REQ written (R439): 4 to 7 are ignored; I3C may not write it (R505). -/
def effStateReqWrite (iface : Iface) (req : BitVec 3) (s : State) : State :=
  if !s.boot.powered then s
  else if iface = .i3c then bump 0x000C0018 1 s
  else
    let s1 := setField 0x00020024 31 29 req.toNat s
    match req.toNat with
    | 0 => s1
    | 1 => requestState .gale s1
    | 2 => requestState .calm s1
    | 3 => requestState .frost s1
    | _ => s

/-- No ready token, and no sweep queued or under way (R439) (DESIGN CHOICE, log entry 70). -/
def workless (s : State) : Bool := !anyReady s && s.arr.sweeps.order.isEmpty

/-- Are the automatic rules in force, with no transition under way (R439)? -/
def automatic (s : State) : Bool := s.boot.railsGood && s.field 0x00020024 31 29 == 0 && s.pow.moving.isNone

/-- BREEZE_IDLE (R439): an idle stack's clocks stop, and its idle banks go to RETENTION (Table POW-3); with all sixteen the module is
in Breeze. The hub runs in Breeze. -/
def effBreezeIdle (die : Fin 17) (s : State) : State :=
  if !s.boot.railsGood || decide (2 ≤ s.powState) || s.pow.moving.isSome || die.val == 16 || s.pow.breeze.contains die.val
      || !s.arr.sweeps.order.isEmpty || s.test.slice.isSome
      || (List.range 8).any (fun k => (s.thr ((4 + die.val) * 8 + k)).state == .ready) then s
  else
    let banks := (List.range 16).map (fun j => 8 + 16 * die.val + j)
    let s1 := { s with
      mem := { s.mem with banks := banks.foldl (fun t b => change {} t b (fun x =>
        if x.current = .on ∧ x.moving.isNone then { x with current := .retention } else x)) s.mem.banks }
      pow := { s.pow with breeze := s.pow.breeze ++ [die.val] } }
    if s1.pow.breeze.length = 16 then enterState 1 s1 else s1

/-- CALM_AFTER_EXPIRY (R439) (DESIGN CHOICE, log entry 70). -/
def effCalmAfterExpiry (s : State) : State :=
  if automatic s && s.isReady && decide (s.powState ≤ 1) && workless s && s.field 0x00020028 31 16 != 0 then
    requestState .calm (reach (s.pow.idleAt + s.field 0x00020028 31 16 * msHalves) s)
  else s

/-- FROST_AFTER_EXPIRY (R439, R440). -/
def effFrostAfterExpiry (s : State) : State :=
  if automatic s && s.powState == 2 && s.field 0x00020028 15 0 != 0 then
    requestState .frost (reach (s.pow.calmAt + s.field 0x00020028 15 0 * sHalves) s)
  else s

/-- WAKE_TO_GALE (R439): ready tokens, a SWEEP issue or a MGMT operation; a STATE_REQ of Calm or Frost holds the module there. -/
def effWakeToGale (s : State) : State :=
  if 2 ≤ s.field 0x00020024 31 29 then s else requestState .gale s

/-! Rails and clocks (R434 to R437, R479). -/

/-- KIND 7: a rail. -/
def atRail (code r i0 i1 : Nat) : Raise := ⟨code, i0, i1, 7, r, 0⟩

/-- AGE_TRIM_CHECK (R434): a rise of one step, at most once per 24 h, within 16 steps and 0.72 V (DEDUCED, log entry 63). -/
def effAgeTrimCheck (rail : Fin 33) (slow : Bool) (s0 : State) : State :=
  if !s0.boot.railsGood || !slow then s0
  else
    let r := rail.val
    let last := look 0 s0.pow.raised r
    let s := if last = 0 then s0 else reach (last - 1 + 86400 * sHalves) s0
    let trim := s.field (0x00020100 + 4 * r) 21 17
    if trim = 16 ∨ 288 < (Config.railSet r).toNat + trim + 1 then raise (atRail 0x0B07 r 0 0) s
    else
      raise (atRail 0x0B06 r 0 0) (logHealth 6 [r, trim + 1] (setField (0x00020100 + 4 * r) 21 17 (trim + 1)
        (onPow (fun p => { p with raised := put 0 p.raised r (s.now + 1) }) s)))

/-- RAIL_FAULT (R435, R479): every rail except VAO off; the second within an hour enters HOLD. -/
def effRailFault (rail : Fin 33) (s : State) : State :=
  if !s.boot.railsGood then s
  else
    match countRecovery 6 2 (raise (atRail 0x0B05 rail.val 0 0) s) with
    | (s1, true) => enterHold 6 s1
    | (s1, false) => onBoot (fun b => { b with railAt := some s1.now }) (railsOff s1)

/-- A start from step 3 with the start test (Table BOO-3): the image of the last start is copied again, if there is one. -/
def startRails (cause : Nat) (s : State) : State :=
  match s.boot.image, s.pins.resetN with
  | some i, true =>
    setBootState 2 (setField 0x00000100 27 21 (cause * 8) (onBoot (fun b => { b with
      warm := false, step := 2, startAt := s.now, hold := 0, forced := false, image := some i, waiting := false
      tripAt := none, railAt := none, lowAt := none, tripHeld := false })
      { s with test := { s.test with health := { s.test.health with skipTest := false } } }))
  | _, _ => startRom cause false s

/-- RAIL_FAULT_RESTART (R479): 1 s after the fault. -/
def effRailFaultRestart (s : State) : State :=
  match s.boot.railAt with
  | some t => startRails 6 (noteRecovery 6 (bumpSat 0x00000110 31 24 1 (reach (t + sHalves) s)))
  | none => s

/-- The link goes down (R344). -/
def linkDown (s : State) : State :=
  if s.field 0x00050000 31 31 = 1 then raise { code := 0x0702 } (setWord 0x00050000 0 s) else s

/-- REFCLK_LOSS (R437): the link goes down, the PLLs hold over, and no new token step forms. -/
def effRefclkLoss (s : State) : State :=
  if !s.boot.railsGood || !s.pow.refclk then s
  else
    raise { code := 0x0B09 } (linkDown (onBat (fun b => { b with held := true })
      (setField 0x00040000 31 30 1 (onPow (fun p => { p with refclk := false, lostAt := s.now }) s))))

/-- HOLDOVER_EXPIRY (R437): after 100 ms the module enters Calm (DEDUCED, log entry 67). -/
def effHoldoverExpiry (s : State) : State :=
  if s.pow.refclk || s.field 0x00040000 30 30 == 0 then s
  else requestState .calm (setWord 0x00040000 0 (reach (s.pow.lostAt + 100 * msHalves) s))

/-- REFCLK_RETURN (R437): the PLLs relock, and the link retrains (DEDUCED, log entry 67). -/
def effRefclkReturn (s : State) : State :=
  if !s.boot.railsGood || s.pow.refclk then s
  else
    onBat (fun b => { b with held := false })
      (setWord 0x00040000 0x8003FFFF (onPow (fun p => { p with refclk := true }) s))

/-! Droop (R448). -/

/-- Source of a domain's event: its stack, or the module for the hub. -/
def atDomain (code d i0 i1 : Nat) : Raise := if d = 16 then ⟨code, i0, i1, 0, 0, 0⟩ else ⟨code, i0, i1, 2, d, 0⟩

/-- The step period of a domain stretched to a level, counted and reported (DEDUCED, log entry 121). -/
def stretchTo (d level : Nat) (s : State) : State :=
  let a := if level = 1 then 0x00040008 else 0x0004000C
  let s1 := bump a 1 (setStretch d level { s with pow := { s.pow with droopAt := put 0 s.pow.droopAt d s.now } })
  raise (atDomain 0x0B04 d (s1.word a).toNat 0) s1

/-- DROOP_LEVEL1 (R448). -/
def effDroopLevel1 (d : Fin 17) (s : State) : State :=
  if s.boot.railsGood && look 0 s.clk.stretch d.val == 0 then stretchTo d.val 1 s else s

/-- DROOP_LEVEL2 (R448). -/
def effDroopLevel2 (d : Fin 17) (s : State) : State :=
  if s.boot.railsGood && decide (look 0 s.clk.stretch d.val < 2) then stretchTo d.val 2 s else s

/-- DROOP_RELEASE (R448): 200 ns without sag; the stretch falls one level. -/
def effDroopRelease (d : Fin 17) (s0 : State) : State :=
  let l := look 0 s0.clk.stretch d.val
  if l = 0 then s0
  else
    let s := reach (look 0 s0.pow.droopAt d.val + 760) s0
    setStretch d.val (l - 1) { s with pow := { s.pow with droopAt := put 0 s.pow.droopAt d.val (if l = 1 then 0 else s.now) } }

/-! Heat (R449 to R452). -/

/-- R450's ratio of a temperature in 0.25 °C: 8 × (Tj − 100) lies on whole numbers there. -/
def thermalRatio (t : Int) : Nat := (Max.max 0 (Min.min 56 (2 * t - 800))).toNat

/-- THERMAL_RATIO_UPDATE (R445, R450). -/
def effThermalRatioUpdate (s0 : State) : State :=
  if !s0.boot.railsGood then s0
  else
    let s := reach (s0.pow.thermAt + 50 * usHalves) s0
    let ratio (d : Nat) : Nat := thermalRatio (signed 10 (s.field (tjWord d) 31 22))
    let s1 := (List.range 17).foldl (fun u d => setField (tjWord d) 21 16 (ratio d) u) (onPow (fun p => { p with thermAt := s.now }) (latchLulls s))
    let hot := (List.range 17).filter (fun d => ratio d != 0)
    raiseAll (hot.map (fun d => atDomain 0x0B0A d 0 0)) (bump 0x00030004 (hot.filter (· < 16)).length s1)

/-- A sensor's number: tiles, then stack bases, hub and DRAM. -/
def sensorNum : SensorId → Nat
  | .tile t => t
  | .base s i => 10240 + 4 * s.val + i.val
  | .hub i => 10304 + i.val
  | .dram d => 10320 + d.val

/-- Its neighbours' group (R449): a tile's tier, a stack base, the hub; a DRAM stack's own. -/
def sensorGroup (n : Nat) : Nat := if n < 10240 then n / 160 else if n < 10304 then 64 + (n - 10240) / 4 else if n < 10320 then 80 else n

/-- Its die: a stack, the hub (16), or a DRAM stack (17 to 20). -/
def sensorDie (n : Nat) : Nat := if n < 10240 then n / 640 else if n < 10304 then (n - 10240) / 4 else if n < 10320 then 16 else n - 10303

/-- A reading in 0.25 °C: the nearest multiple, a midway value rounding up (R449). -/
def quarters (m : Int) : Int := (m + 32) / 64

/-- The readings of working sensors taken into the state. -/
def takeReadings (rs : List Reading) (s : State) : State :=
  onPow (fun p => { p with temps := rs.foldl (fun t r =>
    if p.excluded.contains (sensorNum r.sensor) || !r.inRange then t else put none t (sensorNum r.sensor) (some (quarters r.milli))) p.temps }) s

/-- Temperatures of the working sensors of a group, less one sensor (DEDUCED, log entry 74). -/
def neighbours (p : Power) (bad : List Nat) (n : Nat) : List Int :=
  p.temps.filterMap (fun e => if sensorGroup e.1 == sensorGroup n && e.1 != n && !p.excluded.contains e.1 && !bad.contains e.1 then e.2 else none)

/-- Sensors that a set of readings excludes (R449): out of range, or more than 10 °C from every neighbour (DEDUCED, log entry 74). -/
def newlyBad (p : Power) (rs : List Reading) : List Nat :=
  let out := ((rs.filter (fun r => !r.inRange)).map (fun r => sensorNum r.sensor)).filter (fun n => !p.excluded.contains n)
  let far := (rs.filter (fun r => r.inRange && !p.excluded.contains (sensorNum r.sensor))).filter (fun r =>
    let ns := neighbours p out (sensorNum r.sensor)
    !ns.isEmpty && ns.all (fun t => decide (40 < (quarters r.milli - t).natAbs)))
  (out ++ far.map (fun r => sensorNum r.sensor)).eraseDups

/-- The highest of some temperatures. -/
def hottest : List Int → Option Int
  | [] => none
  | x :: r => some (r.foldl Max.max x)

/-- Working temperatures of the sensors that meet a test. -/
def Power.working (p : Power) (f : Nat → Bool) : List Int :=
  p.temps.filterMap (fun e => if f e.1 && !p.excluded.contains e.1 then e.2 else none)

/-- A tile temperature taken by its 48 pairs: refresh bands (R81) and scheduled recalibration (R66); an exclusion schedules it whatever
the difference (R449, Table CAL-6). -/
def tileTemp (tile : Nat) (temp : Int) (anew : Bool) (s : State) : State :=
  let s1 := onTile tile (fun t => { t with temp := temp }) s
  (List.range 48).foldl (fun u i =>
    let n := tile * 48 + i
    let u1 := onPair n (bandReading (u.domainSteps (tile / 640)) u.now temp) u
    if holdsA u1 n && (anew || decide (4 * u1.field 0x000A0100 9 6 < (tempDiff u1 n).natAbs)) then
      onPair n (scheduleRecal (if anew then 7 else 4)) u1
    else u1) s1

/-- The tile temperatures after a set of readings; an excluded tile takes its tier's highest. -/
def updateTiles (rs : List Reading) (bad : List Nat) (s : State) : State :=
  if !s.boot.arrays then s
  else
    let read := (rs.map (fun r => sensorNum r.sensor)).filter (· < 10240)
    (addAll read (s.pow.excluded.filter (· < 10240))).foldl (fun u t =>
      if u.pow.excluded.contains t then
        match hottest (u.pow.working (fun k => decide (k < 10240) && k / 160 == t / 160)) with
        | some x => tileTemp t x (bad.contains t) u
        | none => u
      else
        match look none u.pow.temps t with
        | some x => tileTemp t x false u
        | none => u) s
where
  /-- A list with what it lacks of another. -/
  addAll (a b : List Nat) : List Nat := b.foldl addOnce a

/-- A die's junction temperature (R449) (DEDUCED, log entry 75). -/
def dieTj (s : State) (d : Nat) : Option Int := hottest (s.pow.working (fun n => sensorDie n == d))

/-- A temperature field of ten bits. -/
def tjBits (t : Option Int) : Nat := toBits 10 (t.getD 0)

/-- The temperature registers (Table POW-8). -/
def showTemps (s : State) : State :=
  let s1 := (List.range 17).foldl (fun u d =>
    setField (tjWord d) 15 8 (Nat.min 255 (u.pow.excluded.filter (fun n => sensorDie n == d)).length) (setField (tjWord d) 31 22 (tjBits (dieTj u d)) u)) s
  let s2 := (List.range 4).foldl (fun u d => setField (0x00030144 + 4 * d) 31 22 (tjBits (dieTj u (17 + d))) u) s1
  let dies := (List.range 16).filterMap (fun d => (dieTj s d).map (fun t => (d, t)))
  let top := hottest (dies.map Prod.snd)
  let who := ((dies.find? (fun x => some x.2 == top)).map Prod.fst).getD 0
  match top, dieTj s 16 with
  | some a, some h =>
    if a < h then setField 0x00030000 31 22 (toBits 10 h) (setField 0x00030000 16 16 1 s2)
    else setField 0x00030000 31 22 (toBits 10 a) (setField 0x00030000 21 16 (who * 2) s2)
  | some a, none => setField 0x00030000 31 22 (toBits 10 a) (setField 0x00030000 21 16 (who * 2) s2)
  | none, some h => setField 0x00030000 31 22 (toBits 10 h) (setField 0x00030000 16 16 1 s2)
  | none, none => s2

/-- The thermal trip (R452). -/
def thermalTrip (s : State) : State :=
  let s1 := bumpSat 0x00030000 15 0 1 (raise { code := 0x0B0C } s)
  onBoot (fun b => { b with tripAt := some s1.now, tripHeld := true }) (railsOff s1)

/-- Above 105 °C (R452) (DEDUCED, log entry 75). -/
def overLimit (t : Option Int) : Bool := t.any (fun x => decide (420 < x))

/-- POW_SENSOR_FAIL of a sensor: its tile with pair 0, its stack, or for the hub and DRAM the module (DESIGN CHOICE, log entry 20). -/
def sensorFail (n : Nat) : Raise :=
  if n < 10240 then atPair 0x0B0D (n * 48) 0 0 else atDomain 0x0B0D (Nat.min 16 (sensorDie n)) 0 0

/-- TEMP_SENSOR_READ (R60, R449, R452): words of a running sweep that started before it keep the temperature of before; POW_OVER_LIMIT is
raised as a die rises above 105 °C (DESIGN CHOICE, log entry 123). -/
def effTempSensorRead (rs : List Reading) (comparators : List Nat) (s0 : State) : State :=
  if !s0.boot.railsGood then s0
  else
    let s := takeReadings rs (onPow (fun p => { p with sensedAt := Nat.max s0.now (s0.pow.sensedAt + 10 * usHalves) })
      (reach (s0.pow.sensedAt + 10 * usHalves) (someWords s0)))
    let bad := newlyBad s.pow rs
    let s1 := raiseAll (bad.map (fun n => sensorFail n))
      (onPow (fun p => { p with excluded := p.excluded ++ bad }) s)
    let s2 := showTemps (updateTiles rs bad s1)
    let above := (List.range 21).filter (fun d => overLimit (dieTj s2 d) && !overLimit (dieTj s0 d))
    let s3 := raiseAll (above.map (fun d => atDomain 0x0B0B (Nat.min 16 d) 0 0)) s2
    let read := (rs.map (fun r => sensorNum r.sensor)).filter (fun n => !s3.pow.excluded.contains n)
    let hotNow := read.filter (fun n => (look none s3.pow.temps n).any (fun t => decide (460 ≤ t)))
    let trips := hotNow.any s.pow.hot.contains || comparators.any s.pow.comparators.contains
    let s4 := onPow (fun p => { p with
      hot := (p.hot.filter (fun n => !read.contains n && !p.excluded.contains n)) ++ hotNow, comparators := comparators }) s3
    if trips then thermalTrip s4 else s4

/-- TEMP_SENSOR_READ (R449). -/
def execTempSensorRead (rs : List Reading) (comparators : List Nat) (s : State) : Host.Outcome State Fault Refusal := done (effTempSensorRead rs comparators s)
/-- TELEMETRY_SAMPLE (R442). -/
def execTelemetrySample (mw : Nat) (s : State) : Host.Outcome State Fault Refusal := done (effTelemetrySample mw s)
/-- LULL_UPDATE (R444). -/
def execLullUpdate  (s : State) : Host.Outcome State Fault Refusal := done (effLullUpdate s)
/-- LULL_AT_MAX (R446). -/
def execLullAtMax  (s : State) : Host.Outcome State Fault Refusal := done (effLullAtMax s)
/-- CAP_OWN_WRITE (R443). -/
def execCapOwnWrite (v : Word32) (s : State) : Host.Outcome State Fault Refusal := done (effCapOwnWrite v s)
/-- CAP_BOARD_WRITE (R443). -/
def execCapBoardWrite (v : Word32) (s : State) : Host.Outcome State Fault Refusal := done (effCapBoardWrite v s)
/-- STATE_REQ_WRITE (R439). -/
def execStateReqWrite (iface : Iface) (req : BitVec 3) (s : State) : Host.Outcome State Fault Refusal := done (effStateReqWrite iface req s)
/-- BREEZE_IDLE (R439). -/
def execBreezeIdle (die : Fin 17) (s : State) : Host.Outcome State Fault Refusal := done (effBreezeIdle die s)
/-- CALM_AFTER_EXPIRY (R439). -/
def execCalmAfterExpiry  (s : State) : Host.Outcome State Fault Refusal := done (effCalmAfterExpiry s)
/-- FROST_AFTER_EXPIRY (R440). -/
def execFrostAfterExpiry  (s : State) : Host.Outcome State Fault Refusal := done (effFrostAfterExpiry s)
/-- WAKE_TO_GALE (R439). -/
def execWakeToGale  (s : State) : Host.Outcome State Fault Refusal := done (effWakeToGale s)
/-- POWER_TRANSITION_DONE (R441). -/
def execPowerTransitionDone  (s : State) : Host.Outcome State Fault Refusal := done (effPowerTransitionDone s)
/-- AGE_TRIM_CHECK (R434). -/
def execAgeTrimCheck (rail : Fin 33) (slow : Bool) (s : State) : Host.Outcome State Fault Refusal := done (effAgeTrimCheck rail slow s)
/-- RAIL_FAULT (R435). -/
def execRailFault (rail : Fin 33) (s : State) : Host.Outcome State Fault Refusal := done (effRailFault rail s)
/-- RAIL_FAULT_RESTART (R479). -/
def execRailFaultRestart  (s : State) : Host.Outcome State Fault Refusal := done (effRailFaultRestart s)
/-- REFCLK_LOSS (R437). -/
def execRefclkLoss  (s : State) : Host.Outcome State Fault Refusal := done (effRefclkLoss s)
/-- HOLDOVER_EXPIRY (R437). -/
def execHoldoverExpiry  (s : State) : Host.Outcome State Fault Refusal := done (effHoldoverExpiry s)
/-- REFCLK_RETURN (R437). -/
def execRefclkReturn  (s : State) : Host.Outcome State Fault Refusal := done (effRefclkReturn s)
/-- DROOP_LEVEL1 (R448). -/
def execDroopLevel1 (d : Fin 17) (s : State) : Host.Outcome State Fault Refusal := done (effDroopLevel1 d s)
/-- DROOP_LEVEL2 (R448). -/
def execDroopLevel2 (d : Fin 17) (s : State) : Host.Outcome State Fault Refusal := done (effDroopLevel2 d s)
/-- DROOP_RELEASE (R448). -/
def execDroopRelease (d : Fin 17) (s : State) : Host.Outcome State Fault Refusal := done (effDroopRelease d s)
/-- THERMAL_RATIO_UPDATE (R450). -/
def execThermalRatioUpdate  (s : State) : Host.Outcome State Fault Refusal := done (effThermalRatioUpdate s)

end Sys2Proof.Machine
end

