-- ==== Sys2Proof/Machine/Security.lean ====
section
/-! DEFINITION. Chevik's operations: ownership, delegations, minimum versions, life-cycle transitions, debug, entropy and the key
SRAM (R405, R410 to R420, R426, R431). -/

namespace Sys2Proof.Machine

/-! MGMT commands (R380). -/

/-- What is due on a session leaves at once. -/
def flushSession (i : Nat) (s : State) : State := ((s.sess i).out.filter Dgram.due).foldl (fun u d => transmit i d u) s

/-- A reply that leaves at once: its session closes next (R411, R415, R476) (DEDUCED, log entry 90). -/
def replyNow (i op status : Nat) (data : List Byte) (s : State) : State := flushSession i (sendReply i op status data s)

/-- A command received on a MGMT session (R380): its message is taken, a first datagram opens the session (R362, R414), the operation
is logged with the owner key hash. No such session: no such command (DEDUCED, log entry 90). -/
def onMgmt (h : Word32) (op : Nat) (f : Nat → State → State) (s : State) : State :=
  match s.live? h.toNat with
  | some i =>
    let x := s.sess i
    if x.kind = 2 ∧ (x.state = .opened ∨ x.state = .handshake) then
      let s1 := commitClaim i (setSess i { x with state := .opened, lastActive := s.ao,
                                                  inbox := x.inbox.filter (fun m => m.typ != typMgmt) ++ (x.inbox.filter (fun m => m.typ == typMgmt)).drop 1 } s)
      f i { s1 with test := { s1.test with health := { s1.test.health with ops := s1.test.health.ops ++ [(op, ownerHash s1)] } } }
    else s
  | none => s

/-- BAD_PARAMS (Table NET-14) (DEDUCED, log entry 77). -/
def badParams : Nat := 1
/-- CAPACITY. -/
def capacity : Nat := 4
/-- BUSY. -/
def busy : Nat := 5

/-! Life cycle (R409 to R412, R419). -/

/-- Every model is unloaded. -/
def unloadModels (s : State) : State :=
  setField 0x00000100 21 21 0 { s with bat := { held := s.bat.held }, arr := { s.arr with regions := [], joining := [] } }

/-- The wipe (R412): sessions closed, keys zeroed, models unloaded, every written owner slot revoked. -/
def wipe (s : State) : State :=
  let s1 := unloadModels (closeAll 0x0014 s)
  (List.range s1.sec.fuses.owners.length).foldl (fun u i => revokeOwner i u) s1

/-! One of these operations runs at a time (R413): each is one command (DESIGN CHOICE, log entry 163). -/

/-- A transition completes: its groups are blown, SEC_LIFECYCLE is raised and the module resets (R411) (DEDUCED, log entry 102). -/
def transition (group : Nat) (s : State) : State := warmReset 9 (raise { code := 0x0A05 } (onFuses (fun f => { f with groups := group }) s))

/-- A transition or unlock record refused (R411). -/
def refuseLc (s : State) : State := raise { code := 0x0A06 } s

/-- The fields of an unlock record (R419). -/
def unlockShaped (o : SignedObj) : Bool :=
  let m := sigMessage o.bytes
  beAt m 0 4 == 0x434C4E4B && beAt m 4 8 == Config.serial && beAt m 14 2 == 0 && (beAt m 12 1 == 0xF0 || beAt m 13 1 == 0)
    && m.length == (if beAt m 12 1 = 3 then 80 else 16)

/-- A key revocation's signer: an unrevoked key of the kind of the key it revokes, of a higher index (R419) (DEDUCED, log entry 101). -/
def revokes (o : SignedObj) : Bool :=
  let b := sigBlock o.bytes
  let arg := beAt (sigMessage o.bytes) 13 1
  decide (arg < 8) && signer b == (if arg < 4 then 0 else 3) && decide (arg % 4 < keyIndex b)

/-- The first check that refuses an unlock record: R418's, the record's fields (6) (DEDUCED, log entry 101). -/
def unlockCheck (s : State) (o : SignedObj) : Option Nat :=
  let target := beAt (sigMessage o.bytes) 12 1
  match signedCheck s o (fun k => k == 3 || (target == 0xF0 && k == 0)) 0 with
  | some n => some n
  | none => if unlockShaped o && (target != 0xF0 || revokes o) then none else some 6

/-- The draw of DEVICE_SECRET on leaving MANUFACTURE (R412); none where both copies are spent. -/
def drawSecret (s : State) : Option State :=
  let f := s.sec.fuses
  if f.secretA = 0 then some (onFuses (fun f => { f with secretA := 2 }) s)
  else if f.secretA = 2 ∨ f.secretB = 2 then some s
  else if f.secretB = 0 then some (onFuses (fun f => { f with secretA := 3, secretB := 2 }) s)
  else none

/-- Both secret copies blown whole (Table SEC-4). -/
def burnSecret (s : State) : State := onFuses (fun f => { f with secretA := 3, secretB := 3 }) s

/-- A key revoked (R419). -/
def revokeKey (o : SignedObj) (s : State) : State :=
  onFuses (fun f => { f with revoke := f.revoke ||| BitVec.ofNat 8 (2 ^ beAt (sigMessage o.bytes) 13 1) }) s

/-- A record through the Chevik mailbox, which MANUFACTURE, PERSONALISED and RETURN have (Tables SEC-3, SEC-4, R410) (DEDUCED, log entry 105). -/
def mailboxRecord (o : SignedObj) (s : State) : State :=
  let lc := s.sec.fuses.groups
  if lc = 2 ∨ 4 ≤ lc then s
  else
    match unlockCheck s o with
    | some n => refuseLc (if n ≤ 5 then refuseSig s else s)
    | none =>
      match beAt (sigMessage o.bytes) 12 1, lc with
      | 1, 0 =>
        match drawSecret s with
        | some s1 => transition 1 { s1 with sec := { s1.sec with exported := true } }
        | none => refuseLc s
      | 3, 1 => transition 3 s
      | 4, 3 => transition 4 (burnSecret s)
      | 0xF0, _ => revokeKey o s
      | 0xFF, 0 => raise { code := 0x0A0A } { s with sec := { s.sec with debug := true } }
      | 0xFF, 3 => raise { code := 0x0A0A } { s with sec := { s.sec with debug := true } }
      | _, _ => refuseLc s

/-- MAILBOX_UNLOCK_RECORD (R411) (DEDUCED, log entry 105). -/
def effMailboxUnlockRecord (o : SignedObj) (s : State) : State := mailboxRecord o s
/-- MAILBOX_DEBUG_TOKEN (R410): an unlock record with TARGET 0xFF (DESIGN CHOICE, log entry 128). -/
def effMailboxDebugToken (o : SignedObj) (s : State) : State := mailboxRecord o s

/-- MGMT_UNLOCK_RECORD (R411, R419): RETURN with consent, or a key revocation. -/
def effMgmtUnlockRecord (h : Word32) (o : SignedObj) (s : State) : State :=
  onMgmt h 0x000F (fun i s =>
    match unlockCheck s o with
    | some n => sendReply i 0x000F badParams (beBytes 1 n) (refuseLc (if n ≤ 5 then refuseSig s else s))
    | none =>
      let m := sigMessage o.bytes
      match beAt m 12 1 with
      | 3 =>
        if s.sec.fuses.groups = 2 ∧ beAt m 16 64 = ownerHash s then transition 3 (wipe (replyNow i 0x000F 0 [] s))
        else sendReply i 0x000F badParams [] (refuseLc s)
      | 0xF0 => sendReply i 0x000F 0 [] (revokeKey o s)
      | _ => sendReply i 0x000F badParams [] (refuseLc s)) s

/-- MGMT_SCRAP (R411). -/
def effMgmtScrap (h : Word32) (s : State) : State :=
  onMgmt h 0x000F (fun i s =>
    if s.sec.fuses.groups = 2 then transition 4 (burnSecret (wipe (replyNow i 0x000F 0 [] s)))
    else sendReply i 0x000F badParams [] (refuseLc s)) s

/-- MGMT_READ_IDENTITY_CERT (R431). -/
def effMgmtReadIdentityCert (h : Word32) (s : State) : State :=
  onMgmt h 0x000F (fun i s => sendReply i 0x000F 0 Config.identityCert s) s

/-! Owners and publishers (R415, R416). -/

/-- MGMT_TRANSFER_OWNERSHIP (R415). NEW_SIG's verdict is an operand (DEDUCED, log entry 103). -/
def effMgmtTransferOwnership (h : Word32) (newPub : List Byte) (sigOk : Bool) (s : State) : State :=
  onMgmt h 0x000D (fun i s =>
    if newPub.length ≠ 133 ∨ !sigOk ∨ (currentOwner s).isNone then sendReply i 0x000D badParams [] s
    else if 4 ≤ s.sec.fuses.owners.length then sendReply i 0x000D capacity [] s
    else
      let others := (sessionsWhere s (fun x => x.state != .free)).filter (· != i)
      let s1 := unloadModels (others.foldl (fun u j => closeOne 0x0014 j u) s)
      let s2 := skipFree 1 (onFuses (fun f => { f with owners := f.owners ++ [{ hash := Config.sha512 newPub, seed := s1.drawn }] }) s1)
      let s3 := settleOwners { s2 with sec := { s2.sec with delegs := [] } }
      raise { code := 0x0A04 } (closeOne 0x0014 i (replyNow i 0x000D 0 [] s3))) s

/-- The delegation a record states (R416). -/
def delegOf (o : SignedObj) : Deleg :=
  let m := sigMessage o.bytes
  { id := beAt m 4 4, pubHash := beAt m 8 64, model := beAt m 72 8 }

/-- A delegation record's fields. -/
def delegShaped (o : SignedObj) : Bool :=
  let m := sigMessage o.bytes
  m.length == 96 && beAt m 0 4 == 0x43444C47 && beAt m 4 4 != 0 && beAt m 80 16 == 0

/-- MGMT_INSTALL_DELEGATION (R416). A record of an id already held takes its place (DEDUCED, log entry 103). -/
def effMgmtInstallDelegation (h : Word32) (o : SignedObj) (s : State) : State :=
  onMgmt h 0x000D (fun i s =>
    match signedCheck s o (· == 1) 0 with
    | some n => sendReply i 0x000D badParams (beBytes 1 n) (refuseSig s)
    | none =>
      if !delegShaped o then sendReply i 0x000D badParams [] s
      else
        let rest := s.sec.delegs.filter (fun d => d.id != (delegOf o).id)
        if 16 ≤ rest.length then sendReply i 0x000D capacity [] s
        else sendReply i 0x000D 0 [] (raise { code := 0x0A07 } { s with sec := { s.sec with delegs := rest ++ [delegOf o] } })) s

/-- MGMT_REVOKE_DELEGATION (R416). -/
def effMgmtRevokeDelegation (h : Word32) (id : Word32) (s : State) : State :=
  onMgmt h 0x000D (fun i s =>
    if s.sec.delegs.any (fun d => d.id == id.toNat) then
      sendReply i 0x000D 0 [] (raise { code := 0x0A07 } { s with sec := { s.sec with delegs := s.sec.delegs.filter (fun d => d.id != id.toNat) } })
    else sendReply i 0x000D badParams [] s) s

/-! Minimum versions (R420). -/

/-- A minimum raised to the version in use: none in use, or one above 128, is refused (DEDUCED, log entry 104). -/
def raiseMin (i : Nat) (cur : Nat) (used : Option Nat) (f : Nat → Fuses → Fuses) (s : State) : State :=
  match used with
  | some v =>
    if 128 < v then sendReply i 0x000E badParams [] s
    else if cur < v then sendReply i 0x000E 0 [] (raise { code := 0x0A08 } (onFuses (f v) s))
    else sendReply i 0x000E 0 [] s
  | none => sendReply i 0x000E badParams [] s

/-- MGMT_RAISE_FW_MIN_SVN (R420): to the running firmware's SVN (DEDUCED, log entry 104). -/
def effMgmtRaiseFwMinSvn (h : Word32) (s : State) : State :=
  onMgmt h 0x000E (fun i s => raiseMin i s.sec.fuses.fwMin (some (s.word 0x00010014).toNat) (fun v f => { f with fwMin := v }) s) s

/-- MGMT_RAISE_SVC_MIN_SVN (R420): to the lowest SVN among loaded service images. -/
def effMgmtRaiseSvcMinSvn (h : Word32) (s : State) : State :=
  onMgmt h 0x000E (fun i s =>
    raiseMin i s.sec.fuses.svcMin ((s.programs.filter (fun p => !p.firmware)).map Program.svn).min? (fun v f => { f with svcMin := v }) s) s

/-- MGMT_RAISE_PKG_MIN_SVN (R420): to the loaded package's SVN. -/
def effMgmtRaisePkgMinSvn (h : Word32) (s : State) : State :=
  onMgmt h 0x000E (fun i s =>
    raiseMin i s.sec.fuses.pkgMin (s.bat.model.map (fun m => m.2.1)) (fun v f => { f with pkgMin := v }) s) s

/-! Entropy and keys (R405, R426). -/

/-- ENTROPY_TEST_FAIL (R405): OPENs are refused until a retest passes. -/
def effEntropyTestFail (s : State) : State :=
  raise { code := 0x0A0B } { s with sec := { s.sec with entropyBad := true, entropyAt := s.now } }

/-- ENTROPY_RETEST (R405): every 100 ms while it fails. -/
def effEntropyRetest (ok : Bool) (s0 : State) : State :=
  if !s0.sec.entropyBad then s0
  else
    let s := reach (s0.sec.entropyAt + 100 * msHalves) s0
    if ok then { s with sec := { s.sec with entropyBad := false } } else effEntropyTestFail s

/-- KEY_ENTRY_ERROR (R426): the entry is zeroed and the session released without a CLOSE. -/
def effKeyEntryError (slot : Nat) (s : State) : State :=
  let x := s.sess slot
  if x.state = .free ∨ !x.keyed then s
  else raise (atSession 0x0A0C (s.handle slot) 0 0) (releaseSession slot (faultReceives (s.handle slot) s))

/-- MAILBOX_UNLOCK_RECORD (R411). -/
def execMailboxUnlockRecord (record : SignedObj) (s : State) : Host.Outcome State Fault Refusal := done (effMailboxUnlockRecord record s)
/-- MAILBOX_DEBUG_TOKEN (R410). -/
def execMailboxDebugToken (record : SignedObj) (s : State) : Host.Outcome State Fault Refusal := done (effMailboxDebugToken record s)
/-- MGMT_UNLOCK_RECORD (R411). -/
def execMgmtUnlockRecord (h : Word32) (record : SignedObj) (s : State) : Host.Outcome State Fault Refusal := done (effMgmtUnlockRecord h record s)
/-- MGMT_SCRAP (R411). -/
def execMgmtScrap (h : Word32) (s : State) : Host.Outcome State Fault Refusal := done (effMgmtScrap h s)
/-- MGMT_READ_IDENTITY_CERT (R431). -/
def execMgmtReadIdentityCert (h : Word32) (s : State) : Host.Outcome State Fault Refusal := done (effMgmtReadIdentityCert h s)
/-- MGMT_TRANSFER_OWNERSHIP (R415). -/
def execMgmtTransferOwnership (h : Word32) (newPub : List Byte) (sigOk : Bool) (s : State) : Host.Outcome State Fault Refusal := done (effMgmtTransferOwnership h newPub sigOk s)
/-- MGMT_INSTALL_DELEGATION (R416). -/
def execMgmtInstallDelegation (h : Word32) (record : SignedObj) (s : State) : Host.Outcome State Fault Refusal := done (effMgmtInstallDelegation h record s)
/-- MGMT_REVOKE_DELEGATION (R416). -/
def execMgmtRevokeDelegation (h : Word32) (id : Word32) (s : State) : Host.Outcome State Fault Refusal := done (effMgmtRevokeDelegation h id s)
/-- MGMT_RAISE_FW_MIN_SVN (R420). -/
def execMgmtRaiseFwMinSvn (h : Word32) (s : State) : Host.Outcome State Fault Refusal := done (effMgmtRaiseFwMinSvn h s)
/-- MGMT_RAISE_SVC_MIN_SVN (R420). -/
def execMgmtRaiseSvcMinSvn (h : Word32) (s : State) : Host.Outcome State Fault Refusal := done (effMgmtRaiseSvcMinSvn h s)
/-- MGMT_RAISE_PKG_MIN_SVN (R420). -/
def execMgmtRaisePkgMinSvn (h : Word32) (s : State) : Host.Outcome State Fault Refusal := done (effMgmtRaisePkgMinSvn h s)
/-- ENTROPY_TEST_FAIL (R405). -/
def execEntropyTestFail  (s : State) : Host.Outcome State Fault Refusal := done (effEntropyTestFail s)
/-- ENTROPY_RETEST (R405). -/
def execEntropyRetest (ok : Bool) (s : State) : Host.Outcome State Fault Refusal := done (effEntropyRetest ok s)
/-- KEY_ENTRY_ERROR (R426). -/
def execKeyEntryError (slot : Nat) (s : State) : Host.Outcome State Fault Refusal := done (effKeyEntryError slot s)

end Sys2Proof.Machine
end

