-- ==== Sys2Proof/Machine/SelfTest.lean ====
section
/-! DEFINITION. Drizzle, Downpour, their findings and the health record (R456 to R467, R476, R479). -/

namespace Sys2Proof.Machine

/-- The self-test's state changed. -/
def onTest (f : SelfTest → SelfTest) (s : State) : State := { s with test := f s.test }

/-! Slices and their groups (R456). -/

/-- Slices of a pass. -/
def passSlices : Nat := 80896
/-- Pair test groups times five. -/
def pairSlices : Nat := 76800

/-- The pair test group of a slice: the rotation's, or an untested group's, whose slices stand above the pass (R456, R463). -/
def sliceGroup (i : Nat) : Option Nat :=
  if i < pairSlices then some (i / 5) else if i < passSlices then none else some (i - passSlices)

/-- The kinds of Table TST-1 that a slice runs: an untested group's runs 1 to 4. -/
def sliceKinds (i : Nat) : List Nat :=
  if i < pairSlices then [nthD 0 [1, 2, 2, 3, 4] (i % 5)] else if i < passSlices then [5] else [1, 2, 3, 4]

/-- The pairs of a test group: two on each stack. -/
def groupPairs (g : Nat) : List Nat :=
  (List.range 16).flatMap (fun st => [(st * 640 + g % 320) * 48 + g / 320, (st * 640 + g % 320 + 320) * 48 + g / 320])

/-- The segments of a bank test group: one on each stack base, one on the hub. -/
def groupSegments (g : Nat) : List Nat := (List.range 16).map (fun st => stackBase + st * 0x10000000 + g * 65536) ++ [hubBase + g * 65536]

/-- The next slice: an untested group first, then the rotation (R457, R463) (DEDUCED, log entry 73). -/
def nextSlice (s : State) : Nat := match s.test.groups with | g :: _ => passSlices + g | [] => s.test.next

/-- Does a sweep that occupies the array, or one that waits for it, use a pair of a group (R457)? -/
def groupUsed (s : State) (nums : List Nat) (g : Nat) : Bool :=
  nums.any (fun num => (s.sweepOf num).any (fun op =>
    (sweepRegions s op).any (fun r => r.pairs.any (fun n => testGroup (n / 48) (n % 48) == g))))

/-- Is a slice's window open (R457)? In a forced slice's hold only the occupying sweep counts; a bank slice and a group without weights
need no window. -/
def windowOpen (s : State) (i : Nat) : Bool :=
  match sliceGroup i with
  | some g => decide (passSlices ≤ i) || !groupUsed s (s.arr.sweeps.array.toList ++ (if s.test.holdIssue then [] else s.arr.sweeps.queue)) g
  | none => true

/-- Does Drizzle run: enabled, in Gale or Breeze, no Downpour, and not SCRAPPED (R457, R467)? -/
def drizzleOn (s : State) : Bool :=
  s.field 0x000B0000 31 31 == 1 && s.boot.arrays && decide (s.powState ≤ 1) && s.test.phase == 0 && decide (s.sec.fuses.groups < 4)
    && (s.isReady || !s.test.groups.isEmpty)

/-- DRIZZLE_SLICE (R457, R458, R463): the next slice starts where its window is open, or one that gave way resumes. -/
def effDrizzleSlice (s0 : State) : State :=
  if !drizzleOn s0 then s0
  else
    match s0.test.slice with
    | some x =>
      if x.paused && windowOpen s0 x.index then
        onTest (fun t => { t with slice := some { x with paused := false }, waitAt := none }) (wakeDies (List.range 16) s0)
      else s0
    | none =>
      let i := nextSlice s0
      let s := if i < passSlices then reach (s0.test.sliceAt + sHalves / Nat.max 1 (s0.field 0x000B0000 30 24)) s0 else s0
      if windowOpen s i then
        onTest (fun t => { t with slice := some { index := i }, waitAt := none, sliceAt := s.now }) (wakeDies (List.range 16) s)
      else onTest (fun t => { t with waitAt := some (t.waitAt.getD s.now) }) s

/-- DRIZZLE_FORCE (R457): after FORCE_MS, and 200 ms after the last forced slice, the hub holds the issue of new sweeps. -/
def effDrizzleForce (s0 : State) : State :=
  match drizzleOn s0 && !s0.test.holdIssue, s0.test.waitAt with
  | true, some t =>
    let s1 := reach (t + s0.field 0x000B0000 23 12 * msHalves) s0
    let s := match s0.test.forcedAt with
      | some f => reach (f + 200 * msHalves) s1
      | none => s1
    bump 0x000B0010 1 (onTest (fun x => { x with holdIssue := true, forcedAt := some s.now }) s)
  | _, _ => s0

/-! Findings (Table TST-2). -/

/-- A finding's kind of Table TST-1; what only Downpour tests has none. -/
def findingKind : Finding → Nat
  | .dmarchParity .. | .dmarchBit .. => 1
  | .amarginChecksum .. | .amarginGuard .. => 2
  | .convWeight .. | .convBaro .. => 3
  | .atree .. => 4
  | .bank .. => 5
  | .dramRegion .. => 6
  | .logic .. => 7

/-- A bank segment's base. -/
def segmentBase (b : BankId) (g : Nat) : Nat := (bankRange b.num).1 + g * 65536

/-- Is a finding one that a slice of some kinds over some pairs and segments can make? -/
def findingOf (f : Finding) (kinds : List Nat) (pairOk segOk : Nat → Bool) : Bool :=
  kinds.contains (findingKind f) && (match f with
    | .bank b g lines => decide (g < (bankRange b.num).2 / 65536) && segOk (segmentBase b g) && lines.all (· < 1024)
    | .dmarchParity p row | .dmarchBit p row _ | .amarginChecksum p row | .amarginGuard p row _ => row < 2048 && ok p
    | .convWeight p c => c < 64 && ok p
    | .convBaro p => ok p
    | .atree p col => col < 256 && ok p
    | .dramRegion g => g < 256
    | .logic _ => true)
where
  /-- A pair of the module that the slice tests. -/
  ok (p : PairId) : Bool := decide (p.tile < 10240) && decide (p.pair < 48) && pairOk p.num

/-- A failure entered in the health record (Table TST-4, type 0x07): its kind, and its location as pair × 65,536 + row, column or
converter (DESIGN CHOICE, log entry 44). -/
def logFailure (kind n x : Nat) (s : State) : State := logHealth 7 [kind, n * 65536 + x] s

/-- A failing bank segment (R460): retired at once where no live allocation has a byte in it; else the failing lines are poisoned and it
waits for the release. -/
def failSegment (a : Nat) (lines : List Nat) (s : State) : State :=
  if s.mem.allocs.any (fun x => decide (x.base < a + 65536) && decide (a < x.base + x.size)) then
    poisonLines (lines.map (fun l => a + 64 * l)) (onTest (fun t => { t with retireLater := addOnce t.retireLater a }) s)
  else retireSegment a s

/-- A finding of a slice acted on (R459): its events carry the kind and the row, column, converter or segment. -/
def actFinding (s : State) (f : Finding) : State :=
  let k := findingKind f
  match f with
  | .dmarchParity p row => queueReload p.num row (raise (atPair 0x0102 p.num k row) (logFailure k p.num row s))
  | .dmarchBit p row col =>
    countCells p.num [col] (queueReload p.num row (raise (atPair 0x0C01 p.num k row) (logFailure k p.num row s)))
  | .amarginChecksum p row => checksumMismatch p.num row k row (logFailure k p.num row s)
  | .amarginGuard p row col => countCells p.num [col] (raise (atPair 0x0C01 p.num k row) (logFailure k p.num row s))
  | .convWeight p c =>
    (List.range 4).foldl (fun u i => if lost p.num (u.pair p.num) (4 * c + i) then u else retireColumn 2 p.num (4 * c + i) u)
      (raise (atPair 0x0C02 p.num k c) (logFailure k p.num c s))
  | .convBaro p => onPair p.num (fun q => { q with baroBad := true }) (raise (atPair 0x0C02 p.num k 64) (logFailure k p.num 64 s))
  | .atree p col => startRemap p.num col 5 (raise (atPair 0x0C01 p.num k col) (logFailure k p.num col s))
  | .bank b g lines => failSegment (segmentBase b g) lines (logFailure k b.num g s)
  | .dramRegion g => { logHealth 5 [g, 1] s with mem := { s.mem with withheld := addOnce s.mem.withheld g } }
  | .logic u => logFailure k 0 u s

/-- The arrays are not loaded: a column remapped or retired in the record and the map, to be applied at the next load (R461). -/
def replaceColumn (cause n col : Nat) (s : State) : State :=
  let p := s.pair n
  if lost n p col then s
  else
    match if cause = 0 then none else freeSpare n p with
    | some i =>
      logHealth 1 [n / 48, n % 48, col, i, cause, s.ao] (onPair n (switchMap n { column := col, spare := i, trigger := cause }) s)
    | none =>
      raise (atPair 0x010C n col 0) (logHealth 2 [n / 48, n % 48, col, 1, if cause = 0 then 2 else 1]
        (onPair n (dropColumn n col 2) s))

/-- A cell found failing outside service: its column's count, and the remap at CKSUM_LIMIT (R84, R86). -/
def countOffline (n col : Nat) (s : State) : State :=
  let pc := physical n (s.pair n) col
  let s1 := onPair n (fun q => { q with wv := change {} q.wv pc (fun w => { w with cksum := recent s.now (86400 * sHalves) w.cksum ++ [s.now] }) }) s
  if s1.field 0x000A0104 3 0 ≤ (look {} (s1.pair n).wv pc).cksum.length then replaceColumn 4 n col s1 else s1

/-- A finding of Downpour or the start test (R461). -/
def actOffline (s : State) (f : Finding) : State :=
  let k := findingKind f
  match f with
  | .dmarchParity p row => raise (atPair 0x0102 p.num k row) (logFailure 5 p.num row s)
  | .dmarchBit p row col => countOffline p.num col (raise (atPair 0x0C01 p.num k row) (logFailure 5 p.num row s))
  | .amarginChecksum p row => raise (atPair 0x0106 p.num k row) (logFailure 5 p.num row s)
  | .amarginGuard p row col => countOffline p.num col (raise (atPair 0x0C01 p.num k row) (logFailure 5 p.num row s))
  | .convWeight p c =>
    (List.range 4).foldl (fun u i => replaceColumn 0 p.num (4 * c + i) u) (raise (atPair 0x0C02 p.num k c) (logFailure 5 p.num c s))
  | .convBaro p => onPair p.num (fun q => { q with baroBad := true }) (raise (atPair 0x0C02 p.num k 64) (logFailure 5 p.num 64 s))
  | .atree p col => replaceColumn 5 p.num col (raise (atPair 0x0C01 p.num k col) (logFailure 5 p.num col s))
  | .bank b g _ => retireSegment (segmentBase b g) (logFailure 4 b.num g s)
  | .dramRegion g => { logHealth 5 [g, 1] s with mem := { s.mem with withheld := addOnce s.mem.withheld g } }
  | .logic u => logFailure s.test.phase 0 u s

/-! Drizzle's end of a slice (R457, R459, R463). -/

/-- The last untested unit has passed or been retired (R463). -/
def noteCaughtUp (before : Bool) (s : State) : State :=
  if before && s.test.groups.isEmpty && s.test.regions.isEmpty && s.mem.untested.isEmpty then raise { code := 0x0C08 } s else s

/-- Are there untested units (R463)? -/
def anyUntested (s : State) : Bool := !s.test.groups.isEmpty || !s.test.regions.isEmpty || !s.mem.untested.isEmpty

/-- Rows that an AMARGIN slice has refreshed (Table TST-1): half of the rows of each pair of the group. -/
def marginRefresh (i g : Nat) (s : State) : State :=
  let rows := if passSlices ≤ i then List.range 2048 else if i % 5 = 1 then List.range 1024 else (List.range 1024).map (· + 1024)
  (groupPairs g).foldl (fun u n => onPair n (fun p => { p with
    refreshed := putAll 0 p.refreshed (rows.map (fun r => (r, u.domainSteps (n / 30720))))
    due := p.due.filter (fun r => !rows.contains r), refreshing := p.refreshing.filter (fun r => !rows.contains r) }) u) s

/-- A slice of the rotation counted; the last of a pass ends it (R457) (DEDUCED, log entry 73). -/
def advancePass (i : Nat) (s : State) : State :=
  if passSlices ≤ i then s
  else if i + 1 < passSlices then onTest (fun t => { t with next := i + 1 }) s
  else
    setField 0x000B0004 23 0 ((s.now - s.test.passAt) / sHalves) (bump 0x000B0008 1
      (onTest (fun t => { t with next := 0, passAt := s.now, passLate := false }) s))

/-- DRIZZLE_SLICE_DONE (R459, R460, R463). -/
def effDrizzleSliceDone (fs : List Finding) (s : State) : State :=
  match s.test.slice with
  | some x =>
    if x.paused then s
    else
      let i := x.index
      let pairs := match sliceGroup i with
        | some g => groupPairs g
        | none => []
      let segs := if (sliceGroup i).isNone then groupSegments (i - pairSlices) else []
      let found := fs.filter (fun f => findingOf f (sliceKinds i) pairs.contains segs.contains)
      let before := anyUntested s
      let s1 := onTest (fun t => { t with slice := none, holdIssue := false }) s
      let s2 := match (sliceKinds i).contains 2, sliceGroup i with
        | true, some g => marginRefresh i g s1
        | _, _ => s1
      let s3 := found.foldl actFinding s2
      let s4 := if found.isEmpty then s3 else bump 0x000B000C 1 s3
      let s5 := { s4 with
        mem := { s4.mem with untested := s4.mem.untested.filter (fun g => !segs.contains g) }
        test := { s4.test with groups := if passSlices ≤ i then takeOut s4.test.groups (i - passSlices) else s4.test.groups } }
      noteCaughtUp before (advancePass i s5)
  | none => s

/-- DRIZZLE_PASS_LATE (R457): a pass not complete within 6 h. -/
def effDrizzlePassLate (s : State) : State :=
  if !s.isReady || s.test.passLate || s.field 0x000B0000 31 31 == 0 then s
  else raise { code := 0x0C04 } (onTest (fun t => { t with passLate := true }) (reach (s.test.passAt + 21600 * sHalves) s))

/-! The health record (R464, R465). -/

/-- An entry that marks an untested unit. -/
def HEntry.untested (e : HEntry) : Bool :=
  e.typ == 4 || ((e.typ == 3 && nthD 0 e.args 3 == 2) || (e.typ == 5 && nthD 0 e.args 1 == 2))

/-- A record written: what earlier entries and the test found, less the old marks of untested units, and the new ones. -/
def writeRecordOf (kind : Nat) (marks : List HEntry) (s : State) : State :=
  let es := s.test.health.entries.filter (fun e => !e.untested) ++ marks
  onTest (fun t => { t with health := { t.health with
    entries := es
    seq := t.health.seq + 1, record := some (healthHeader s kind es.length ((s.now - t.startedAt) / msHalves)), consumed := false
    batches := [] } }) s

/-- The widths in bytes of an entry's fields, in order (Table TST-4). -/
def entryWidths (typ : Nat) : List Nat :=
  match typ with
  | 1 => [2, 1, 1, 1, 1, 8]
  | 2 => [2, 1, 1, 1, 1]
  | 3 => [1, 1, 2, 1]
  | 4 => [3, 3]
  | 5 => [2, 1]
  | 7 => [1, 8]
  | _ => [1, 1]

/-- An entry's 16 bytes (Table TST-4). -/
def HEntry.bytes (e : HEntry) : List Byte :=
  let b := leBytes 1 e.typ ++ ((e.args.zip (entryWidths e.typ)).map (fun x => leBytes x.2 x.1)).flatten
  b ++ List.replicate (16 - b.length) 0#8

/-- The 64 bytes of a record's or batch's header (R464). -/
def HealthHeader.bytes (h : HealthHeader) : List Byte :=
  leBytes 4 0x48544C48 ++ leBytes 2 1 ++ leBytes 1 h.kind ++ leBytes 1 h.lc ++ leBytes 8 Config.serial ++ leBytes 4 h.seq ++ leBytes 4 h.count
    ++ leBytes 8 h.aotime ++ leBytes 4 h.svn ++ leBytes 4 h.hours ++ leBytes 4 h.testMs ++ List.replicate 20 0#8

/-- A record or a batch as it stands in the NOR: header, entries and the DIK's signature over them (R464). -/
def signedEntries (s : State) (h : HealthHeader) (es : List HEntry) : List Byte :=
  let b := h.bytes ++ (es.map HEntry.bytes).flatten
  b ++ sign (dik s) (Config.sha512 b)

/-- The health area's bytes: the latest record, then the batches of running entries (R464). -/
def healthBytes (s : State) : List Byte :=
  let h := s.test.health
  let n := h.entries.length - h.batches.length
  (match h.record with
    | some r => signedEntries s r (h.entries.take n)
    | none => [])
  ++ ((h.batches.zip (h.entries.drop n)).map (fun x => signedEntries s x.1 [x.2])).flatten

/-- What Downpour stopped in a phase, after so many of its slices, leaves untested (R463): pair test groups 128 to a slice; the
segments of a bank index of every stack, or of a 16 MiB part of the hub's (DESIGN CHOICE, log entry 44); GiB of DRAM. -/
def untestedMarks (phase done : Nat) : List HEntry :=
  let groups := if phase < 5 then 0 else if phase = 5 then 128 * done else 15360
  let banks := if phase < 4 then 0 else if phase = 4 then done else 32
  let gibs := if phase < 3 then 0 else if phase = 3 then done else 256
  (if groups < 15360 then [⟨4, [groups, 15360 - groups]⟩] else [])
    ++ ((List.range 32).filter (banks ≤ ·)).flatMap (fun k =>
        if k < 16 then (List.range 16).flatMap (fun st => (List.range 256).map (fun g => ⟨3, [st, k, g, 2]⟩))
        else (List.range 256).map (fun g => ⟨3, [16, (k - 16) / 2, (k - 16) % 2 * 256 + g, 2]⟩))
    ++ ((List.range 256).filter (gibs ≤ ·)).map (fun g => ⟨5, [g, 2]⟩)

/-! Orderly shutdown (R476, R477) and Downpour (R461, R462). -/

/-- DP_STATE and DP_PHASE, with the elapsed time. -/
def showDownpour (state : Nat) (s : State) : State :=
  setWord 0x000B0014 (BitVec.ofNat 32 (state * 2 ^ 29 + s.test.phase * 2 ^ 26 + (s.now - s.test.startedAt) / msHalves % 2 ^ 26)) s

/-- Off: every rail except VAO off, and with RESTART a start at once (R476). -/
def turnOff (s : State) : State :=
  let s1 := raise { code := 0x0D05 } (railsOff s)
  if s.boot.restart then startRom 1 false s1 else s1

/-- The slices of a phase (Table TST-3). -/
def phaseSlices (p : Nat) : Nat := nthD 0 [0, 1, 1, 256, 32, 120, 1] p

/-- A phase begins. -/
def beginPhase (p : Nat) (s : State) : State := showDownpour 1 (onTest (fun t => { t with phase := p, step := 0 }) s)

/-- Downpour begins: its caps at the next boundary, the watchdog stopped (R461, R482). -/
def beginDownpour (s : State) : State :=
  beginPhase 1 (onPow (fun p => { p with capDue := true }) (onBoot (fun b => { b with shutdown := 3, wdogAt := none })
    (onTest (fun t => { t with startedAt := s.now, wake := false, storm := false, slice := none, waitAt := none, holdIssue := false }) s)))

/-- The close stage: every session but the commanding one closes with OPERATOR_CLOSE; that one gets its reply and closes; then Downpour
or Off (R476) (DEDUCED, log entry 53; DEDUCED, log entry 85). -/
def closeStage (s : State) : State :=
  let me := s.live? s.boot.shutBy
  let s1 := (sessionsWhere s (fun x => x.state != .free)).foldl (fun u i => if me == some i then u else closeOne 0x0014 i u) s
  let s2 := match me with
    | some i => closeOne 0x0014 i (replyNow i 0x000A 0 [] s1)
    | none => s1
  if s2.boot.skipDownpour then turnOff s2 else beginDownpour s2

/-- DRAIN_GRACE_EXPIRY (R476): the generations still in progress end with CANCELLED, or none is in progress; the next stage begins. -/
def effDrainGraceExpiry (s0 : State) : State :=
  if s0.boot.shutdown != 1 then s0
  else
    let busyOnes := sessionsWhere s0 (fun x => x.generating)
    let s := if busyOnes.isEmpty then s0 else reach (s0.boot.shutAt + s0.field 0x00000114 31 16 * sHalves) s0
    closeStage (onBoot (fun b => { b with shutdown := 2 }) (busyOnes.foldl (fun u i => endGeneration i 6 u) s))

/-- Downpour stopped by a wake request (R462): the record of KIND 2, then the start. -/
def stopDownpour (s : State) : State :=
  let s1 := raise { code := 0x0C06 } (showDownpour 3 (writeRecordOf 2 (untestedMarks s.test.phase s.test.step) s))
  startRom 1 false (railsOff s1)

/-- The findings that a slice of a phase can make (DEDUCED, log entry 72). -/
def phaseFindings (phase step : Nat) (fs : List Finding) : List Finding :=
  match phase with
  | 1 | 2 => fs.filter (fun f => findingOf f [7] (fun _ => false) (fun _ => false))
  | 3 => fs.filter (fun f => match f with | .dramRegion g => g == step | _ => false)
  | 4 => fs.filter (fun f => findingOf f [5] (fun _ => false) (fun a =>
      if a < stackBase then decide (16 ≤ step) && (a - hubBase) / 0x1000000 == step - 16 else (a - stackBase) / 0x1000000 % 16 == step))
  | 5 => fs.filter (fun f => findingOf f [1, 2, 3, 4] (fun n => testGroup (n / 48) (n % 48) / 128 == step) (fun _ => false))
  | _ => []

/-- DOWNPOUR_SLICE_DONE (R461, R462, R479): a link failure in a storm's recovery enters HOLD at once; a wake request stops Downpour. -/
def effDownpourSliceDone (fs : List Finding) (s : State) : State :=
  let p := s.test.phase
  if p = 0 ∨ phaseSlices p ≤ s.test.step then s
  else
    let found := phaseFindings p s.test.step fs
    let s1 := showDownpour 1 (found.foldl actOffline (onTest (fun t => { t with step := t.step + 1 }) s))
    if s.test.storm ∧ p = 2 ∧ !found.isEmpty then enterHold 5 s1
    else if s.test.wake then stopDownpour s1
    else s1

/-- A phase that cannot complete ends Downpour, with what is done so far recorded (R461); in a storm's recovery it enters HOLD (DEDUCED, log entry 72). -/
def failPhase (s : State) : State :=
  let s1 := raise { code := 0x0C07, info0 := s.test.phase } s
  if s.test.storm then enterHold 5 s1
  else turnOff (showDownpour 4 (writeRecordOf 2 (untestedMarks s.test.phase s.test.step) s1))

/-- DRIZZLE_SLICE (R457). -/
def execDrizzleSlice  (s : State) : Host.Outcome State Fault Refusal := done (effDrizzleSlice s)
/-- DRIZZLE_FORCE (R457). -/
def execDrizzleForce  (s : State) : Host.Outcome State Fault Refusal := done (effDrizzleForce s)
/-- DRIZZLE_SLICE_DONE (R459). -/
def execDrizzleSliceDone (fs : List Finding) (s : State) : Host.Outcome State Fault Refusal := done (recoverStorm <| effDrizzleSliceDone fs (noStorm s))
/-- DRIZZLE_PASS_LATE (R457). -/
def execDrizzlePassLate  (s : State) : Host.Outcome State Fault Refusal := done (effDrizzlePassLate s)
/-- DRAIN_GRACE_EXPIRY (R476). -/
def execDrainGraceExpiry  (s : State) : Host.Outcome State Fault Refusal := done (effDrainGraceExpiry s)
/-- DOWNPOUR_SLICE_DONE (R462). -/
def execDownpourSliceDone (fs : List Finding) (s : State) : Host.Outcome State Fault Refusal := done (effDownpourSliceDone fs s)

end Sys2Proof.Machine
end

