-- ==== Sys2Proof/Machine/Boot.lean ====
section
/-! DEFINITION. Start-up, start requests and recovery (R318 to R320, R463, R465, R470 to R484, R495 to R497). -/

namespace Sys2Proof.Machine

/-! Step 9 (R474). -/

/-- Ready: READY and READY_MS; firmware that came from a TRY slot makes it ACTIVE (R421). -/
def becomeReady (s : State) : State :=
  let s1 := setField 0x00000100 23 23 1 (setBootState 8 (setWord 0x00000104 (BitVec.ofNat 32 ((s.now - s.boot.startAt) / msHalves))
    (onBoot (fun b => { b with step := 0 }) s)))
  raise { code := 0x0D01 } { s1 with
    sec := if s1.sec.tried then { s1.sec with active := s1.sec.booted, tried := false } else s1.sec
    pow := { s1.pow with idleAt := s1.now }
    test := { s1.test with passAt := s1.now, passLate := false }
    store := { s1.store with hourAt := s1.now }
    bat := { s1.bat with held := !s1.pow.refclk } }

/-! Step 8 (R473). -/

/-- The default model's package, where the store can give it (R473). -/
def defaultPackage (s : State) : Option Package :=
  if s.storeState = 2 ∨ s.storeState = 3 then s.test.health.autoload.bind (fun r => s.store.packages.find? (fun p => p.root == r)) else none

/-- Step 8 begins: a parity storm's phases 2 and 4 first (R479); with nothing to load the module is ready without a model. -/
def beginLoading (s : State) : State :=
  let s1 := setBootState 7 (onBoot (fun b => { b with step := 8 }) s)
  if s.boot.storm then
    beginPhase 2 (onBoot (fun b => { b with storm := false, wdogAt := none })
      (onTest (fun t => { t with startedAt := s1.now, wake := false, storm := true }) s1))
  else if (defaultPackage s).isSome then s1
  else
    becomeReady (raise { code := 0x0D03 } (if s.test.health.autoload.isSome then failStep 8 s1 else s1))

/-- A model taken into use with its default district in slot 0 (R182, R184, R473). -/
def takeModel (p : Package) (s : State) : State :=
  let d := Config.defaultDistrict p.root
  let slot0 : DistrictSlot := { district := some d, since := s.now }
  setField 0x00000100 21 21 1 (stageAll d (restage d (onBat (fun b => { b with
    model := some (p.root, p.svn, p.deleg)
    slots := slot0 :: (if Config.twoSlots p.root then [{}] else []) }) s)))

/-- The model resident at a start; a warm reset's regions are reloaded and trimmed. -/
def modelIn (p : Package) (s : State) : State := reloadArrays (takeModel p s)

/-- MODEL_RESIDENT (R473, R474): the package passes R418 and R422, as the command says, and R420; or the module is ready without it. -/
def effModelResident (ok : Bool) (s : State) : State :=
  if s.boot.step = 8 ∧ s.test.phase = 0 then
    match (defaultPackage s).filter (fun p => ok && decide (s.sec.fuses.pkgMin ≤ p.svn)) with
    | some p => fillStaging (becomeReady (modelIn p s))
    | none => becomeReady (raise { code := 0x0D03 } (failStep 8 s))
  else s

/-! Steps 6 and 7 (R318 to R320, R470). -/

/-- Step 7 begins to count once the step before it is done: 8 follows at once where the link and an address are up. -/
def awaitLink (s : State) : State :=
  let s1 := setBootState 6 (onBoot (fun b => { b with step := 7, step6At := s.now }) s)
  if s.boot.linkDone then beginLoading s1 else s1

/-- An address is valid with the link up: step 7's work is done (R470) (DEDUCED, log entry 60). -/
def noteAddress (s : State) : State :=
  if s.field 0x00050000 31 31 = 1 ∧ s.field 0x00050010 28 27 ≠ 0 ∧ s.boot.step ≠ 0 then
    let s1 := onBoot (fun b => { b with linkDone := true }) s
    if s.boot.step = 7 then beginLoading s1 else s1
  else s

/-- LINK_STEP_TIMEOUT (R470): 10 s after step 6 the start goes on; training continues. -/
def effLinkStepTimeout (s : State) : State :=
  if s.boot.step = 7 then beginLoading (failStep 7 (reach (s.boot.step6At + 10 * sHalves) s)) else s

/-- Raw capacity of a LUN in bytes (R318). -/
def lunBytes (l : LunReport) : Nat := l.dataBytes * l.pagesPerBlock * l.blocks

/-- The transfer rates of Table STO-1 in MT/s, in the order of CH_RATE's codes from 1. -/
def nandRates : List Nat := [1600, 2400, 3200, 3600]

/-- The first check of Table STO-2 that a LUN fails, against the LUNs accepted before it. -/
def lunCheck (ok : List LunReport) (l : LunReport) : Option Nat :=
  let differs := ok.head?.any (fun f => f.dataBytes != l.dataBytes || f.pagesPerBlock != l.pagesPerBlock || f.planes != l.planes || f.ratedCycles != l.ratedCycles)
  let fails : List (Nat × Bool) :=
    [(1, !l.paramOk), (2, decide (l.revision < 42) || !l.nvddr3),
     (3, !(l.dataBytes == 16384 || l.dataBytes == 32768) || decide (l.totalBytes < 4616 * (l.dataBytes / 4096))),
     (4, !(l.planes == 1 || l.planes == 2 || l.planes == 4) || decide (4096 < l.pagesPerBlock)),
     (5, decide (60 < l.eccBits)), (6, decide (l.ratedCycles < 1000)), (7, differs), (8, !nandRates.any l.rates.contains),
     (9, decide (256 * 10 ^ 12 < sumOf (ok.map lunBytes) + lunBytes l))]
  (fails.find? Prod.snd).map Prod.fst

/-- A LUN's position in R318's order. -/
def lunPlace (l : LunReport) : Nat := l.channel.val * 16 + l.ce.val * 4 + l.lun.val

/-- One report of each position: a position carries one LUN. -/
def onePerPlace : List LunReport → List LunReport
  | [] => []
  | l :: r => l :: (onePerPlace r).filter (fun k => lunPlace k != lunPlace l)

/-- The LUNs in ascending order, accepted or rejected with the check (R318). -/
def examine : List LunReport → List LunReport → List LunReport × List (LunReport × Nat)
  | ok, [] => (ok, [])
  | ok, l :: r =>
    match lunCheck ok l with
    | some n => let x := examine ok r; (x.1, (l, n) :: x.2)
    | none => examine (ok ++ [l]) r

/-- CH_RATE: the highest rate of Table STO-1 that all accepted LUNs of a channel support and pass training at (R319); 0 where they share
none (DESIGN CHOICE, log entry 153). -/
def channelRate (mine : List LunReport) : Nat :=
  (((List.range 4).filter (fun i => mine.all (fun l => l.rates.contains (nthD 0 nandRates i)))).getLast?.map (· + 1)).getD 0

/-- A channel's word (R319, R325): its accepted LUNs, its rate, and the spare blocks left. -/
def channelWord (s : State) (ok : List LunReport) (c : Nat) : Word32 :=
  let mine := ok.filter (fun l => l.channel.val == c)
  if mine.isEmpty then 0
  else BitVec.ofNat 32 (2 ^ 29 + mine.length * 2 ^ 24 + channelRate mine * 2 ^ 21 + (look [] s.store.spares c).length)

/-- The store's state (Table STO-3): 1 unformatted, 2 ready, 3 degraded, 4 refused. -/
def storeVerdict (s : State) (ok : List LunReport) : Nat :=
  let present := (List.range 32).filter (fun c => ok.any (fun l => l.channel.val == c))
  let absent := (s.store.recorded.filter (fun c => !present.contains c)).length
  if sumOf (ok.map lunBytes) < 16 * 10 ^ 12 ∨ (!s.store.formatted ∧ present.length ≠ 32) then 4
  else if !s.store.formatted then 1
  else if absent = 0 then 2
  else if absent = 1 then 3
  else 4

/-- Discovery's result shown and kept (R318 to R320, Table STO-7). -/
def showStore (ok : List LunReport) (s : State) : State :=
  let present := (List.range 32).filter (fun c => ok.any (fun l => l.channel.val == c))
  let s1 := (List.range 32).foldl (fun u c => setWord (0x00070100 + 4 * c) (channelWord u ok c) u) s
  let s2 := setWord 0x00070004 (BitVec.ofNat 32 (sumOf (ok.map lunBytes) / 10 ^ 9))
    (setWord 0x00070000 (BitVec.ofNat 32 (storeVerdict s ok * 2 ^ 29 + present.length * 2 ^ 23 + ok.length * 2 ^ 13)) s1)
  onStore (fun x => { x with
    luns := ok
    geometry := ok.head?.map (fun l => (l.pagesPerBlock, l.dataBytes / 4096, l.ratedCycles, sumOf ((List.range 32).map (fun c => (x.blocksOf ok c).length))))
    good := (List.range 32).foldl (fun l c => put 0 l c (x.blocksOf ok c).length) []
    failed := x.recorded.filter (fun c => !present.contains c) }) s2

/-- STORE_DISCOVERED (R318 to R320): STO_TARGET_REJECTED carries the check number, at its position; a store degraded by a recorded
channel's absence says so (DEDUCED, log entry 56). -/
def effStoreDiscovered (luns : List LunReport) (s : State) : State :=
  if s.boot.step ≠ 6 then s
  else
    let r := examine [] (sortBy lunPlace (onePerPlace luns))
    let s1 := r.2.foldl (fun u x => raise ⟨0x0601, x.2, 0, 5, x.1.channel.val + x.1.ce.val * 32 + x.1.lun.val * 128, 0⟩ u) s
    let s2 := showStore r.1 s1
    let s3 := if s2.storeState = 4 then failStep 6 (raise { code := 0x0602 } s2)
      else if s2.storeState = 3 then s2.store.failed.foldl (fun u c => raise ⟨0x0603, 0, 0, 5, c, 0⟩ u) s2
      else s2
    awaitLink (onBoot (fun b => { b with storeDone := true }) s3)

/-! Steps 3 to 5 (R463, R465, R470 to R472). -/

/-- Step 5 fails: HOLD (R481). -/
def failDram (s : State) : State := enterHold 1 (failStep 5 s)

/-- The partition built and the hash matrix drawn, once in a start that is no warm reset (R287, R290) (DEDUCED, log entry 48). -/
def buildPartition (s : State) : State :=
  let p := s.mem.partRequest.getD (144, 96)
  skipFree 1 { s with mem := { s.mem with
    hashDraw := some s.drawn, partLock := true, stageCur := p.1, kvCur := p.2
    gibs := if s.mem.withheld.isEmpty then [] else (List.range 256).filter (fun g => !s.mem.withheld.contains g) } }

/-- Does the partition to be built fit beside what is withheld (R472)? -/
def partitionFits (s : State) : Bool := let p := s.mem.partRequest.getD (144, 96); partitionOk s p.1 p.2

/-- DRAM_USABLE (R463, R472): regions that fail training or a catch-up slice are withheld; a warm reset neither trains nor tests. -/
def effDramUsable (failed : List Nat) (s : State) : State :=
  if s.boot.step ≠ 5 then s
  else if s.boot.warm then awaitLink s
  else
    let bad := (failed.filter (fun g => decide (g < 256) && !s.mem.withheld.contains g)).eraseDups
    let s1 := bad.foldl (fun u g => actOffline u (.dramRegion g)) s
    let s2 := noteCaughtUp (!s.test.regions.isEmpty) (onTest (fun t => { t with regions := [] }) s1)
    if partitionFits s2 then setBootState 5 (onBoot (fun b => { b with step := 6 }) (buildPartition s2))
    else failDram s2

/-- Every untested mark is cleared: the start test covers every unit. -/
def allTested (s : State) : State :=
  { s with test := { s.test with groups := [], regions := [] }, mem := { s.mem with untested := [] } }

/-- HEALTH_RECORD_ACCEPTED (R465): step 2's verdict, or the start test's findings and its record of KIND 3; the watchdog runs again. -/
def effHealthRecordAccepted (fs : List Finding) (s : State) : State :=
  if s.boot.step ≠ 4 then s
  else
    let on (u : State) : State := setBootState 4 (onBoot (fun b => { b with step := 5, wdogAt := some u.now }) u)
    if s.test.health.skipTest then on s
    else
      let found := fs.filter (fun f => findingOf f [1, 2, 3, 4, 5, 6, 7] (fun _ => true) (fun _ => true))
      let s1 := found.foldl actOffline s
      on (writeRecordOf 3 [] (noteCaughtUp (anyUntested s) (allTested s1)))

/-- The firmware image copied into HUB_BANK_0 and made program 0 (R237, R471); its bytes follow its digest (DESIGN CHOICE, log entry 18). -/
def installFirmware (i : FwImage) (s : State) : State :=
  let s1 := writeMem (run hubBase (Config.fwImage i.digest)) s
  let h := readHeader s1.mem hubBase
  let p : Program :=
    { id := 0, firmware := true, target := h.target, svn := i.svn, codeWords := h.codeWords, trapEntry := entryOf h.trapEntry
      entries := h.entries.map entryOf, tagBases := h.tagWords.map (fun x => bits x 8 0), tagCounts := h.tagWords.map (fun x => bits x 25 16)
      prios := h.prios, codeBase := hubBase + 128, dataHandle := 0, dataBase := 0 }
  let s2 := { s1 with mem := { s1.mem with code := (0, hubBase + 128, 8 * h.codeWords) :: s1.mem.code }, programs := p :: s1.programs }
  startThread p 0 0 3 s2

/-- FIRMWARE_STARTED (R470): firmware runs on thread 0 of CONDUCTOR_0; step 4 on a cold path, step 5 on a warm one (R475) (DEDUCED, log entry 57). -/
def effFirmwareStarted (s : State) : State :=
  match s.boot.step == 3, s.boot.image with
  | true, some i =>
    let s1 := setWord 0x00010014 (BitVec.ofNat 32 i.svn) (installFirmware i { s with sec := { s.sec with fwDigest := i.digest } })
    if s.boot.warm then setBootState 4 (onBoot (fun b => { b with step := 5 }) s1)
    else
      let test := !s.test.health.skipTest
      setBootState 3 (setField 0x00000100 22 22 (b01 test)
        (onTest (fun t => { t with startedAt := s1.now }) (onBoot (fun b => { b with step := 4, wdogAt := if test then none else b.wdogAt }) s1)))
  | _, _ => s

/-- Rails in tolerance, PLLs locked, and the arrays on (step 3). -/
def railsUp (refclk : Bool) (s : State) : State :=
  let s0 := if s.boot.arrays || s.boot.warm then s else arraysOn s
  let s1 := setWord 0x00040000 (if refclk then 0x8003FFFF else s.word 0x00040000) (setBootState 2 (onBoot (fun b => { b with
    step := 3, railsGood := true, wdogAt := some s.now }) s0))
  { s1 with pow := { s1.pow with refclk := refclk } }

/-- Step 3 fails: the rail-fault path (R481). -/
def failRails (s : State) : State :=
  match countRecovery 6 2 (failStep 3 s) with
  | (s1, true) => enterHold 6 s1
  | (s1, false) => onBoot (fun b => { b with railAt := some s1.now }) (railsOff s1)

/-- The REFUSED state (R479, R480): neither recovery image passes. -/
def enterRefused (s : State) : State := setBootState 11 (onBoot (fun b => { b with forced := true }) (railsOff s))

/-- ROM recovery (R479): the store's FIRMWARE slot A, then B; the first that passes R418 and R420 goes into the inactive NOR slot with
TRY and boots (DEDUCED, log entry 58). -/
def romRecovery (store : List SlotVerdict) (s : State) : State :=
  match (store.take 2).find? (fun v => v.sigOk && decide (s.sec.fuses.fwMin ≤ v.svn)) with
  | some v =>
    let k := 1 - s.sec.active
    let i : FwImage := { svn := v.svn, digest := v.digest }
    let s1 := { s with sec := { s.sec with nor := s.sec.nor.filter (fun e => e.1 != k) ++ [(k, i)] } }
    setBootState 1 (raise { code := 0x0D09 } (noteRecovery 0 (bootImage k true i s1)))
  | none => enterRefused s

/-- BOOT_IMAGE_VERIFIED (R421, R471, R479, R497): step 2 is done and step 3 begins; the image must hash to the same digest again. -/
def effBootImageVerified (digest2 : Nat) (refclk : Bool) (store : List SlotVerdict) (s : State) : State :=
  if s.boot.step ≠ 2 then s
  else
    match s.boot.image with
    | none => romRecovery store s
    | some i =>
      if !refclk && !(s.boot.warm && s.boot.railsGood) then failRails s
      else if digest2 = i.digest then railsUp refclk s
      else
        let k := s.sec.booted
        bootOther (1 - k) (refuseSig { s with sec := { s.sec with nor := s.sec.nor.filter (fun e => e.1 != k) } })

/-! Steps 1 and 2. -/

/-- POWER_APPLIED (R470): a cold start begins (DESIGN CHOICE, log entry 6; DEDUCED, log entry 51). -/
def effPowerApplied (s : State) : State :=
  if s.boot.powered then s else onBoot (fun b => { b with powered := true, step := 1 }) (loseAll s)

/-- A NOR slot's image, where Chevik's hash and signature check pass (R418) (DEDUCED, log entry 45). -/
def norSlot (k : Nat) : Option SlotVerdict → List (Nat × FwImage)
  | some v => if v.sigOk then [(k, { svn := v.svn, digest := v.digest })] else []
  | none => []

/-- The health area as Chevik's checks leave it (R465): the record, if its signature, SERIAL and signer fit, and the running entries but
those at the places given, whose signatures fail; each of them raises TST_DRIZZLE_FAIL with location 0. -/
def checkHealth (recordOk : Bool) (failing : List Nat) (s : State) : State :=
  let h := s.test.health
  let n := h.entries.length - h.batches.length
  let run := (h.batches.zip (h.entries.drop n)).zipIdx
  let kept := (run.filter (fun x => !failing.contains x.2)).map Prod.fst
  (run.filter (fun x => failing.contains x.2)).foldl (fun u _ => raise { code := 0x0C01 } u)
    (onTest (fun t => { t with health := { h with
      record := if recordOk then h.record else none
      entries := h.entries.take n ++ kept.map Prod.snd
      batches := kept.map Prod.fst } }) s)

/-- AO_OSC_STABLE (R465, R470, R495): the straps are sampled and the ROM runs over the NOR's slots and health record. -/
def effAoOscStable (straps : BitVec 8) (a b : Option SlotVerdict) (recordOk : Bool) (failing : List Nat) (s : State) : State :=
  if s.boot.powered && s.boot.step == 1 && !s.boot.waiting then
    let s1 := checkHealth recordOk failing { s with sec := { s.sec with nor := norSlot 0 a ++ norSlot 1 b } }
    onBoot (fun x => { x with startAt := s.boot.startAt }) (startRom 0 false (onBoot (fun x => { x with straps := straps }) s1))
  else s

/-! Start requests and resets (R475, R477, R495, R496). -/

/-- A start request (R477, R479, R496): after a trip only when 60 s have passed; none while a rail fault or an undervoltage waits (DEDUCED, log entry 54; DEDUCED, log entry 55). -/
def startRequest (s : State) : State :=
  match s.boot.tripAt with
  | some t => if s.now < t + 60 * sHalves then s else startRails 8 (noteRecovery 8 s)
  | none =>
    if !s.boot.powered || s.boot.railAt.isSome || s.boot.lowAt.isSome then s
    else if s.boot.shutdown = 1 then
      setBootState 8 (onBoot (fun b => { b with shutdown := 0 }) (onBat (fun b => { b with held := !s.pow.refclk }) s))
    else if s.boot.shutdown = 3 then onTest (fun t => { t with wake := true }) s
    else if s.bootState = 10 ∨ s.bootState = 11 then startCold 1 s
    else if s.isOff then startRom 1 false s
    else s

/-- START (R477) (DEDUCED, log entry 55). -/
def effStart (_iface : Iface) (s : State) : State := startRequest s

/-- Does a running module take a warm reset (R475): rails up, past the ROM, and not in HOLD? -/
def resettable (s : State) : Bool := s.boot.railsGood && s.bootState != 10 && (s.boot.step == 0 || decide (2 ≤ s.boot.step))

/-- WARM_RESET (R475). -/
def effWarmReset (_iface : Iface) (s : State) : State := if resettable s then warmReset 3 s else s

/-- RESET_N_LOW (R475, R477, R495, R496): a start request in Off, HOLD or a shutdown; else a warm reset, or a cold start held before its
step 2. -/
def effResetNLow (s0 : State) : State :=
  let s := { s0 with pins := { s0.pins with resetN := false } }
  if !s.boot.powered || !s0.pins.resetN then s
  else if s.boot.shutdown ≠ 0 ∨ s.isOff ∨ s.bootState = 10 ∨ s.bootState = 11 then startRequest s
  else if resettable s then warmReset 2 s
  else if s.boot.step = 2 then startRom (s.field 0x00000100 27 24) false s
  else s

/-- RESET_N_RELEASE (R495): a start that waits goes on with step 2 (DEDUCED, log entry 54). -/
def effResetNRelease (s0 : State) : State :=
  let s := { s0 with pins := { s0.pins with resetN := true } }
  if s.boot.waiting then runRom (onBoot (fun b => { b with waiting := false }) s) else s

/-! Recovery (R478, R479, R482). -/

/-- WDOG_KICK (R482) (DEDUCED, log entry 57). -/
def effWdogKick (s : State) : State :=
  if s.boot.wdogAt.isSome then onBoot (fun b => { b with wdogAt := some s.now }) s else s

/-- WATCHDOG_EXPIRY (R479, R482). -/
def effWatchdogExpiry (s0 : State) : State :=
  match s0.boot.wdogAt with
  | some t =>
    let s := raise { code := 0x0D06 } (reach (t + s0.field 0x00000108 15 0 * msHalves) s0)
    match countRecovery 4 3 s with
    | (s1, true) => enterHold 4 s1
    | (s1, false) => warmReset 4 (noteRecovery 4 (bumpSat 0x00000110 15 8 1 s1))
  | none => s0

/-- UNDERVOLTAGE (R479): rails off except VAO. -/
def effUndervoltage (s : State) : State :=
  if s.boot.railsGood && s.bootState != 10 then onBoot (fun b => { b with lowAt := some s.now }) (railsOff s) else s

/-- INPUT_RESTORED (R479): above 33 V for 100 ms; the start goes on from step 3. -/
def effInputRestored (s : State) : State :=
  match s.boot.lowAt with
  | some t => startRails 7 (noteRecovery 7 (reach (t + 100 * msHalves) s))
  | none => s

/-- LOSS_OF_36V (R478) (DEDUCED, log entry 51). -/
def effLossOf36v (s : State) : State := loseAll s

/-- MAILBOX_IMAGE_DELIVERY (R480, Table SEC-3): in HOLD or REFUSED, in MANUFACTURE or RETURN; an image that passes R418 and R420 goes into
the inactive NOR slot and boots (DEDUCED, log entry 45). -/
def effMailboxImageDelivery (image : SignedObj) (svn digest : Nat) (s : State) : State :=
  let lc := s.sec.fuses.groups
  if (s.bootState = 10 ∨ s.bootState = 11) ∧ (lc = 0 ∨ lc = 3) then
    if (signedCheck s image (· == 0) 0).isSome ∨ svn < s.sec.fuses.fwMin then refuseSig s
    else
      let k := 1 - s.sec.active
      startCold 1 { s with sec := { s.sec with nor := s.sec.nor.filter (fun e => e.1 != k) ++ [(k, { svn := svn, digest := digest })], try_ := some k } }
  else s

/-! Downpour's phases (R461, R479). -/

/-- DOWNPOUR_PHASE_DONE (R461, R476, R479): the next phase, or Off; a storm's phases 2 and 4 end with step 8. -/
def effDownpourPhaseDone (ok : Bool) (s : State) : State :=
  let p := s.test.phase
  if p = 0 then s
  else if !ok then failPhase s
  else if s.test.step < phaseSlices p then s
  else if s.test.storm then
    if p = 2 then beginPhase 4 s
    else
      beginLoading (onBoot (fun b => { b with wdogAt := some s.now })
        (onTest (fun t => { t with phase := 0, step := 0, storm := false }) (showDownpour 2 s)))
  else if p < 6 then beginPhase (p + 1) s
  else turnOff (raise { code := 0x0C05 } (showDownpour 2 (writeRecordOf 1 [] s)))

/-- DOWNPOUR_PHASE_DONE (R461). -/
def execDownpourPhaseDone (ok : Bool) (s : State) : Host.Outcome State Fault Refusal := done (effDownpourPhaseDone ok s)
/-- POWER_APPLIED (R470). -/
def execPowerApplied  (s : State) : Host.Outcome State Fault Refusal := done (effPowerApplied s)
/-- AO_OSC_STABLE (R470). -/
def execAoOscStable (straps : BitVec 8) (a b : Option SlotVerdict) (health : HealthVerdict) (s : State) :
    Host.Outcome State Fault Refusal := done (effAoOscStable straps a b health.recordOk health.failing s)
/-- BOOT_IMAGE_VERIFIED (R471). -/
def execBootImageVerified (digest2 : Nat) (refclk : Bool) (store : List SlotVerdict) (s : State) : Host.Outcome State Fault Refusal := done (effBootImageVerified digest2 refclk store s)
/-- FIRMWARE_STARTED (R470). -/
def execFirmwareStarted  (s : State) : Host.Outcome State Fault Refusal := done (effFirmwareStarted s)
/-- HEALTH_RECORD_ACCEPTED (R465). -/
def execHealthRecordAccepted (fs : List Finding) (s : State) : Host.Outcome State Fault Refusal := done (effHealthRecordAccepted fs s)
/-- DRAM_USABLE (R472). -/
def execDramUsable (failed : List Nat) (s : State) : Host.Outcome State Fault Refusal := done (effDramUsable failed s)
/-- STORE_DISCOVERED (R318). -/
def execStoreDiscovered (luns : List LunReport) (s : State) : Host.Outcome State Fault Refusal := done (effStoreDiscovered luns s)
/-- LINK_STEP_TIMEOUT (R470). -/
def execLinkStepTimeout  (s : State) : Host.Outcome State Fault Refusal := done (effLinkStepTimeout s)
/-- MODEL_RESIDENT (R474). -/
def execModelResident (ok : Bool) (s : State) : Host.Outcome State Fault Refusal := done (effModelResident ok s)
/-- RESET_N_LOW (R495). -/
def execResetNLow  (s : State) : Host.Outcome State Fault Refusal := done (effResetNLow s)
/-- WARM_RESET (R475). -/
def execWarmReset (iface : Iface) (s : State) : Host.Outcome State Fault Refusal := done (effWarmReset iface s)
/-- START (R477). -/
def execStart (iface : Iface) (s : State) : Host.Outcome State Fault Refusal := done (effStart iface s)
/-- WDOG_KICK (R482). -/
def execWdogKick  (s : State) : Host.Outcome State Fault Refusal := done (effWdogKick s)
/-- WATCHDOG_EXPIRY (R482). -/
def execWatchdogExpiry  (s : State) : Host.Outcome State Fault Refusal := done (effWatchdogExpiry s)
/-- UNDERVOLTAGE (R479). -/
def execUndervoltage  (s : State) : Host.Outcome State Fault Refusal := done (effUndervoltage s)
/-- INPUT_RESTORED (R479). -/
def execInputRestored  (s : State) : Host.Outcome State Fault Refusal := done (effInputRestored s)
/-- LOSS_OF_36V (R478). -/
def execLossOf36v  (s : State) : Host.Outcome State Fault Refusal := done (effLossOf36v s)
/-- RESET_N_RELEASE (R495). -/
def execResetNRelease  (s : State) : Host.Outcome State Fault Refusal := done (effResetNRelease s)
/-- MAILBOX_IMAGE_DELIVERY (R480). -/
def execMailboxImageDelivery (image : SignedObj) (svn digest : Nat) (s : State) : Host.Outcome State Fault Refusal := done (effMailboxImageDelivery image svn digest s)

end Sys2Proof.Machine
end

