-- ==== Sys2Proof/Machine/Port.lean ====
section
/-! DEFINITION. The Ethernet port below Pelet: the link, address configuration, neighbours and ICMP (R342 to R347). -/

namespace Sys2Proof.Machine

/-- Is the link up (R344)? -/
def State.linkUp (s : State) : Bool := s.field 0x00050000 31 31 == 1

/-- A frame or packet dropped and counted (R342, R345). -/
def dropFrame (s : State) : State := bump 0x00050058 1 s

/-- A 128-bit number from four register words, word 0 the most significant (Table NET-16). -/
def quadWord (s : State) (a : Nat) : Nat :=
  (List.range 4).foldl (fun x i => x * 2 ^ 32 + (s.word (a + 4 * i)).toNat) 0

/-! Addresses (R345, R381). -/

/-- The link-local address (R345) (PRESUMED, log entry 156). -/
def linkLocal : Nat := 0xFE80 * 2 ^ 112 + Config.interfaceId.toNat

/-- A packet below Pelet leaves. -/
def emit (o : NetOut) (s : State) : State := onNet (fun n => { n with wire := n.wire ++ [o] }) s

/-- Duplicate address detection of an address begins with a neighbour solicitation for it (R345) (PRESUMED, log entry 156). -/
def detect (a : Nat) (s : State) : State :=
  if s.net.tentative.contains a then s else emit (.solicit a) (onNet (fun n => { n with tentative := n.tentative ++ [a] }) s)

/-- The IPv6 address in use is given up; the loss of a SLAAC or DHCPv6 address is reported. -/
def loseV6 (s : State) : State :=
  if s.field 0x00050010 28 28 = 1 then
    let s1 := setField 0x00050010 28 28 0 (onNet (fun n => { n with v6 := 0, gw6 := 0 }) s)
    if 2 ≤ s.net.mode6 then raise { code := 0x0705 } s1 else s1
  else s

/-- The address fields take effect at link-up (R381): a static IPv6 address goes through duplicate address detection, the other modes
solicit a router; an address in use that the fields no longer give is lost (DEDUCED, log entry 60; PRESUMED, log entry 156). -/
def applyAddresses (s : State) : State :=
  let mode := s.field 0x00050010 31 30
  let fixed := quadWord s 0x00050020
  let stale := mode ≠ s.net.mode6 ∨ (mode = 1 ∧ fixed ≠ s.net.v6)
  let s1 := if stale then loseV6 s else s
  let v4 := s.field 0x00050010 29 29 = 1
  let s2 := onNet (fun n => { n with
    mode6 := mode
    tentative := []
    gw6 := if mode = 1 then quadWord s 0x00050030 else n.gw6
    v4 := if v4 then (s.word 0x00050040).toNat else 0, gw4 := if v4 then (s.word 0x00050044).toNat else 0 }) s1
  let s3 := if mode = 1 ∧ s1.field 0x00050010 28 28 = 0 then detect fixed s2 else if 2 ≤ mode then emit .routerSolicit s2 else s2
  setField 0x00050010 27 27 (b01 (decide v4)) s3

/-- LINK_TRAINED (R343, R344): up, with exchanged lanes corrected (DESIGN CHOICE, log entry 129). -/
def effLinkTrained (swapped : Bool) (s : State) : State :=
  if s.boot.railsGood && s.pow.refclk && !s.linkUp then
    noteAddress (raise { code := 0x0701 } (applyAddresses (setWord 0x00050000 (if swapped then 0xC0000000 else 0x80000000) s)))
  else s

/-- LINK_LOSS (R344). -/
def effLinkLoss (s : State) : State := linkDown s

/-- TRAINING_RESTART (R343). -/
def effTrainingRestart (s : State) : State :=
  if s.boot.railsGood && !s.linkUp then onNet (fun n => { n with restarts := n.restarts + 1 }) s else s

/-- FEC_WINDOW (R344): codewords counted; a pre-FEC error ratio above 5 × 10^−4, or any uncorrectable codeword, is reported (DESIGN CHOICE, log entry 129). -/
def effFecWindow (corrected uncorrectable bitErrors bits : Nat) (s : State) : State :=
  if s.linkUp then
    let s1 := bump 0x00050050 corrected (bump 0x00050054 uncorrectable s)
    if 5 * bits < 10000 * bitErrors ∨ uncorrectable ≠ 0 then raise { code := 0x0703 } s1 else s1
  else s

/-! Frames (R342, R345, R346). -/

/-- Does a frame's tag suit the port (Table NET-1)? -/
def tagOk (s : State) (f : Frame) : Bool :=
  if s.field 0x0005000C 31 31 = 1 then f.vlan == some (s.field 0x0005000C 27 16) else f.vlan.isNone

/-- Is a frame's protocol one of Table NET-4, in a packet that the port takes? -/
def protocolOk (s : State) (f : Frame) : Bool :=
  match f.proto with
  | .pelet => f.udpSumOk && ours
  | .icmpEcho | .tooBig => ours
  | .nd | .arp => true
  | .pause | .pfc | .ipv6Ext | .ipv4Fragment | .ipv4Options | .other => false
where
  /-- A packet of an address family in use. -/
  ours : Bool := if f.ipv4 then s.field 0x00050010 27 27 == 1 else s.net.mode6 != 0

/-- FRAME_RECEIVE (R342, R345, R346): PAUSE and PFC are discarded and counted; what Table NET-4 does not list is dropped and counted; what
it lists goes to its own command. -/
def effFrameReceive (f : Frame) (s : State) : State :=
  if !s.linkUp then s
  else if f.fcsOk && (f.proto == .pause || f.proto == .pfc) then bump 0x0005005C 1 s
  else if f.fcsOk && tagOk s f && protocolOk s f && decide (f.packetLen ≤ s.field 0x0005000C 13 0) then s
  else dropFrame s

/-- ICMP_ECHO (R345): at most 1,000 answers per second, payload up to 1,024 bytes. -/
def effIcmpEcho (src len : Nat) (s : State) : State :=
  if !s.linkUp then s
  else
    let times := recent s.now sHalves s.net.echoes
    if 1024 < len ∨ 1000 ≤ times.length then dropFrame s
    else onNet (fun n => { n with echoes := times ++ [s.now], wire := n.wire ++ [.echo src len] }) s

/-! Neighbours (R345). -/

/-- A cache of 1,024 entries, most recently used first. -/
def learn (a mac : Nat) (l : List (Nat × Nat)) : List (Nat × Nat) := ((a, mac) :: l.filter (fun e => e.1 != a)).take 1024

/-- A neighbour learned. -/
def learnNd (a mac : Nat) (s : State) : State := onNet (fun n => { n with nd := learn a mac n.nd }) s

/-- A SLAAC or DHCPv6 address taken up: duplicate address detection begins. -/
def tryAddress (a : Nat) (s : State) : State :=
  if a = s.net.v6 ∧ s.field 0x00050010 28 28 = 1 then s else detect a s

/-- NEIGHBOUR_DISCOVERY (R345). -/
def effNeighbourDiscovery (m : NdMsg) (s : State) : State :=
  if !s.linkUp then s
  else
    match m with
    | .rs src mac => learnNd src mac s
    | .ra src mac prefixHi prefixLen mtu =>
      let s1 := onNet (fun n => { n with raMtu := mtu, gw6 := if 2 ≤ n.mode6 then src else n.gw6 }) (learnNd src mac s)
      if s.net.mode6 = 2 ∧ prefixLen = 64 then tryAddress (prefixHi % 2 ^ 64 * 2 ^ 64 + Config.interfaceId.toNat) s1 else s1
    | .ns src mac target =>
      let s1 := learnNd src mac s
      if (target = s.net.v6 ∧ s.field 0x00050010 28 28 = 1) ∨ (target = linkLocal ∧ s.net.mode6 ≠ 0) then emit (.advertise src target) s1 else s1
    | .na src mac => learnNd src mac s
    | .dhcp6 a =>
      if s.net.mode6 = 3 then
        match a with
        | some x => tryAddress x s
        | none => loseV6 s
      else s

/-- ARP (R345). -/
def effArp (m : ArpMsg) (s : State) : State :=
  if !s.linkUp then s
  else
    match m with
    | .request src mac target =>
      let s1 := onNet (fun n => { n with arp := learn src mac n.arp }) s
      if s.field 0x00050010 27 27 = 1 ∧ target = s.net.v4 then emit (.arpReply src target) s1 else s1
    | .reply src mac => onNet (fun n => { n with arp := learn src mac n.arp }) s

/-- DAD_DONE (R345): the address is used, or NET_DAD_CONFLICT says that it is not. -/
def effDadDone (a : Nat) (ok : Bool) (s : State) : State :=
  if !s.linkUp || !s.net.tentative.contains a then s
  else
    let s1 := onNet (fun n => { n with tentative := takeOut n.tentative a }) s
    if ok then
      let s2 := setField 0x00050010 28 28 1 (onNet (fun n => { n with v6 := a }) s1)
      noteAddress (if 2 ≤ s.net.mode6 then raise { code := 0x0705 } s2 else s2)
    else raise { code := 0x0704 } s1

/-- PACKET_TOO_BIG (R347): a live session's path MTU falls, never below 1,280. -/
def effPacketTooBig (peer port mtu : Nat) (s : State) : State :=
  let most := Nat.max 1280 mtu
  (sessionsWhere s (fun x => x.state != .free && x.addr == peer && x.port == port && decide (most < x.pmtu))).foldl (fun u i =>
    raise (atSession 0x0707 (u.handle i) 0 0) (onSess i (fun x => { x with pmtu := most }) u)) s

/-- LINK_TRAINED (R344). -/
def execLinkTrained (swapped : Bool) (s : State) : Host.Outcome State Fault Refusal := done (effLinkTrained swapped s)
/-- LINK_LOSS (R344). -/
def execLinkLoss  (s : State) : Host.Outcome State Fault Refusal := done (effLinkLoss s)
/-- TRAINING_RESTART (R343). -/
def execTrainingRestart  (s : State) : Host.Outcome State Fault Refusal := done (effTrainingRestart s)
/-- FEC_WINDOW (R344). -/
def execFecWindow (corrected uncorrectable bitErrors bits : Nat) (s : State) : Host.Outcome State Fault Refusal := done (effFecWindow corrected uncorrectable bitErrors bits s)
/-- FRAME_RECEIVE (R345). -/
def execFrameReceive (f : Frame) (s : State) : Host.Outcome State Fault Refusal := done (effFrameReceive f s)
/-- ICMP_ECHO (R345). -/
def execIcmpEcho (src len : Nat) (s : State) : Host.Outcome State Fault Refusal := done (effIcmpEcho src len s)
/-- NEIGHBOUR_DISCOVERY (R345). -/
def execNeighbourDiscovery (m : NdMsg) (s : State) : Host.Outcome State Fault Refusal := done (effNeighbourDiscovery m s)
/-- ARP (R345). -/
def execArp (m : ArpMsg) (s : State) : Host.Outcome State Fault Refusal := done (effArp m s)
/-- DAD_DONE (R345). -/
def execDadDone (addr : Nat) (ok : Bool) (s : State) : Host.Outcome State Fault Refusal := done (effDadDone addr ok s)
/-- PACKET_TOO_BIG (R347). -/
def execPacketTooBig (peer port : Nat) (mtu : Nat) (s : State) : Host.Outcome State Fault Refusal := done (effPacketTooBig peer port mtu s)

end Sys2Proof.Machine
end

