-- ==== Sys2Proof/Machine/Csr.lean ====
section
/-! DEFINITION. The CSR space, the tile windows, the event log's registers and the I3C target (R9, R10, R222, R277, R315, R381, R430, R454,
R468, R483, R498, R504 to R514). -/

namespace Sys2Proof.Machine

/-- An interface's number (R514). -/
def ifaceNo : Iface → Nat
  | .i3c => 0
  | .mgmt => 1
  | .fw => 2

/-! Which fields may be written, and by whom (Table REG-1, R505). -/

/-- A writable field: its bits, who may write it, and its range (R454, R468, R483, R514: the nearest limit is stored). -/
structure Field where
  hi : Nat
  lo : Nat
  who : List Iface := [.mgmt, .fw]
  least : Nat := 0
  most : Nat := 0xFFFFFFFF
  deriving DecidableEq, Repr

/-- A field that firmware and MGMT write, with its range. -/
def rw (hi lo least most : Nat) : Field := { hi := hi, lo := lo, least := least, most := most }
/-- A field that one interface writes. -/
def only (i : Iface) (hi lo : Nat) : Field := { hi := hi, lo := lo, who := [i] }
/-- A field that every interface writes. -/
def anyone (hi lo : Nat) : Field := { hi := hi, lo := lo, who := [.i3c, .mgmt, .fw] }

/-- Writable fields of the always-on blocks (Tables BOO-4, SEC-8, POW-8, REG-5) (DEDUCED, log entry 62). -/
def fieldsAo : List (Nat × List Field) :=
  [(0x00000108, [anyone 31 31, anyone 30 30, { only .fw 15 0 with least := 100, most := 60000 }]),
   (0x0000010C, [only .fw 31 0]),
   (0x00000110, [rw 31 24 0 255, rw 23 16 0 255, rw 15 8 0 255, rw 7 0 0 255]),
   (0x00000114, [{ only .mgmt 31 16 with most := 600 }]),
   (0x00010000, [rw 24 24 0 1]),
   (0x00020000, [only .mgmt 31 22, only .mgmt 21 12]),
   (0x00020004, [only .i3c 31 22, only .i3c 21 12]),
   (0x0002000C, [rw 31 31 0 1, rw 30 25 0 56, rw 24 20 2 16, rw 19 16 0 8]),
   (0x00020024, [rw 31 29 0 7, rw 24 12 10 8191]),
   (0x00020028, [rw 31 16 0 65535, rw 15 0 0 65535]),
   (0x00030000, [rw 15 0 0 65535]),
   (0x00040004, [rw 31 28 2 8]),
   (0x000C0008, [anyone 13 1]),
   (0x000C000C, [anyone 13 1]),
   (0x000C0014, [rw 15 0 1 1000])]

/-- Writable fields of the port and of Pelet (Tables NET-16, NET-17, FRO-5) (DEDUCED, log entry 62). -/
def fieldsNet : List (Nat × List Field) :=
  [(0x0005000C, [rw 31 31 0 1, rw 27 16 1 4094, rw 13 0 1280 9000]),
   (0x00050010, [rw 31 30 0 3, rw 29 29 0 1, rw 23 16 1 128, rw 15 8 1 32]),
   (0x00050040, [rw 31 0 0 0xFFFFFFFF]), (0x00050044, [rw 31 0 0 0xFFFFFFFF]),
   (0x00050048, [rw 29 24 0 63, rw 21 16 0 63, rw 13 8 0 63, rw 5 0 0 63]),
   (0x00060000, [rw 15 0 1024 65535]),
   (0x00060008, [rw 31 28 1 8, rw 27 12 0 65535, rw 11 0 64 4095]),
   (0x0006000C, [rw 31 16 10 65535, rw 15 0 64 16384]),
   (0x00060010, [rw 31 0 10 604800]),
   (0x00060014, [rw 31 16 200 65535, rw 15 12 3 15, rw 11 0 1 4095]),
   (0x00060018, [rw 31 28 1 8, rw 27 16 1 256, rw 15 0 2 1024]),
   (0x0006001C, [rw 9 0 10 800]),
   (0x00060020, [rw 31 16 256 32768, rw 15 0 64 8192]),
   (0x00060024, [rw 7 0 1 20]),
   (0x00060100, [rw 17 17 0 1])]

/-- Writable fields of the store, memory, arrays and test (Tables STO-7, MEM-13, CAL-11, CON-5, TST-6). -/
def fieldsCore : List (Nat × List Field) :=
  [(0x00070008, [rw 31 26 2 40, rw 25 22 1 8, rw 21 14 16 255]),
   (0x0007000C, [rw 31 28 1 14, rw 27 12 10 1000]),
   (0x00080000, [rw 22 15 0 255, rw 14 7 0 255]),
   (0x00080030, [{ only .fw 7 0 with least := 1, most := 255 }]),
   (0x00080200, [only .fw 31 0]), (0x00080204, [only .fw 31 0]), (0x00080208, [only .fw 31 0]),
   (0x00080400, [only .fw 31 0]),
   (0x000A0100, [rw 20 10 50 2000, rw 9 6 2 8, rw 5 0 1 60]),
   (0x000A0104, [rw 19 16 3 15, rw 15 8 1 255, rw 7 4 10 15, rw 3 0 1 15]),
   (0x000A0200, [rw 31 16 1 65535, rw 15 0 10 10000]),
   (0x000A0204, [rw 31 16 0 60000, rw 8 0 64 256]),
   (0x000A0208, [rw 16 8 1 256, rw 7 4 3 15, rw 3 0 0 8]),
   (0x000A020C, [rw 31 16 16 6553, rw 15 8 1 64, rw 7 0 1 255]),
   (0x000A0400, [only .i3c 31 8]), (0x000A0404, [only .i3c 15 0]),
   (0x000A0420, [rw 31 8 0 0xFFFFFF]), (0x000A0424, [rw 15 0 0 65535]),
   (0x000B0000, [rw 31 31 0 1, rw 30 24 1 100, rw 23 12 100 4000])]

/-- The bank of a control register's address (Table MEM-13, R315). -/
def bankAt (a : Nat) : Option BankId :=
  if 0x80100 ≤ a ∧ a < 0x80120 then some (.hub (Fin.ofNat 8 ((a - 0x80100) / 4)))
  else if 0x100000 ≤ a ∧ a < 0x200000 ∧ 0x100 ≤ a % 0x10000 ∧ a % 0x10000 < 0x140 then
    some (.stack (Fin.ofNat 16 ((a - 0x100000) / 0x10000)) (Fin.ofNat 16 ((a % 0x10000 - 0x100) / 4)))
  else none

/-- The writable fields of a word. -/
def fieldsAt (a : Nat) : List Field :=
  if a % 4 ≠ 0 then []
  else if (bankAt a).isSome then [only .fw 31 30, only .fw 7 0]
  else if 0x20100 ≤ a ∧ a < 0x20184 then [{ only .fw 21 17 with most := 16 }]
  else if 0x90000 ≤ a ∧ a < 0x95000 ∧ a % 0x400 = 0 then [only .fw 31 0]
  else if 0x50020 ≤ a ∧ a < 0x50040 then [rw 31 0 0 0xFFFFFFFF]
  else if a = 0xC0100 then [only .i3c 31 0]
  else if a = 0xC0140 then [only .mgmt 31 0]
  else if a = 0xC0180 then [only .fw 31 0]
  else look [] (fieldsAo ++ fieldsNet ++ fieldsCore) a

/-- Is a block powered (Table REG-1)? -/
def blockOn (s : State) (a : Nat) : Bool :=
  if a < 0x50000 ∨ (0xC0000 ≤ a ∧ a < 0xD0000) then s.boot.powered
  else if a < 0x70000 then s.boot.railsGood
  else s.boot.railsGood && s.bootState != 10

/-! Event records through the interfaces' sets (R510, R514). -/

/-- The eight words of a record (Table REG-4). -/
def eventWords (e : EvRecord) : List Nat :=
  let t := e.time / 152
  [e.code * 65536 + e.count, e.seq % 2 ^ 32, t % 2 ^ 32, t / 2 ^ 32 % 2 ^ 32, e.info0, e.info1, e.kind * 2 ^ 28 + e.loc, e.handle]

/-- What a selection loads: the record's words, or why there is none. -/
def selectRecord (l : EventLog) (seq : Nat) : EvSet :=
  match l.ring.find? (fun e => e.seq == seq) with
  | some e => { sel := seq, rstate := 0, copy := eventWords e }
  | none => { sel := seq, rstate := if l.head ≤ seq then 1 else 2, copy := [] }

/-- EV_RSEL written (R514): another interface's is ignored. -/
def effEvRselWrite (iface : Iface) (set : Fin 3) (seq : Word32) (s : State) : State :=
  if !s.boot.powered then s
  else if set.val = ifaceNo iface then
    { s with ev := { s.ev with sets := put {} s.ev.sets set.val (selectRecord s.ev seq.toNat) } }
  else if iface = .i3c then bump 0x000C0018 1 s
  else s

/-- ALERT_STATUS written (R9, R513): a 1 clears its bit. -/
def effAlertStatusWrite (_iface : Iface) (v : Word32) (s : State) : State :=
  if s.boot.powered then { s with ev := { s.ev with alert := s.ev.alert &&& ~~~(BitVec.ofNat 14 (v.toNat / 2 * 2)) } } else s

/-! The tile windows (R509). -/

/-- A window. -/
def State.window (s : State) (w : Nat) : Window := look {} s.side.windows w
/-- A window changed. -/
def onWindow (w : Nat) (f : Window → Window) (s : State) : State :=
  { s with side := { s.side with windows := change {} s.side.windows w f } }

/-- A fetch begins: VALID is 0 until it completes, and a stack in Breeze wakes. -/
def startFetch (w : Nat) (s : State) : State :=
  wakeDies [(s.window w).sel.toNat / 2 ^ 18 / 640]
    (onWindow w (fun x => { x with busy := true, valid := false, dieOff := false, range := false, data := 0 }) s)

/-- TW_SEL written. -/
def effTwSelWrite (w : Fin 2) (v : Word32) (s : State) : State :=
  if blockOn s 0xA0400 then startFetch w.val (onWindow w.val (fun x => { x with sel := BitVec.ofNat 32 (v.toNat / 256 * 256) }) s) else s

/-- TW_INDEX written. -/
def effTwIndexWrite (w : Fin 2) (v : Word32) (s : State) : State :=
  if blockOn s 0xA0400 then startFetch w.val (onWindow w.val (fun x => { x with index := v.toNat % 65536 }) s) else s

/-- TW_DATA read: the index moves on, and the word it then names is fetched (DEDUCED, log entry 64). -/
def effTwDataRead (w : Fin 2) (s : State) : State :=
  if blockOn s 0xA0400 then startFetch w.val (onWindow w.val (fun x => { x with index := (x.index + 1) % 65536 }) s) else s

/-- A side entry's bits (Table NUM-5). -/
def sideBits : Option SideEntry → Nat
  | some e => 2 ^ 63 + e.kind * 2 ^ 62 + e.row * 2 ^ 51 + e.pair * 2 ^ 45 + e.column * 2 ^ 37 + e.value
  | none => 0

/-- CAL_AGE (Table CAL-2) in units of 64 µs. -/
def ageUnits (s : State) (n : Nat) : Nat :=
  match calAge s n with
  | some a => Nat.min 0xFFFFF (a / (64 * usHalves))
  | none => 0xFFFFF

/-- Four bytes of gain corrections from group i. -/
def gcorWord (t : List (Nat × Int)) (i : Nat) : Nat := sumOf ((List.range 4).map (fun k => toBits 8 (look 0 t (i + k)) * 2 ^ (8 * k)))

/-- A Weathervane word (Tables REG-3, CAL-9); the two halves of WV_BASE are the low 16 bits of the model's values (DESIGN CHOICE, log entry 46). -/
def wvWord (now : Nat) (w : Weathervane) : Nat → Nat
  | 0 => toBits 24 w.mean
  | 1 => toBits 24 w.msq
  | 2 => toBits 16 w.baseMean * 65536 + w.baseDev % 65536
  | 3 => w.sat
  | 4 => w.env
  | 5 => Nat.min 65535 w.stuck
  | 6 => Nat.min 255 (recent now (86400 * sHalves) w.cksum).length
  | _ => 0

/-- Words of each space (Table REG-3). -/
def spaceLen (sp : Nat) : Nat := nthD 0 [268, 6, 2144, 160, 10, 16384, 4, 12] sp

/-- A word of a pair's or a tile's space (Table REG-3) (DEDUCED, log entry 65). A column that a fused spare serves keeps its own trim word,
SPARE 0b1111 with it (DESIGN CHOICE, log entry 141). -/
def spaceWord (s : State) (tile pair sp i : Nat) : Nat :=
  let n := tile * 48 + pair
  let p := s.pair n
  let t := s.tile tile
  match sp with
  | 0 => let x := p.trim i; x.gain * 2 ^ 22 + toBits 8 x.offset * 2 ^ 14 + x.state * 2 ^ 12 + x.fails * 2 ^ 10 + x.spare * 2 ^ 6
  | 1 =>
    match i with
    | 0 => (Config.kappaG n).toNat * 2 ^ 20 + (Config.kappaO n).toNat * 2 ^ 8 + p.glim
    | 1 => toBits 10 p.tCal * 2 ^ 22 + macroMode s n * 2 ^ 20 + ageUnits s n
    | 2 => gcorWord p.gcor2 0
    | 3 => gcorWord p.gcor2 4
    | 4 => gcorWord p.gcor4 0
    | _ => gcorWord p.gcor4 4
  | 2 => wvWord s.now (look {} p.wv (i / 8)) (i % 8)
  | 3 => look 0 p.masks i
  | 4 => if i = 0 then p.zeroWords else if i < 9 then look 0 p.clips (i - 1) else p.forced
  | 5 => sideBits (look none t.side (i / 2)) / 2 ^ (32 * (i % 2))
  | 6 => if i = 0 then t.hits else if i = 1 then t.misses else if i = 2 then t.freeSide else toBits 32 t.temp
  | _ =>
    let u := spareUse n p i
    b01 u.fused * 2 ^ 31 + b01 u.inUse * 2 ^ 30 + u.column

/-- TILE_FETCH_DONE (R509): the word, or DIE_OFF or RANGE with data 0; a low side word latches its high half; SAT_COUNT is read-to-clear (DEDUCED, log entry 65). -/
def effTileFetchDone (w : Fin 2) (s : State) : State :=
  let x := s.window w.val
  if !x.busy then s
  else
    let tile := bits x.sel.toNat 31 18
    let pair := bits x.sel.toNat 17 12
    let sp := bits x.sel.toNat 11 8
    let i := x.index
    if 10239 < tile ∨ spaceLen sp ≤ i ∨ (47 < pair ∧ sp ≠ 5 ∧ sp ≠ 6) then
      onWindow w.val (fun x => { x with busy := false, valid := true, range := true, data := 0, high := none }) s
    else if !s.boot.arrays then
      onWindow w.val (fun x => { x with busy := false, valid := true, dieOff := true, data := 0, high := none }) s
    else
      let v := BitVec.ofNat 32 (spaceWord s tile pair sp i)
      let data := if sp = 5 ∧ i % 2 = 1 then x.high.getD v else v
      let hi := if sp = 5 ∧ i % 2 = 0 then some (BitVec.ofNat 32 (spaceWord s tile pair 5 (i + 1))) else none
      let s1 := onWindow w.val (fun x => { x with busy := false, valid := true, data := data, high := hi }) s
      if sp = 2 ∧ i % 8 = 3 then
        onPair (tile * 48 + pair) (fun p => { p with wv := change {} p.wv (i / 8) (fun y => { y with sat := 0 }) }) s1
      else s1

/-! Reading (R504, R505, R508). -/

/-- A thread's state code (Table SPM-10). -/
def threadCode : ThreadState → Nat
  | .idle => 0 | .ready => 1 | .waiting => 2 | .halted => 3 | .stopping => 4

/-- A CONDUCT register (Table SPM-10). -/
def conductWord (s : State) (a : Nat) : Nat :=
  let c := (a - 0x90000) / 0x400
  let o := a % 0x400
  if o = 0 ∨ o = 4 ∨ o = 8 then (s.word a).toNat
  else if o = 0xC then ((List.range 512).filter (fun g => s.tag c g == .pending)).length % 512
  else if 0x20 ≤ o ∧ o < 0xA0 then
    let x := s.thr (c * 8 + (o - 0x20) / 0x10)
    match o % 0x10 with
    | 0 => threadCode x.state * 2 ^ 29 + b01 x.tm * 2 ^ 28 + x.prio * 2 ^ 26 + b01 x.priv * 2 ^ 25 + x.program
    | 4 => x.pc.toNat
    | 8 => x.tagCount * 2 ^ 16 + x.tagBase
    | _ => x.tra.toNat
  else 0

/-- A bank state's code (Table MEM-13). -/
def bankCode : BankState → Nat
  | .on => 0 | .retention => 1 | .off => 2

/-- A bank's control word (Table MEM-13). -/
def bankWord (s : State) (b : Nat) : Nat :=
  let x := s.bank b
  bankCode x.request * 2 ^ 30 + bankCode x.current * 2 ^ 28 + b01 x.moving.isSome * 2 ^ 27 + Nat.min 4095 (bankAllocs s b) * 2 ^ 8 + s.mem.owner b

/-- A LIFECYCLE register (Table SEC-8). -/
def lifecycleWord (s : State) (a : Nat) : Nat :=
  let f := s.sec.fuses
  match a with
  | 0x10000 => f.groups * 2 ^ 29 + (currentOwner s).getD 0 * 2 ^ 27 + b01 (currentOwner s).isSome * 2 ^ 26 + b01 s.sec.debug * 2 ^ 25
      + s.field 0x10000 24 24 * 2 ^ 24 + f.revoke.toNat * 2 ^ 16
  | 0x10004 => Config.serial % 2 ^ 32
  | 0x10008 => Config.serial / 2 ^ 32 % 2 ^ 32
  | 0x1000C => f.fwMin * 2 ^ 24 + f.svcMin * 2 ^ 16 + f.pkgMin * 2 ^ 8
  | 0x10010 => Config.romVersion.toNat * 65536 + Config.productCa.toNat
  | 0x1001C => s.sec.delegs.length
  | _ => if 0x10020 ≤ a ∧ a < 0x10060 then ownerHash s / 2 ^ (32 * (15 - (a - 0x10020) / 4)) % 2 ^ 32 else (s.word a).toNat

/-- Logical columns of the module whose serving column is in a STATE (R91, R93); the count stops at 1,023, and the old word of a remapped
column does not count (DESIGN CHOICE, log entry 142). -/
def columnsIn (s : State) (st : Nat) : Nat :=
  Nat.min 1023 (sumOf (s.arr.pairs.map (fun e =>
    ((List.range 256).filter (fun c => (e.2.trim (physical e.1 e.2 c)).state == st)).length)))

/-- Hours since the least recently patrolled block of MODEL, HEALTH or FIRMWARE was read (Table STO-7). -/
def patrolAge (s : State) : Nat :=
  match (sortBy id ((s.store.bands.filter (fun e => e.2 != 3)).map (fun e =>
    (List.range 32).map (fun c => look 0 s.store.patrols (e.1 * 32 + c)))).flatten).head? with
  | some t => Nat.min 65535 ((s.now - t) / (3600 * sHalves))
  | none => 0

/-- A window register (Table REG-2) (DEDUCED, log entry 66). -/
def windowWord (s : State) (a : Nat) : Nat :=
  let x := s.window ((a - 0xA0400) / 0x20)
  match a % 0x20 with
  | 0 => x.sel.toNat
  | 4 => x.index
  | 8 => if x.valid then x.data.toNat else 0
  | 0xC => b01 x.valid * 2 ^ 31 + b01 x.dieOff * 2 ^ 30 + b01 x.range * 2 ^ 29
  | _ => 0

/-- An EVENT register (Table REG-5). -/
def eventWord (s : State) (a : Nat) : Nat :=
  match a with
  | 0xC0000 => s.ev.head % 2 ^ 32
  | 0xC0004 => s.ev.overwritten % 2 ^ 32
  | 0xC0008 => s.ev.alert.toNat / 2 * 2
  | 0xC000C => s.ev.mask.toNat / 2 * 2
  | 0xC0010 => b01 s.boot.forced
  | _ =>
    if 0xC0100 ≤ a ∧ a < 0xC01C0 then
      let x := look {} s.ev.sets ((a - 0xC0100) / 0x40)
      let o := (a - 0xC0100) % 0x40
      if o = 0 then x.sel else if o = 4 then x.rstate * 2 ^ 30 else if 0x20 ≤ o then nthD 0 x.copy ((o - 0x20) / 4) else 0
    else (s.word a).toNat

/-- A word of the DRAM block (Table MEM-13). -/
def dramWord (s : State) (a : Nat) : Nat :=
  match a with
  | 0x80000 =>
    let p := s.mem.partRequest.getD (if s.mem.partLock then (s.mem.stageCur, s.mem.kvCur) else (144, 96))
    p.1 * 2 ^ 15 + p.2 * 2 ^ 7
  | 0x80004 => b01 s.mem.partLock * 2 ^ 31 + s.mem.stageCur * 2 ^ 23 + s.mem.kvCur * 2 ^ 15
  | 0x80008 => kvFree s
  | 0x80208 | 0x80400 => 0
  | 0x80404 => (s.kv.jobs.filter (fun j => !j.running)).length * 2 ^ 16 + lanesBusy s
  | _ => (s.word a).toNat

/-- The live value of a word (R504): an address in no block, or that no table assigns, reads as 0, since nothing is ever stored there (DEDUCED, log entry 66). -/
def liveWord (s : State) (a : Nat) : Nat :=
  if a % 4 ≠ 0 then 0
  else
    match bankAt a with
    | some b => bankWord s b.num
    | none =>
      if a = 4 then s.boot.straps.toNat
      else if a = 0x108 then s.field 0x108 15 0
      else if 0x10000 ≤ a ∧ a < 0x20000 then lifecycleWord s a
      else if 0x20100 ≤ a ∧ a < 0x20184 then
        ((Config.railSet ((a - 0x20100) / 4)).toNat + s.field a 21 17) % 1024 * 2 ^ 22 + s.field a 21 17 * 2 ^ 17
      else if a = 0x40010 then s.ao % 2 ^ 32
      else if a = 0x40014 then s.ao / 2 ^ 32 % 2 ^ 32
      else if a = 0x50004 then Config.mac.toNat % 2 ^ 32
      else if a = 0x50008 then Config.mac.toNat / 2 ^ 32
      else if 0x50020 ≤ a ∧ a < 0x50030 then s.net.v6 / 2 ^ (32 * (3 - (a - 0x50020) / 4)) % 2 ^ 32
      else if 0x50030 ≤ a ∧ a < 0x50040 then s.net.gw6 / 2 ^ (32 * (3 - (a - 0x50030) / 4)) % 2 ^ 32
      else if a = 0x60004 then (sessionsWhere s (fun x => x.state != .free)).length
      else if a = 0x7002C then patrolAge s
      else if 0x80000 ≤ a ∧ a < 0x90000 then dramWord s a
      else if 0x90000 ≤ a ∧ a < 0x95000 then conductWord s a
      else if a = 0xA0108 then s.field a 31 20 * 2 ^ 20 + columnsIn s 2 * 2 ^ 10 + columnsIn s 3
      else if 0xA0400 ≤ a ∧ a < 0xA0440 then windowWord s a
      else if a = 0xB0004 then s.test.next * 100 / passSlices * 2 ^ 24 + s.field a 23 0
      else if a = 0xB0018 then s.test.groups.length * 32 * 2 ^ 12 + s.test.regions.length
      else if a = 0xB001C then Nat.min 65535 s.mem.segments.length
      else if 0xC0000 ≤ a ∧ a < 0xD0000 then eventWord s a
      else (s.word a).toNat

/-- The HI register of a split value (R508). -/
def hiOf (a : Nat) : Option Nat :=
  if a = 0x10004 ∨ a = 0x50004 ∨ a = 0x20018 ∨ a = 0x40010 ∨ a = 0x60110 then some (a + 4) else none

/-- A latch's key: interface and address. -/
def latchKey (iface : Iface) (a : Nat) : Nat := ifaceNo iface * 2 ^ 32 + a

/-- The window whose TW_DATA an interface's read of an address reads as its own (R509) (DEDUCED, log entry 64). -/
def ownWindow (iface : Iface) (a : Nat) : Option (Fin 2) :=
  if a = 0xA0408 ∧ iface = .i3c then some 0 else if a = 0xA0428 ∧ iface ≠ .i3c then some 1 else none

/-- A register read by an interface: the value, and what the read changes. -/
def readCsr (iface : Iface) (a : Nat) (s : State) : Word32 × State :=
  let on := blockOn s a
  let s1 := if iface = .i3c then setField 0x000C001C 0 0 (b01 (!on)) s else s
  if !on then (0, s1)
  else
    match look none s.latch (latchKey iface a) with
    | some v => (v, { s1 with latch := put none s1.latch (latchKey iface a) none })
    | none =>
      let v := BitVec.ofNat 32 (liveWord s a)
      let s2 := match hiOf a with
        | some h => { s1 with latch := put none s1.latch (latchKey iface h) (some (BitVec.ofNat 32 (liveWord s h))) }
        | none => s1
      match ownWindow iface a with
      | some w => (v, effTwDataRead w s2)
      | none => (v, s2)

/-! Writing (R9, R10, R505). -/

/-- A field's bits in a written word. -/
def Field.bits (f : Field) (v : Word32) : Nat := Sys2Proof.Machine.bits v.toNat f.hi f.lo

/-- One field of a plain register stored, at the nearest limit; an age trim never falls (R434) (DEDUCED, log entry 63). -/
def storeField (a : Nat) (v : Word32) (s : State) (f : Field) : State :=
  let x := clampNat f.least f.most (f.bits v)
  setField a f.hi f.lo (if 0x20100 ≤ a ∧ a < 0x20184 then Nat.max x (s.field a f.hi f.lo) else x) s

/-- TEST_ENGINE (R9, Table SEC-8): writable in MANUFACTURE and RETURN alone; any other write is counted (DESIGN CHOICE, log entry 128). -/
def writeTestEngine (v : Word32) (s : State) : State :=
  if s.sec.fuses.groups = 0 ∨ s.sec.fuses.groups = 3 then setField 0x10000 24 24 (bits v.toNat 24 24) s else bump 0x00010018 1 s

/-- A bank's control word written: OWNER where it changes, then STATE (R283, R286). -/
def writeBank (b : BankId) (v : Word32) (s : State) : State :=
  let o := bits v.toNat 7 0
  effBankStateRequest b (BitVec.ofNat 2 (bits v.toNat 31 30)) (if o = s.mem.owner b.num then s else effBankOwnerWrite b (BitVec.ofNat 8 o) s)

/-- The command word of the ALLOC registers (Table MEM-13). -/
def writeAlloc (v : Word32) (s : State) : State :=
  match bits v.toNat 31 28 with
  | 1 => effAllocCreate (BitVec.ofNat 4 (bits v.toNat 27 24)) (BitVec.ofNat 8 (bits v.toNat 23 16)) s
  | 2 => effAllocRelease (BitVec.ofNat 16 (bits v.toNat 15 0)) s
  | _ => s

/-- A write's effect, on the fields its interface may write (DEDUCED, log entry 61). -/
def actWrite (iface : Iface) (a : Nat) (v : Word32) (mine : List Field) (s : State) : State :=
  match bankAt a with
  | some b => writeBank b v s
  | none =>
    if a = 0x108 then
      let s1 := (mine.filter (fun f => f.lo == 0)).foldl (storeField a v) s
      let s2 := if bit v.toNat 31 then startRequest s1 else s1
      if bit v.toNat 30 then effWarmReset iface s2 else s2
    else if a = 0x10C then effWdogKick s
    else if a = 0x10000 then writeTestEngine v s
    else if a = 0x20000 ∨ a = 0x20004 then writeCap a v s
    else if a = 0x20024 then
      effStateReqWrite iface (BitVec.ofNat 3 (bits v.toNat 31 29)) ((mine.filter (fun f => f.lo == 12)).foldl (storeField a v) s)
    else if a = 0x80000 then effPartitionRequest iface (BitVec.ofNat 8 (bits v.toNat 22 15)) (BitVec.ofNat 8 (bits v.toNat 14 7)) s
    else if a = 0x80208 then writeAlloc v s
    else if a = 0x80400 then effAttDoorbell (BitVec.ofNat 19 (bits v.toNat 18 0)) s
    else if a = 0xA0400 ∨ a = 0xA0420 then effTwSelWrite (if a = 0xA0400 then 0 else 1) v s
    else if a = 0xA0404 ∨ a = 0xA0424 then effTwIndexWrite (if a = 0xA0404 then 0 else 1) v s
    else if a = 0xC0008 then effAlertStatusWrite iface v s
    else if a = 0xC000C then { s with ev := { s.ev with mask := BitVec.ofNat 14 (v.toNat / 2 * 2) } }
    else if a = 0xC0100 then effEvRselWrite iface 0 v s
    else if a = 0xC0140 then effEvRselWrite iface 1 v s
    else if a = 0xC0180 then effEvRselWrite iface 2 v s
    else mine.foldl (storeField a v) s

/-- Does a write reach a field that its interface may not write (R505)? Over I3C also where the word has no field for it (DEDUCED, log entry 76). -/
def deniedWrite (iface : Iface) (a : Nat) (v : Word32) : Bool :=
  let fs := fieldsAt a
  let mine := fs.filter (fun f => f.who.contains iface)
  (mine.isEmpty && (iface == .i3c || !fs.isEmpty)) || (fs.filter (fun f => !f.who.contains iface)).any (fun f => f.bits v != 0)

/-- A register written by an interface (R505). -/
def writeCsr (iface : Iface) (a : Nat) (v : Word32) (s : State) : State :=
  if !blockOn s a then s
  else
    let s1 := if iface = .i3c && deniedWrite iface a v then bump 0x000C0018 1 s else s
    let mine := (fieldsAt a).filter (fun f => f.who.contains iface)
    if mine.isEmpty then s1 else actWrite iface a v mine s1

/-- CSR_WRITE (R505). -/
def effCsrWrite (iface : Iface) (a v : Word32) (s : State) : State := writeCsr iface a.toNat v s

/-- CSRR (R222): RD takes the register at the byte address, zero-extended. -/
def effCsrr (t : Who) (w : Head) (s : State) : State :=
  issue t (control 0x34 w (fld w 45 32 == 0) true)
    (fun s =>
      let r := readCsr .fw (fld w 31 0) s
      .pass (setG t (fld w 51 46) (BitVec.ofNat 64 r.1.toNat) r.2)) s

/-- CSRW (R222): the register takes RA[31:0]; a reset that the write causes leaves no thread to advance. -/
def effCsrw (t : Who) (w : Head) (s : State) : State :=
  issue t (control 0x35 w (fld w 45 32 == 0) true)
    (fun s =>
      let s1 := writeCsr .fw (fld w 31 0) (BitVec.ofNat 32 (s.g t (fld w 51 46)).toNat) s
      if (s1.thr t.num).state = .ready then .pass s1 else .stay s1) s

/-! I3C (R506). -/

/-- The transfer address set; one that is no multiple of 4 is refused and counted. -/
def setAddress (a : Nat) (s : State) : State :=
  if a % 4 = 0 then { s with side := { s.side with addr := a } } else bump 0x000C0018 1 s

/-- I3C_SET_ADDRESS (R506). -/
def effI3cSetAddress (a : Word32) (s : State) : State := if s.boot.powered then setAddress a.toNat s else s

/-- I3C_WRITE (R506): 4 bytes set the address; 8 bytes set it and write the register; anything else is refused and counted (DEDUCED, log entry 76). -/
def effI3cWrite (bytes : List Byte) (s : State) : State :=
  if !s.boot.powered then s
  else if bytes.length = 4 then setAddress (leNat bytes) s
  else if bytes.length = 8 ∧ leAt bytes 0 4 % 4 = 0 then
    writeCsr .i3c (leAt bytes 0 4) (BitVec.ofNat 32 (leAt bytes 4 4)) (setAddress (leAt bytes 0 4) s)
  else bump 0x000C0018 1 s

/-- Registers read one after another, with their bytes; the address advances after each. -/
def readRun : Nat → State → List Byte → State × List Byte
  | 0, s, out => (s, out)
  | n + 1, s, out =>
    let r := readCsr .i3c s.side.addr s
    readRun n { r.2 with side := { r.2.side with addr := (r.2.side.addr + 4) % 2 ^ 32 } } (out ++ leBytes 4 r.1.toNat)

/-- I3C_READ (R506). -/
def effI3cRead (count : Nat) (s : State) : State :=
  if s.boot.powered then
    let r := readRun count s []
    { r.1 with side := { r.1.side with out := r.2 } }
  else s

/-- CSRR (R222). -/
def execCsrr (t : Who) (w : Head) (s : State) : Host.Outcome State Fault Refusal := done (effCsrr t w s)
/-- CSRW (R222). -/
def execCsrw (t : Who) (w : Head) (s : State) : Host.Outcome State Fault Refusal := done (effCsrw t w s)
/-- I3C_SET_ADDRESS (R506). -/
def execI3cSetAddress (a : Word32) (s : State) : Host.Outcome State Fault Refusal := done (effI3cSetAddress a s)
/-- I3C_WRITE (R506). -/
def execI3cWrite (bytes : List Byte) (s : State) : Host.Outcome State Fault Refusal := done (effI3cWrite bytes s)
/-- I3C_READ (R506). -/
def execI3cRead (count : Nat) (s : State) : Host.Outcome State Fault Refusal := done (effI3cRead count s)
/-- TW_SEL_WRITE (R509). -/
def execTwSelWrite (w : Fin 2) (v : Word32) (s : State) : Host.Outcome State Fault Refusal := done (effTwSelWrite w v s)
/-- TW_INDEX_WRITE (R509). -/
def execTwIndexWrite (w : Fin 2) (v : Word32) (s : State) : Host.Outcome State Fault Refusal := done (effTwIndexWrite w v s)
/-- TW_DATA_READ (R509). -/
def execTwDataRead (w : Fin 2) (s : State) : Host.Outcome State Fault Refusal := done (effTwDataRead w s)
/-- TILE_FETCH_DONE (R509). -/
def execTileFetchDone (w : Fin 2) (s : State) : Host.Outcome State Fault Refusal := done (effTileFetchDone w s)
/-- EV_RSEL_WRITE (R514). -/
def execEvRselWrite (iface : Iface) (set : Fin 3) (seq : Word32) (s : State) : Host.Outcome State Fault Refusal := done (effEvRselWrite iface set seq s)
/-- ALERT_STATUS_WRITE (R507). -/
def execAlertStatusWrite (iface : Iface) (v : Word32) (s : State) : Host.Outcome State Fault Refusal := done (effAlertStatusWrite iface v s)
/-- CSR_WRITE (R505). -/
def execCsrWrite (iface : Iface) (a v : Word32) (s : State) : Host.Outcome State Fault Refusal := done (effCsrWrite iface a v s)

end Sys2Proof.Machine
end

