-- ==== Sys2Proof/Machine/Mgmt.lean ====
section
/-! DEFINITION. MGMT operations 0x0001 to 0x000C: registers, packages, models, the store's format, logs, firmware, shutdown, sessions
and fronts (R320, R325, R326, R380, R384, R400, R420 to R422, R473, R476, R477). -/

namespace Sys2Proof.Machine

/-! Registers (R380, R505). -/

/-- MGMT_READ_CSR. -/
def effMgmtReadCsr (h : Word32) (addr : Word32) (s : State) : State :=
  onMgmt h 0x0001 (fun i s =>
    let r := readCsr .mgmt addr.toNat s
    sendReply i 0x0001 0 (beBytes 4 r.1.toNat) r.2) s

/-- Does a write ask for a partition that does not fit (R290)? (DEDUCED, log entry 77) -/
def badPartition (s : State) (a : Nat) (v : Word32) : Bool :=
  a == 0x80000 && !partitionOk s (bits v.toNat 22 15) (bits v.toNat 14 7)

/-- MGMT_WRITE_CSR: a write that the fields' access codes deny has status BAD_PARAMS (DEDUCED, log entry 61). -/
def effMgmtWriteCsr (h : Word32) (addr value : Word32) (s : State) : State :=
  onMgmt h 0x0002 (fun i s =>
    if deniedWrite .mgmt addr.toNat value || badPartition s addr.toNat value then sendReply i 0x0002 badParams [] (writeCsr .mgmt addr.toNat value s)
    else writeCsr .mgmt addr.toNat value (if addr = 0x108 then replyNow i 0x0002 0 [] s else sendReply i 0x0002 0 [] s)) s

/-! Packages (R326, R327, R332, R422). -/

/-- The next free band boundary of MODEL, as a logical page: a package's bands are its own (R323) (DEDUCED, log entry 79). -/
def nextModelPage (s : State) : Nat :=
  let ends := (s.store.objects.filter (fun o => o.region == 4)).map (fun o => o.first + o.pages)
  ceilDiv (ends.foldl Nat.max 0) s.store.bandPages * s.store.bandPages

/-- Pages of MODEL (DEDUCED, log entry 79). -/
def modelPages (s : State) : Nat := (s.store.bands.filter (fun e => e.2 == 4)).length * s.store.bandPages

/-- The objects of a package's files, one after another (R326) (DESIGN CHOICE, log entry 80). -/
def packageObjects (salt : Nat) : Nat → List (Nat × Nat) → List StoreObj
  | _, [] => []
  | first, (id, pages) :: r =>
    { id := id, region := 4, first := first, pages := pages, writePoint := 0, grants := Config.objectGrants id, openWrite := true, salt := salt }
      :: packageObjects salt (first + pages) r

/-- The bands of MODEL that hold some pages from one on. -/
def modelBands (s : State) (first pages : Nat) : List Nat :=
  ((List.range (ceilDiv pages s.store.bandPages)).map (fun j => nthD 0 (s.store.regionBands 4) (first / s.store.bandPages + j)))

/-- MGMT_INSTALL_BEGIN (R326): refused while another install is open, on a degraded store (R332), for an id in use, and past MODEL's end (DEDUCED, log entry 78). The package's striping salt is drawn (R428), and bands that hold another's pages are erased
(R327). -/
def effMgmtInstallBegin (h : Word32) (files : List (Nat × Nat)) (s : State) : State :=
  onMgmt h 0x0003 (fun i s =>
    let ids := files.map Prod.fst
    if s.store.install.isSome then sendReply i 0x0003 busy [] s
    else if s.storeState ≠ 2 ∨ files.isEmpty ∨ !ids.Nodup ∨ ids.any (fun d => (s.object? d).isSome || decide (2 ^ 32 ≤ d)) then
      sendReply i 0x0003 badParams [] s
    else if modelPages s < nextModelPage s + sumOf (files.map Prod.snd) then sendReply i 0x0003 capacity [] s
    else
      sendReply i 0x0003 0 [] (onStore (fun x => { x with
        objects := x.objects ++ packageObjects s.drawn (nextModelPage s) files, install := some ids })
        (skipFree 1 (prepareBands (modelBands s (nextModelPage s) (sumOf (files.map Prod.snd))) s)))) s

/-- MGMT_INSTALL_DATA (R326): bytes at the object's write point. -/
def effMgmtInstallData (h : Word32) (object : Nat) (data : List Byte) (s : State) : State :=
  onMgmt h 0x0004 (fun i s =>
    match (s.object? object).filter (fun o => s.store.install.any (fun l => l.contains o.id)) with
    | some o =>
      if s.storeState ≠ 2 ∨ o.pages < o.writePoint + ceilDiv data.length 4096 then sendReply i 0x0004 badParams [] s
      else sendReply i 0x0004 0 [] (writeObject o.id (o.writePoint * 4096) data s)
    | none => sendReply i 0x0004 badParams [] s) s

/-- A level of the Merkle tree over the one below; a node without a partner passes up unchanged (R422). -/
def merkleLevel : List Nat → List Nat
  | a :: b :: r => Config.sha512 (1#8 :: beBytes 64 a ++ beBytes 64 b) :: merkleLevel r
  | l => l

/-- The root of a level, in at most so many levels. -/
def merkleUp : Nat → List Nat → Nat
  | n + 1, a :: b :: r => merkleUp n (merkleLevel (a :: b :: r))
  | _, l => l.headD 0

/-- The Merkle root of a manifest's digests (R422). -/
def merkleRoot (digests : List Nat) : Nat :=
  merkleUp digests.length (digests.map (fun d => Config.sha512 (0#8 :: beBytes 64 d)))

/-- Is every file written whole, with the digest its manifest states (R422)? -/
def filesMatch (s : State) (ids : List Nat) (files : List PkgFile) : Bool :=
  files.map PkgFile.objectId == ids && files.all (fun f => match s.object? f.objectId with
    | some o => o.writePoint == o.pages && o.pages == f.pages && f.digest == Config.sha512 (objectBytes s o 0 (o.pages * 4096))
    | none => false)

/-- The delegation a publisher's block is signed under; 0 for an owner's (R416). -/
def delegUsed (s : State) (b : List Byte) (model : Nat) : Nat :=
  if signer b = 2 then
    match s.sec.delegs.find? (fun d => d.pubHash == keyHash b && (d.model == 0 || d.model == model)) with
    | some d => d.id
    | none => 0
  else 0

/-- A package refused at commit: the install is discarded (R422) (DEDUCED, log entry 81). -/
def refusePackage (i check : Nat) (s : State) : State :=
  sendReply i 0x0005 badParams (if check = 0 then [] else beBytes 1 check)
    (raise { code := 0x0A09 } { (if check = 0 then s else refuseSig s) with store := dropInstall s.store })

/-- MGMT_INSTALL_COMMIT (R326, R418, R420, R422). Check 6 is R420's (DEDUCED, log entry 81). -/
def effMgmtInstallCommit (h : Word32) (manifest : SignedObj) (files : List PkgFile) (root svn modelId : Nat) (s : State) : State :=
  onMgmt h 0x0005 (fun i s =>
    match s.store.install with
    | none => sendReply i 0x0005 badParams [] s
    | some ids =>
      if !filesMatch s ids files || root != merkleRoot (files.map PkgFile.digest) then refusePackage i 0 s
      else
        match signedCheck s manifest (fun k => k == 1 || k == 2) modelId with
        | some n => refusePackage i n s
        | none =>
          if svn < s.sec.fuses.pkgMin then refusePackage i 6 s
          else
            let p : Package := { root := root, svn := svn, model := modelId, deleg := delegUsed s (sigBlock manifest.bytes) modelId,
                                 slot := (currentOwner s).getD 0, objects := ids }
            sendReply i 0x0005 0 [] (onStore (fun x => { x with
              install := none, packages := p :: x.packages,
              objects := x.objects.map (fun o => if ids.contains o.id then { o with openWrite := false, pkg := root } else o) }) s)) s

/-! Models (R415, R416, R420, R473). -/

/-- The model unloaded: client sessions close with MODEL_UNLOADED (DEDUCED, log entry 82). -/
def dropModel (s : State) : State := unloadModels (closeWhere (fun x => x.kind == 0 && x.state != .free) 0x0016 s)

/-- May a package load: its owner's seed still current (R415), its delegation live (R416), its PKG_SVN not below the minimum (R420)? -/
def loadable (s : State) (p : Package) : Bool :=
  currentOwner s == some p.slot && (p.deleg == 0 || s.sec.delegs.any (fun d => d.id == p.deleg)) && decide (s.sec.fuses.pkgMin ≤ p.svn)

/-- A load refused: BOO_NO_MODEL where it is the default model's. -/
def refuseLoad (i status : Nat) (isDefault : Bool) (s : State) : State :=
  sendReply i 0x0006 status [] (if isDefault then raise { code := 0x0D03 } s else s)

/-- MGMT_LOAD_MODEL (R182, R473). A loaded model gives way to the new one (DEDUCED, log entry 82). -/
def effMgmtLoadModel (h : Word32) (load autoload : Bool) (root : Nat) (s : State) : State :=
  onMgmt h 0x0006 (fun i s =>
    let isDefault := autoload || s.test.health.autoload == some root
    if !load then
      if s.bat.model.isSome then sendReply i 0x0006 0 [] (dropModel s) else sendReply i 0x0006 7 [] s
    else if s.bootState ≠ 8 then sendReply i 0x0006 busy [] s
    else
      match s.store.packages.find? (fun p => p.root == root) with
      | none => refuseLoad i 7 isDefault s
      | some p =>
        if s.storeState ≠ 2 ∧ s.storeState ≠ 3 then refuseLoad i 7 isDefault s
        else if !loadable s p then refuseLoad i badParams isDefault (raise { code := 0x0A09 } s)
        else
          let s1 := takeModel p (if s.bat.model.isSome then dropModel s else s)
          sendReply i 0x0006 0 [] (if autoload then { s1 with test := { s1.test with health := { s1.test.health with autoload := some root } } } else s1)) s

/-! Formatting (R320, R325, R330). -/

/-- The block of a channel that takes the format record: the first good block of LUN 0 of chip enable 0, or of the first accepted LUN
where that one is not accepted (R320) (DESIGN CHOICE, log entry 151). -/
def recordBlock (s : State) (c : Nat) : Option NandBlock :=
  let l := s.store.blocksOf s.store.luns c
  match l.find? (fun b => b.ce == 0 && b.lun == 0) with
  | some b => some b
  | none => l.head?

/-- A channel's good blocks for bands and spares, in the order in which format takes them (DESIGN CHOICE, log entry 151). -/
def formatBlocks (s : State) (c : Nat) : List NandBlock :=
  sortBy (fun b => Config.blockOrder c b.ce b.lun b.block) ((s.store.blocksOf s.store.luns c).filter (fun b => recordBlock s c != some b))

/-- Spare blocks of a channel: SPARE_PCT of its good blocks (R325). -/
def spareCount (s : State) (c : Nat) : Nat := s.store.channelBlocks c * s.field 0x00070008 25 22 / 100

/-- Bands that the channels' good blocks make, less SPARE_PCT and the format record's (R325) (DEDUCED, log entry 83). -/
def bandCount (s : State) : Nat :=
  ((sortBy id ((List.range 32).map (fun c => (formatBlocks s c).length - spareCount s c))).head?).getD 0

/-- The region of each band (Table STO-5): two of FIRMWARE, two of HEALTH, SPILL_PCT of the rest SPILL, the others MODEL (DEDUCED, log entry 83). -/
def bandRegions (s : State) : List (Nat × Nat) :=
  let n := bandCount s
  let spill := (n - 4) * s.field 0x00070008 31 26 / 100
  (List.range n).map (fun b => (b, if b < 2 then 1 else if b < 4 then 2 else if b < 4 + spill then 3 else 4))

/-- The regions written empty: what was written is erased, the band table built, the device salt drawn; objects, packages and what
HEALTH held are gone. -/
def formatStore (s0 : State) : State :=
  let s := (s0.store.dirty ++ s0.store.written.map (nthD 0 (s0.store.regionBands 3))).foldl (fun u b => eraseBand b u) s0
  let n := bandCount s
  let blocks (c : Nat) : List NandBlock := formatBlocks s c
  let s1 := setWord 0x00070014 0 { s with
    store := { s.store with
      formatted := true, recorded := List.range 32, objects := [], packages := [], data := [], install := none,
      recordAt := (List.range 32).filterMap (fun c => (recordBlock s c).map (fun b => (c, b)))
      table := ((List.range n).map (fun b => (List.range 32).map (fun c => (b * 32 + c, nthD ⟨0, 0, 0⟩ (blocks c) b)))).flatten
      spares := (List.range 32).map (fun c => (c, ((blocks c).drop n).take (spareCount s c)))
      salt := s.drawn, dirty := []
      relocating := [], reads := [], bands := bandRegions s, head := none, logSlots := 0, written := [], spilling := [], patrols := [], late := [] }
    kv := { s.kv with slots := [] }
    sec := { s.sec with store := [], delegs := [] }
    test := { s.test with health := { s.test.health with ops := [], autoload := none } } }
  let s2 := (List.range 32).foldl (fun u c => showSpares c u) (skipFree 1 s1)
  setField 0x00070000 31 29 (if s2.store.failed.isEmpty then 2 else 3) s2

/-- MGMT_FORMAT_STORE (R320): not while the store discovers or an install is open; a channel without an accepted LUN refuses it. -/
def effMgmtFormatStore (h : Word32) (s : State) : State :=
  onMgmt h 0x0007 (fun i s =>
    if s.storeState = 0 ∨ s.store.install.isSome then sendReply i 0x0007 busy [] s
    else if s.storeState = 4 ∨ (List.range 32).any (fun c => s.store.channelBlocks c == 0) then
      sendReply i 0x0007 badParams [] (raise { code := 0x0602 } s)
    else sendReply i 0x0007 0 [] (formatStore s)) s

/-! Logs, firmware and shutdown (R380, R420, R421, R476, R477). -/

/-- The values of an event record and of the health record that a reply carries (DESIGN CHOICE, log entry 86). -/
def logValues (s : State) (seq : Nat) : List Nat :=
  ((s.ev.ring.filter (fun e => e.seq == seq)).map eventWords).flatten
    ++ (match s.test.health.record with
        | some r => [r.kind, r.seq, r.lc, r.aotime, r.svn, r.hours, r.testMs]
        | none => [])
    ++ (s.test.health.entries.map (fun e => e.typ :: e.args)).flatten

/-- MGMT_READ_LOG (R380). -/
def effMgmtReadLog (h : Word32) (seq : Word32) (s : State) : State :=
  onMgmt h 0x0008 (fun i s => sendReply i 0x0008 0 (Config.replyLayout 0x0008 (logValues s seq.toNat)) s) s

/-- MGMT_STAGE_FIRMWARE (R418, R420, R421): into the inactive store and NOR slots, marked TRY. Check 6 is R420's (DEDUCED, log entry 84). -/
def effMgmtStageFirmware (h : Word32) (image : SignedObj) (svn : Nat) (s : State) : State :=
  onMgmt h 0x0009 (fun i s =>
    match signedCheck s image (· == 0) 0 with
    | some n => sendReply i 0x0009 badParams (beBytes 1 n) (refuseSig s)
    | none =>
      if svn < s.sec.fuses.fwMin then sendReply i 0x0009 badParams (beBytes 1 6) (refuseSig s)
      else if s.storeState ≠ 2 ∧ s.storeState ≠ 3 then sendReply i 0x0009 badParams [] s
      else
        let k := 1 - s.sec.active
        let e : Nat × FwImage := (k, { svn := svn, digest := Config.sha512 image.bytes })
        let band := nthD 0 (s.store.regionBands 1) k
        let s := onStore (fun x => { x with dirty := addOnce x.dirty band }) (prepareBands [band] s)
        sendReply i 0x0009 0 [] { s with sec := { s.sec with
          nor := s.sec.nor.filter (fun x => x.1 != k) ++ [e], store := s.sec.store.filter (fun x => x.1 != k) ++ [e], try_ := some k } }) s

/-- MGMT_SHUTDOWN (R476, R477): the drain begins; its reply leaves in the close stage. A second one with RESTART is a start request (DEDUCED, log entry 53; DEDUCED, log entry 85). -/
def effMgmtShutdown (h : Word32) (restart skipDownpour : Bool) (s : State) : State :=
  onMgmt h 0x000A (fun i s =>
    if s.boot.shutdown ≠ 0 then
      if restart then sendReply i 0x000A 0 [] (startRequest s) else sendReply i 0x000A busy [] s
    else if s.bootState ≠ 8 ∨ s.store.install.isSome then sendReply i 0x000A busy [] s
    else
      setBootState 9 (onBoot (fun b => { b with
        shutdown := 1, restart := restart, skipDownpour := skipDownpour, shutBy := s.handle i, shutAt := s.now })
        s)) s

/-! Sessions (R380). -/

/-- What a list of sessions tells of one (Table NET-15). -/
def sessionValues (s : State) (i : Nat) : List Nat :=
  let x := s.sess i
  [s.handle i, x.kind, b01 x.fidelity, x.district, x.state.code, x.pos, x.pending, x.generated]

/-- MGMT_SESSIONS: a list, or a session closed with OPERATOR_CLOSE; where it is this one its reply leaves first. -/
def effMgmtSessions (h : Word32) (closeHandle : Option Word32) (s : State) : State :=
  onMgmt h 0x000B (fun i s =>
    match closeHandle with
    | none =>
      sendReply i 0x000B 0 (Config.replyLayout 0x000B ((sessionsWhere s (fun x => x.state != .free)).map (sessionValues s)).flatten) s
    | some c =>
      match s.live? c.toNat with
      | some j => beginClose j 0x0014 (replyNow i 0x000B 0 [] s)
      | none => sendReply i 0x000B badParams [] s) s

/-! Fronts (R384, R385, R400). -/

/-- The entries of a configuration record (Table FRO-1) (DEDUCED, log entry 87). -/
def recordEntries (record : List Byte) (n : Nat) : List FrontEntry :=
  (List.range n).map (fun k => { addr := beAt record (80 + 84 * k) 16, port := beAt record (96 + 84 * k) 2, akHash := beAt record (100 + 84 * k) 64 })

/-- May this member take a configuration record (R384)? (DEDUCED, log entry 87) -/
def frontRecordOk (s : State) (record : List Byte) : Bool :=
  let n := beAt record 8 1
  let r := beAt record 9 1
  decide (2 ≤ n) && decide (n ≤ 32) && decide (r < n) && record.length == 80 + 84 * n
    && s.bat.model.any (fun m => m.1 == beAt record 16 64)
    && (recordEntries record n)[r]?.any (fun e => e.akHash == akHash s)
    && decide (4224 ≤ s.field 0x0005000C 13 0) && s.frontSize == 0

/-- A configuration refused (R384). -/
def refuseFront (i : Nat) (s : State) : State := sendReply i 0x000C badParams [] (raise { code := 0x0908 } s)

/-- MGMT_FRONT_CONFIGURE (R384, R385): the front forms; this member opens its sessions to the ranks above it. -/
def effMgmtFrontConfigure (h : Word32) (record : List Byte) (s : State) : State :=
  onMgmt h 0x000C (fun i s =>
    if !frontRecordOk s record then refuseFront i s
    else
      let n := beAt record 8 1
      let r := beAt record 9 1
      let id := beAt record 0 8
      let f : Front := { entries := recordEntries record n, digest := Config.sha512 (record.take 9 ++ 0#8 :: record.drop 10),
                         root := beAt record 16 64, configuredAt := s.now }
      let s1 := setWord 0x00060100 (BitVec.ofNat 32 (2 ^ 29 + r * 2 ^ 24 + n * 2 ^ 18 + s.field 0x00060100 17 17 * 2 ^ 17)) { s with front := f }
      let s2 := setWord 0x00060114 (BitVec.ofNat 32 (id / 2 ^ 32)) (setWord 0x00060110 (BitVec.ofNat 32 id)
        (setWord 0x0006010C 0 (setWord 0x00060108 (BitVec.ofNat 32 (2 ^ r)) (setWord 0x00060104 0 s1))))
      sendReply i 0x000C 0 [] (((List.range n).filter (fun k => decide (r < k))).foldl (fun u k => openPeer k 0 u) s2)) s

/-- MGMT_FRONT_SET_EPOCH (R400): the epoch that a suspended or restarted member is to join (DEDUCED, log entry 89). -/
def effMgmtFrontSetEpoch (h : Word32) (epoch : Word32) (s : State) : State :=
  onMgmt h 0x000C (fun i s =>
    if s.frontSize ≠ 0 ∧ (s.fstate = 4 ∨ s.front.restarted) then
      sendReply i 0x000C 0 [] (onFront (fun f => { f with written := some epoch.toNat }) s)
    else sendReply i 0x000C badParams [] s) s

/-- MGMT_FRONT_DISSOLVE (R384): PEER sessions close; suspended client sessions return to OPEN (DEDUCED, log entry 88). -/
def effMgmtFrontDissolve (h : Word32) (s : State) : State :=
  onMgmt h 0x000C (fun i s =>
    if s.frontSize = 0 then refuseFront i s
    else
      let s1 := closeWhere (fun x => x.kind == 1 && x.state != .free) 0x0014 s
      let s2 := (sessionsWhere s1 (fun x => x.state == .suspended)).foldl (fun u j => onSess j (fun x => { x with state := .opened }) u) s1
      let s3 := [0x00060104, 0x00060108, 0x0006010C, 0x00060110, 0x00060114].foldl (fun u a => setWord a 0 u) { s2 with front := {} }
      sendReply i 0x000C 0 [] (setField 0x00060100 31 18 0 s3)) s

/-- MGMT_READ_CSR (R380). -/
def execMgmtReadCsr (h : Word32) (addr : Word32) (s : State) : Host.Outcome State Fault Refusal := done (effMgmtReadCsr h addr s)
/-- MGMT_WRITE_CSR (R380). -/
def execMgmtWriteCsr (h : Word32) (addr value : Word32) (s : State) : Host.Outcome State Fault Refusal := done (effMgmtWriteCsr h addr value s)
/-- MGMT_INSTALL_BEGIN (R326). -/
def execMgmtInstallBegin (h : Word32) (files : List (Nat × Nat)) (s : State) : Host.Outcome State Fault Refusal := done (effMgmtInstallBegin h files s)
/-- MGMT_INSTALL_DATA (R326). -/
def execMgmtInstallData (h : Word32) (object : Nat) (data : List Byte) (s : State) : Host.Outcome State Fault Refusal := done (effMgmtInstallData h object data s)
/-- MGMT_INSTALL_COMMIT (R422). -/
def execMgmtInstallCommit (h : Word32) (manifest : SignedObj) (files : List PkgFile) (root svn modelId : Nat) (s : State) : Host.Outcome State Fault Refusal := done (effMgmtInstallCommit h manifest files root svn modelId s)
/-- MGMT_LOAD_MODEL (R473). -/
def execMgmtLoadModel (h : Word32) (load autoload : Bool) (root : Nat) (s : State) : Host.Outcome State Fault Refusal := done (effMgmtLoadModel h load autoload root s)
/-- MGMT_FORMAT_STORE (R320). -/
def execMgmtFormatStore (h : Word32) (s : State) : Host.Outcome State Fault Refusal := done (effMgmtFormatStore h s)
/-- MGMT_READ_LOG (R380). -/
def execMgmtReadLog (h : Word32) (seq : Word32) (s : State) : Host.Outcome State Fault Refusal := done (effMgmtReadLog h seq s)
/-- MGMT_STAGE_FIRMWARE (R421). -/
def execMgmtStageFirmware (h : Word32) (image : SignedObj) (svn : Nat) (s : State) : Host.Outcome State Fault Refusal := done (effMgmtStageFirmware h image svn s)
/-- MGMT_SHUTDOWN (R476). -/
def execMgmtShutdown (h : Word32) (restart skipDownpour : Bool) (s : State) : Host.Outcome State Fault Refusal := done (effMgmtShutdown h restart skipDownpour s)
/-- MGMT_SESSIONS (R380). -/
def execMgmtSessions (h : Word32) (closeHandle : Option Word32) (s : State) : Host.Outcome State Fault Refusal := done (effMgmtSessions h closeHandle s)
/-- MGMT_FRONT_CONFIGURE (R384). -/
def execMgmtFrontConfigure (h : Word32) (record : List Byte) (s : State) : Host.Outcome State Fault Refusal := done (effMgmtFrontConfigure h record s)
/-- MGMT_FRONT_SET_EPOCH (R400). -/
def execMgmtFrontSetEpoch (h : Word32) (epoch : Word32) (s : State) : Host.Outcome State Fault Refusal := done (effMgmtFrontSetEpoch h epoch s)
/-- MGMT_FRONT_DISSOLVE (R384). -/
def execMgmtFrontDissolve (h : Word32) (s : State) : Host.Outcome State Fault Refusal := done (effMgmtFrontDissolve h s)

end Sys2Proof.Machine
end

