-- ==== Sys2Proof/Machine/Dispatch.lean ====
section
/-! DEFINITION. One arm for each command: its meaning. -/

namespace Sys2Proof.Machine

/-- The effect of a command on everything but the queue. -/
def exec (i : Instr) (s : State) : Host.Outcome State Fault Refusal :=
  match i with
  | .nop t w => Sys2Proof.Machine.execNop t w s
  | .b t w => Sys2Proof.Machine.execB t w s
  | .call t w => Sys2Proof.Machine.execCall t w s
  | .jr t w => Sys2Proof.Machine.execJr t w s
  | .loop t w => Sys2Proof.Machine.execLoop t w s
  | .cmp t w => Sys2Proof.Machine.execCmp t w s
  | .cmpi t w => Sys2Proof.Machine.execCmpi t w s
  | .pand t w => Sys2Proof.Machine.execPand t w s
  | .por t w => Sys2Proof.Machine.execPor t w s
  | .pxor t w => Sys2Proof.Machine.execPxor t w s
  | .pandn t w => Sys2Proof.Machine.execPandn t w s
  | .add t w => Sys2Proof.Machine.execAdd t w s
  | .sub t w => Sys2Proof.Machine.execSub t w s
  | .mul t w => Sys2Proof.Machine.execMul t w s
  | .mulhu t w => Sys2Proof.Machine.execMulhu t w s
  | .divu t w => Sys2Proof.Machine.execDivu t w s
  | .remu t w => Sys2Proof.Machine.execRemu t w s
  | .and t w => Sys2Proof.Machine.execAnd t w s
  | .or t w => Sys2Proof.Machine.execOr t w s
  | .xor t w => Sys2Proof.Machine.execXor t w s
  | .shl t w => Sys2Proof.Machine.execShl t w s
  | .shr t w => Sys2Proof.Machine.execShr t w s
  | .sar t w => Sys2Proof.Machine.execSar t w s
  | .min t w => Sys2Proof.Machine.execMin t w s
  | .max t w => Sys2Proof.Machine.execMax t w s
  | .minu t w => Sys2Proof.Machine.execMinu t w s
  | .maxu t w => Sys2Proof.Machine.execMaxu t w s
  | .addi t w => Sys2Proof.Machine.execAddi t w s
  | .andi t w => Sys2Proof.Machine.execAndi t w s
  | .ori t w => Sys2Proof.Machine.execOri t w s
  | .xori t w => Sys2Proof.Machine.execXori t w s
  | .shli t w => Sys2Proof.Machine.execShli t w s
  | .shri t w => Sys2Proof.Machine.execShri t w s
  | .sari t w => Sys2Proof.Machine.execSari t w s
  | .li t w => Sys2Proof.Machine.execLi t w s
  | .lui t w => Sys2Proof.Machine.execLui t w s
  | .ld64 t w => Sys2Proof.Machine.execLd64 t w s
  | .ld32 t w => Sys2Proof.Machine.execLd32 t w s
  | .st64 t w => Sys2Proof.Machine.execSt64 t w s
  | .st32 t w => Sys2Proof.Machine.execSt32 t w s
  | .yield t w => Sys2Proof.Machine.execYield t w s
  | .trap t w => Sys2Proof.Machine.execTrap t w s
  | .eret t w => Sys2Proof.Machine.execEret t w s
  | .halt t w => Sys2Proof.Machine.execHalt t w s
  | .csrr t w => Sys2Proof.Machine.execCsrr t w s
  | .csrw t w => Sys2Proof.Machine.execCsrw t w s
  | .pload t w => Sys2Proof.Machine.execPload t w s
  | .ploadDone c tag onCurve sigOk => Sys2Proof.Machine.execPloadDone c tag onCurve sigOk s
  | .tstart t w => Sys2Proof.Machine.execTstart t w s
  | .tstartRelease t => Sys2Proof.Machine.execTstartRelease t s
  | .tkill t w => Sys2Proof.Machine.execTkill t w s
  | .threadStopped t => Sys2Proof.Machine.execThreadStopped t s
  | .tid t w => Sys2Proof.Machine.execTid t w s
  | .punload t w => Sys2Proof.Machine.execPunload t w s
  | .punloadRelease t => Sys2Proof.Machine.execPunloadRelease t s
  | .waitAll t w => Sys2Proof.Machine.execWaitAll t w s
  | .waitAny t w => Sys2Proof.Machine.execWaitAny t w s
  | .waitRelease t => Sys2Proof.Machine.execWaitRelease t s
  | .fence t w => Sys2Proof.Machine.execFence t w s
  | .fenceRelease t => Sys2Proof.Machine.execFenceRelease t s
  | .tstat t w => Sys2Proof.Machine.execTstat t w s
  | .descCreate t w => Sys2Proof.Machine.execDescCreate t w s
  | .descDrop t w => Sys2Proof.Machine.execDescDrop t w s
  | .descDropRelease t => Sys2Proof.Machine.execDescDropRelease t s
  | .dmaCopy t w => Sys2Proof.Machine.execDmaCopy t w s
  | .dmaCopyDone c tag env => Sys2Proof.Machine.execDmaCopyDone c tag env s
  | .storeRead t w => Sys2Proof.Machine.execStoreRead t w s
  | .storeReadDone c tag reads failedChannel => Sys2Proof.Machine.execStoreReadDone c tag reads failedChannel s
  | .storeWrite t w => Sys2Proof.Machine.execStoreWrite t w s
  | .storeWriteDone c tag failedUnit failedChannel => Sys2Proof.Machine.execStoreWriteDone c tag failedUnit failedChannel s
  | .netSend t w => Sys2Proof.Machine.execNetSend t w s
  | .netSendDone c tag => Sys2Proof.Machine.execNetSendDone c tag s
  | .netRecv t w => Sys2Proof.Machine.execNetRecv t w s
  | .netRecvDone c tag => Sys2Proof.Machine.execNetRecvDone c tag s
  | .load t w => Sys2Proof.Machine.execLoad t w s
  | .loadComplete c tag => Sys2Proof.Machine.execLoadComplete c tag s
  | .unload t w => Sys2Proof.Machine.execUnload t w s
  | .unloadComplete c tag => Sys2Proof.Machine.execUnloadComplete c tag s
  | .sweep t w w1 w2 w3 => Sys2Proof.Machine.execSweep t w w1 w2 w3 s
  | .sweepEnqueue t => Sys2Proof.Machine.execSweepEnqueue t s
  | .sweepStart => Sys2Proof.Machine.execSweepStart s
  | .sweepFinishHoldFree c tag => Sys2Proof.Machine.execSweepFinishHoldFree c tag s
  | .sweepRowScale c tag row => Sys2Proof.Machine.execSweepRowScale c tag row s
  | .outputTileSend c tag token0 vec0 ntile => Sys2Proof.Machine.execOutputTileSend c tag token0 vec0 ntile s
  | .sweepDone c tag env => Sys2Proof.Machine.execSweepDone c tag env s
  | .vbin t w => Sys2Proof.Machine.execVbin t w s
  | .vun t w => Sys2Proof.Machine.execVun t w s
  | .vcvt t w => Sys2Proof.Machine.execVcvt t w s
  | .vscale t w => Sys2Proof.Machine.execVscale t w s
  | .vfill t w => Sys2Proof.Machine.execVfill t w s
  | .redSum t w => Sys2Proof.Machine.execRedSum t w s
  | .redSumsq t w => Sys2Proof.Machine.execRedSumsq t w s
  | .redMeanvar t w => Sys2Proof.Machine.execRedMeanvar t w s
  | .redMax t w => Sys2Proof.Machine.execRedMax t w s
  | .redTopk t w => Sys2Proof.Machine.execRedTopk t w s
  | .gather t w => Sys2Proof.Machine.execGather t w s
  | .scatterAdd t w => Sys2Proof.Machine.execScatterAdd t w s
  | .xposeNet t w => Sys2Proof.Machine.execXposeNet t w s
  | .xposeStride t w => Sys2Proof.Machine.execXposeStride t w s
  | .route t w w1 => Sys2Proof.Machine.execRoute t w w1 s
  | .forecast t w w1 => Sys2Proof.Machine.execForecast t w w1 s
  | .tensorOpComplete c tag env => Sys2Proof.Machine.execTensorOpComplete c tag env s
  | .sessTokenize t w => Sys2Proof.Machine.execSessTokenize t w s
  | .sessDetokenize t w => Sys2Proof.Machine.execSessDetokenize t w s
  | .sessSample t w => Sys2Proof.Machine.execSessSample t w s
  | .sessBind t w => Sys2Proof.Machine.execSessBind t w s
  | .sessKvmap t w => Sys2Proof.Machine.execSessKvmap t w s
  | .sessClose t w => Sys2Proof.Machine.execSessClose t w s
  | .refreshDue p row => Sys2Proof.Machine.execRefreshDue p row s
  | .refreshDeadline p row => Sys2Proof.Machine.execRefreshDeadline p row s
  | .refreshRowDone p row => Sys2Proof.Machine.execRefreshRowDone p row s
  | .rowReloadDone p row => Sys2Proof.Machine.execRowReloadDone p row s
  | .tempSensorRead readings comparators => Sys2Proof.Machine.execTempSensorRead readings comparators s
  | .refreshBandFall p => Sys2Proof.Machine.execRefreshBandFall p s
  | .recalAgeDue p => Sys2Proof.Machine.execRecalAgeDue p s
  | .idleWindow => Sys2Proof.Machine.execIdleWindow s
  | .forcedRecal p => Sys2Proof.Machine.execForcedRecal p s
  | .recalPassDone p => Sys2Proof.Machine.execRecalPassDone p s
  | .recalRetry p => Sys2Proof.Machine.execRecalRetry p s
  | .remapFetchDone p col => Sys2Proof.Machine.execRemapFetchDone p col s
  | .repairMapSwitch p col => Sys2Proof.Machine.execRepairMapSwitch p col s
  | .tokenStepForm => Sys2Proof.Machine.execTokenStepForm s
  | .switchAgeExpiry district => Sys2Proof.Machine.execSwitchAgeExpiry district s
  | .dwellExpiry slot => Sys2Proof.Machine.execDwellExpiry slot s
  | .districtLoadStart => Sys2Proof.Machine.execDistrictLoadStart s
  | .districtLoadDone => Sys2Proof.Machine.execDistrictLoadDone s
  | .mirrorWindowEnd => Sys2Proof.Machine.execMirrorWindowEnd s
  | .mirrorLoadDone layer expert inst => Sys2Proof.Machine.execMirrorLoadDone layer expert inst s
  | .thetaRetune layer => Sys2Proof.Machine.execThetaRetune layer s
  | .allocCreate kind program => Sys2Proof.Machine.execAllocCreate kind program s
  | .allocRelease handle => Sys2Proof.Machine.execAllocRelease handle s
  | .bankStateRequest b state => Sys2Proof.Machine.execBankStateRequest b state s
  | .bankTransitionDone b => Sys2Proof.Machine.execBankTransitionDone b s
  | .bankOwnerWrite b owner => Sys2Proof.Machine.execBankOwnerWrite b owner s
  | .partitionRequest iface stageGib kvGib => Sys2Proof.Machine.execPartitionRequest iface stageGib kvGib s
  | .softFaultFetchDone page readStep headerOk => Sys2Proof.Machine.execSoftFaultFetchDone page readStep headerOk s
  | .kvSpillDone session entry => Sys2Proof.Machine.execKvSpillDone session entry s
  | .hotspotCheck queues => Sys2Proof.Machine.execHotspotCheck queues s
  | .attDoorbell offset => Sys2Proof.Machine.execAttDoorbell offset s
  | .attentionJobStart => Sys2Proof.Machine.execAttentionJobStart s
  | .attentionJobDone job => Sys2Proof.Machine.execAttentionJobDone job s
  | .zqShort => Sys2Proof.Machine.execZqShort s
  | .patrolRead region read => Sys2Proof.Machine.execPatrolRead region read s
  | .patrolOverdue region band channel => Sys2Proof.Machine.execPatrolOverdue region band channel s
  | .relocationDone band channel => Sys2Proof.Machine.execRelocationDone band channel s
  | .nandOpFail band channel => Sys2Proof.Machine.execNandOpFail band channel s
  | .spillCreditHourly => Sys2Proof.Machine.execSpillCreditHourly s
  | .spillGc => Sys2Proof.Machine.execSpillGc s
  | .staticLevelling => Sys2Proof.Machine.execStaticLevelling s
  | .hotChannelCheck queues => Sys2Proof.Machine.execHotChannelCheck queues s
  | .linkTrained swapped => Sys2Proof.Machine.execLinkTrained swapped s
  | .linkLoss => Sys2Proof.Machine.execLinkLoss s
  | .trainingRestart => Sys2Proof.Machine.execTrainingRestart s
  | .fecWindow corrected uncorrectable bitErrors bits => Sys2Proof.Machine.execFecWindow corrected uncorrectable bitErrors bits s
  | .frameReceive f => Sys2Proof.Machine.execFrameReceive f s
  | .icmpEcho src len => Sys2Proof.Machine.execIcmpEcho src len s
  | .neighbourDiscovery m => Sys2Proof.Machine.execNeighbourDiscovery m s
  | .arp m => Sys2Proof.Machine.execArp m s
  | .dadDone addr ok => Sys2Proof.Machine.execDadDone addr ok s
  | .packetTooBig peer port mtu => Sys2Proof.Machine.execPacketTooBig peer port mtu s
  | .ackOnly d => Sys2Proof.Machine.execAckOnly d s
  | .ackDelayExpiry slot => Sys2Proof.Machine.execAckDelayExpiry slot s
  | .rtoExpiry slot => Sys2Proof.Machine.execRtoExpiry slot s
  | .zeroWindowProbe slot => Sys2Proof.Machine.execZeroWindowProbe slot s
  | .openReq src port payload v => Sys2Proof.Machine.execOpenReq src port payload v s
  | .handshakeDone => Sys2Proof.Machine.execHandshakeDone s
  | .handshakeTimeout slot => Sys2Proof.Machine.execHandshakeTimeout slot s
  | .accept d confirmOk reportOk => Sys2Proof.Machine.execAccept d confirmOk reportOk s
  | .openResend slot => Sys2Proof.Machine.execOpenResend slot s
  | .openerTimeout slot => Sys2Proof.Machine.execOpenerTimeout slot s
  | .openRefusal src port status retryMs nonce => Sys2Proof.Machine.execOpenRefusal src port status retryMs nonce s
  | .append d => Sys2Proof.Machine.execAppend d s
  | .generate d => Sys2Proof.Machine.execGenerate d s
  | .reset d => Sys2Proof.Machine.execReset d s
  | .setSampler d => Sys2Proof.Machine.execSetSampler d s
  | .setStops d => Sys2Proof.Machine.execSetStops d s
  | .cancel d => Sys2Proof.Machine.execCancel d s
  | .ping d => Sys2Proof.Machine.execPing d s
  | .close d => Sys2Proof.Machine.execClose d s
  | .idleTimeout slot => Sys2Proof.Machine.execIdleTimeout slot s
  | .mgmtReadCsr h addr => Sys2Proof.Machine.execMgmtReadCsr h addr s
  | .mgmtWriteCsr h addr value => Sys2Proof.Machine.execMgmtWriteCsr h addr value s
  | .mgmtInstallBegin h files => Sys2Proof.Machine.execMgmtInstallBegin h files s
  | .mgmtInstallData h object data => Sys2Proof.Machine.execMgmtInstallData h object data s
  | .mgmtInstallCommit h manifest files root svn modelId => Sys2Proof.Machine.execMgmtInstallCommit h manifest files root svn modelId s
  | .mgmtLoadModel h load autoload root => Sys2Proof.Machine.execMgmtLoadModel h load autoload root s
  | .mgmtFormatStore h => Sys2Proof.Machine.execMgmtFormatStore h s
  | .mgmtReadLog h seq => Sys2Proof.Machine.execMgmtReadLog h seq s
  | .mgmtStageFirmware h image svn => Sys2Proof.Machine.execMgmtStageFirmware h image svn s
  | .mgmtShutdown h restart skipDownpour => Sys2Proof.Machine.execMgmtShutdown h restart skipDownpour s
  | .mgmtSessions h closeHandle => Sys2Proof.Machine.execMgmtSessions h closeHandle s
  | .mgmtFrontConfigure h record => Sys2Proof.Machine.execMgmtFrontConfigure h record s
  | .mgmtFrontSetEpoch h epoch => Sys2Proof.Machine.execMgmtFrontSetEpoch h epoch s
  | .mgmtFrontDissolve h => Sys2Proof.Machine.execMgmtFrontDissolve h s
  | .mgmtTransferOwnership h newPub sigOk => Sys2Proof.Machine.execMgmtTransferOwnership h newPub sigOk s
  | .mgmtInstallDelegation h record => Sys2Proof.Machine.execMgmtInstallDelegation h record s
  | .mgmtRevokeDelegation h id => Sys2Proof.Machine.execMgmtRevokeDelegation h id s
  | .mgmtRaiseFwMinSvn h => Sys2Proof.Machine.execMgmtRaiseFwMinSvn h s
  | .mgmtRaiseSvcMinSvn h => Sys2Proof.Machine.execMgmtRaiseSvcMinSvn h s
  | .mgmtRaisePkgMinSvn h => Sys2Proof.Machine.execMgmtRaisePkgMinSvn h s
  | .mgmtUnlockRecord h record => Sys2Proof.Machine.execMgmtUnlockRecord h record s
  | .mgmtScrap h => Sys2Proof.Machine.execMgmtScrap h s
  | .mgmtReadIdentityCert h => Sys2Proof.Machine.execMgmtReadIdentityCert h s
  | .mailboxUnlockRecord record => Sys2Proof.Machine.execMailboxUnlockRecord record s
  | .mailboxDebugToken record => Sys2Proof.Machine.execMailboxDebugToken record s
  | .entropyTestFail => Sys2Proof.Machine.execEntropyTestFail s
  | .entropyRetest ok => Sys2Proof.Machine.execEntropyRetest ok s
  | .keyEntryError slot => Sys2Proof.Machine.execKeyEntryError slot s
  | .fusedFrameReceive f => Sys2Proof.Machine.execFusedFrameReceive f s
  | .heartbeatSend rank => Sys2Proof.Machine.execHeartbeatSend rank s
  | .heartbeat m => Sys2Proof.Machine.execHeartbeat m s
  | .peerSuspectTimeout rank => Sys2Proof.Machine.execPeerSuspectTimeout rank s
  | .peerLostTimeout rank => Sys2Proof.Machine.execPeerLostTimeout rank s
  | .propose m => Sys2Proof.Machine.execPropose m s
  | .frontAccept m => Sys2Proof.Machine.execFrontAccept m s
  | .commit m => Sys2Proof.Machine.execCommit m s
  | .commitTimeout => Sys2Proof.Machine.execCommitTimeout s
  | .rejoin m => Sys2Proof.Machine.execRejoin m s
  | .rejoinOpenRetry rank => Sys2Proof.Machine.execRejoinOpenRetry rank s
  | .step m => Sys2Proof.Machine.execStep m s
  | .formationTimeout => Sys2Proof.Machine.execFormationTimeout s
  | .adoptionDone shareRank => Sys2Proof.Machine.execAdoptionDone shareRank s
  | .telemetrySample milliwatts => Sys2Proof.Machine.execTelemetrySample milliwatts s
  | .lullUpdate => Sys2Proof.Machine.execLullUpdate s
  | .lullAtMax => Sys2Proof.Machine.execLullAtMax s
  | .capOwnWrite value => Sys2Proof.Machine.execCapOwnWrite value s
  | .capBoardWrite value => Sys2Proof.Machine.execCapBoardWrite value s
  | .stateReqWrite iface req => Sys2Proof.Machine.execStateReqWrite iface req s
  | .breezeIdle die => Sys2Proof.Machine.execBreezeIdle die s
  | .calmAfterExpiry => Sys2Proof.Machine.execCalmAfterExpiry s
  | .frostAfterExpiry => Sys2Proof.Machine.execFrostAfterExpiry s
  | .wakeToGale => Sys2Proof.Machine.execWakeToGale s
  | .powerTransitionDone => Sys2Proof.Machine.execPowerTransitionDone s
  | .ageTrimCheck rail slow => Sys2Proof.Machine.execAgeTrimCheck rail slow s
  | .railFault rail => Sys2Proof.Machine.execRailFault rail s
  | .railFaultRestart => Sys2Proof.Machine.execRailFaultRestart s
  | .refclkLoss => Sys2Proof.Machine.execRefclkLoss s
  | .holdoverExpiry => Sys2Proof.Machine.execHoldoverExpiry s
  | .refclkReturn => Sys2Proof.Machine.execRefclkReturn s
  | .droopLevel1 domain => Sys2Proof.Machine.execDroopLevel1 domain s
  | .droopLevel2 domain => Sys2Proof.Machine.execDroopLevel2 domain s
  | .droopRelease domain => Sys2Proof.Machine.execDroopRelease domain s
  | .thermalRatioUpdate => Sys2Proof.Machine.execThermalRatioUpdate s
  | .drizzleSlice => Sys2Proof.Machine.execDrizzleSlice s
  | .drizzleForce => Sys2Proof.Machine.execDrizzleForce s
  | .drizzleSliceDone findings => Sys2Proof.Machine.execDrizzleSliceDone findings s
  | .drizzlePassLate => Sys2Proof.Machine.execDrizzlePassLate s
  | .drainGraceExpiry => Sys2Proof.Machine.execDrainGraceExpiry s
  | .downpourSliceDone findings => Sys2Proof.Machine.execDownpourSliceDone findings s
  | .downpourPhaseDone ok => Sys2Proof.Machine.execDownpourPhaseDone ok s
  | .powerApplied => Sys2Proof.Machine.execPowerApplied s
  | .aoOscStable straps a b recordOk => Sys2Proof.Machine.execAoOscStable straps a b recordOk s
  | .bootImageVerified digest2 refclk store => Sys2Proof.Machine.execBootImageVerified digest2 refclk store s
  | .firmwareStarted => Sys2Proof.Machine.execFirmwareStarted s
  | .healthRecordAccepted findings => Sys2Proof.Machine.execHealthRecordAccepted findings s
  | .dramUsable failedRegions => Sys2Proof.Machine.execDramUsable failedRegions s
  | .storeDiscovered luns => Sys2Proof.Machine.execStoreDiscovered luns s
  | .linkStepTimeout => Sys2Proof.Machine.execLinkStepTimeout s
  | .modelResident ok => Sys2Proof.Machine.execModelResident ok s
  | .resetNLow => Sys2Proof.Machine.execResetNLow s
  | .warmReset iface => Sys2Proof.Machine.execWarmReset iface s
  | .start iface => Sys2Proof.Machine.execStart iface s
  | .wdogKick => Sys2Proof.Machine.execWdogKick s
  | .watchdogExpiry => Sys2Proof.Machine.execWatchdogExpiry s
  | .undervoltage => Sys2Proof.Machine.execUndervoltage s
  | .inputRestored => Sys2Proof.Machine.execInputRestored s
  | .i3cSetAddress addr => Sys2Proof.Machine.execI3cSetAddress addr s
  | .i3cWrite bytes => Sys2Proof.Machine.execI3cWrite bytes s
  | .i3cRead count => Sys2Proof.Machine.execI3cRead count s
  | .twSelWrite window value => Sys2Proof.Machine.execTwSelWrite window value s
  | .twIndexWrite window value => Sys2Proof.Machine.execTwIndexWrite window value s
  | .twDataRead window => Sys2Proof.Machine.execTwDataRead window s
  | .tileFetchDone window => Sys2Proof.Machine.execTileFetchDone window s
  | .evRselWrite iface set seq => Sys2Proof.Machine.execEvRselWrite iface set seq s
  | .alertStatusWrite iface value => Sys2Proof.Machine.execAlertStatusWrite iface value s
  | .csrWrite iface addr value => Sys2Proof.Machine.execCsrWrite iface addr value s
  | .lossOf36v => Sys2Proof.Machine.execLossOf36v s
  | .resetNRelease => Sys2Proof.Machine.execResetNRelease s
  | .mailboxImageDelivery image svn digest => Sys2Proof.Machine.execMailboxImageDelivery image svn digest s
  | .pacedTransmit => Sys2Proof.Machine.execPacedTransmit s

end Sys2Proof.Machine
end

