-- ==== Sys2Proof/Machine/Step.lean ====
section
/-! DEFINITION. One step: the command at the front of the queue, or one period of the step clock. -/

namespace Sys2Proof.Machine

/-- The state without the command at the front of the queue. -/
def State.popped (s : State) : State := { s with pending := s.pending.drop 1 }

/-- One step: the front command's effect on the state with the queue's rest; with no command waiting, the hub's step clock
runs one period (R8, DESIGN CHOICE, log entry 4). -/
def step (s : State) : Host.Outcome State Fault Refusal :=
  match s.pending with
  | [] => done (tick s)
  | c :: _ => exec c s.popped

/-- The state with the command that a word spells put at the front of the queue; unchanged where the word spells none. -/
def State.withFetchWord (s : State) (nbits w : Nat) : State :=
  match decodeTableWord nbits w with
  | some c => { s with pending := c :: s.pending }
  | none => s

end Sys2Proof.Machine
end

