-- ==== Sys2Proof/Laws/Table.lean ====
section
/-! SUPPORT. Sparse tables: a number reads what was put there, every other number reads as before, and the canonical form is kept. -/

namespace Sys2Proof.Machine

variable {α : Type}

/-- An entry taken out leaves every other number. -/
theorem look_without_ne (d : α) (m : List (Nat × α)) {k j : Nat} (h : j ≠ k) : look d (without m k) j = look d m j := by
  induction m with
  | nil => rfl
  | cons e r ih =>
    obtain ⟨a, v⟩ := e
    by_cases ha : a = k
    · subst ha
      have : without ((a, v) :: r) a = without r a := by simp [without]
      rw [this, ih]; simp [look, h]
    · have : without ((a, v) :: r) k = (a, v) :: without r k := by simp [without, ha]
      rw [this]; simp only [look, ih]

/-- A number taken out reads the default. -/
theorem look_without_self (d : α) (m : List (Nat × α)) (k : Nat) : look d (without m k) k = d := by
  induction m with
  | nil => rfl
  | cons e r ih =>
    obtain ⟨a, v⟩ := e
    by_cases ha : a = k
    · subst ha
      have : without ((a, v) :: r) a = without r a := by simp [without]
      rw [this, ih]
    · have : without ((a, v) :: r) k = (a, v) :: without r k := by simp [without, ha]
      rw [this]; simp [look, ih, Ne.symm ha]

/-- A placed entry leaves every other number. -/
theorem look_place_ne (d : α) (m : List (Nat × α)) {k j : Nat} (v : α) (h : j ≠ k) : look d (place k v m) j = look d m j := by
  induction m with
  | nil => simp [place, look, h]
  | cons e r ih =>
    obtain ⟨a, x⟩ := e
    unfold place
    split
    · simp [look, h]
    · simp only [look, ih]

/-- A placed entry is read where the table has none of its number. -/
theorem look_place_self (d : α) (m : List (Nat × α)) (k : Nat) (v : α) (h : ∀ e ∈ m, e.1 ≠ k) : look d (place k v m) k = v := by
  induction m with
  | nil => simp [place, look]
  | cons e r ih =>
    obtain ⟨a, x⟩ := e
    have ha : k ≠ a := fun c => h (a, x) (by simp) c.symm
    unfold place
    split
    · simp [look]
    · simp only [look, ha, if_false]; exact ih (fun e he => h e (by simp [he]))

/-- No entry of the number taken out is left. -/
theorem without_fst_ne (m : List (Nat × α)) (k : Nat) : ∀ e ∈ without m k, e.1 ≠ k := by
  intro e he; simp [without] at he; exact he.2

variable [DecidableEq α]

/-- A number reads what was put there. -/
@[simp] theorem look_put_self (d : α) (m : List (Nat × α)) (k : Nat) (v : α) : look d (put d m k v) k = v := by
  unfold put
  split
  · next h => rw [look_without_self, h]
  · exact look_place_self d _ k v (without_fst_ne m k)

/-- Every other number reads as before, under any default. -/
theorem look_put_other (d d' : α) (m : List (Nat × α)) {k j : Nat} (v : α) (h : j ≠ k) : look d' (put d m k v) j = look d' m j := by
  unfold put
  split
  · exact look_without_ne d' m h
  · rw [look_place_ne d' _ v h, look_without_ne d' m h]

/-- Every other number reads as before. -/
theorem look_put_ne (d : α) (m : List (Nat × α)) {k j : Nat} (v : α) (h : j ≠ k) : look d (put d m k v) j = look d m j :=
  look_put_other d d m v h

/-- Both cases of a read after a put. -/
theorem look_put (d : α) (m : List (Nat × α)) (k j : Nat) (v : α) : look d (put d m k v) j = if j = k then v else look d m j := by
  split
  · next h => rw [h, look_put_self]
  · next h => exact look_put_ne d m v h

/-- Entries that stay are in order, and hold no default. -/
theorem canonical_filter (d : α) (m : List (Nat × α)) (p : Nat × α → Bool) (h : Canonical d m) : Canonical d (m.filter p) :=
  ⟨h.1.filter p, fun e he => h.2 e ((List.mem_filter.1 he).1)⟩

/-- An entry taken out keeps the form. -/
theorem canonical_without (d : α) (m : List (Nat × α)) (k : Nat) (h : Canonical d m) : Canonical d (without m k) :=
  canonical_filter d m _ h

omit [DecidableEq α] in
/-- The entries of a table with one placed. -/
theorem mem_place (k : Nat) (v : α) (m : List (Nat × α)) : ∀ e ∈ place k v m, e = (k, v) ∨ e ∈ m := by
  induction m with
  | nil => intro e he; simp [place] at he; simp [he]
  | cons x r ih =>
    obtain ⟨a, y⟩ := x
    intro e he
    unfold place at he
    split at he
    · simpa using he
    · rcases List.mem_cons.1 he with h | h
      · simp [h]
      · rcases ih e h with h | h
        · simp [h]
        · simp [h]

omit [DecidableEq α] in
/-- An entry of a new number placed in a rising table leaves it rising. -/
theorem pairwise_place (k : Nat) (v : α) (m : List (Nat × α)) (h : m.Pairwise (fun x y => x.1 < y.1)) (hk : ∀ e ∈ m, e.1 ≠ k) :
    (place k v m).Pairwise (fun x y => x.1 < y.1) := by
  induction m with
  | nil => simp [place]
  | cons x r ih =>
    obtain ⟨a, y⟩ := x
    have hr := List.pairwise_cons.1 h
    unfold place
    split
    · next hlt =>
      refine List.pairwise_cons.2 ⟨fun e he => ?_, h⟩
      rcases List.mem_cons.1 he with rfl | he
      · exact hlt
      · exact Nat.lt_trans hlt (hr.1 e he)
    · next hge =>
      have hne : a ≠ k := hk (a, y) (by simp)
      refine List.pairwise_cons.2 ⟨fun e he => ?_, ih hr.2 (fun e he => hk e (by simp [he]))⟩
      rcases mem_place k v r e he with rfl | he
      · simp only; omega
      · exact hr.1 e he

/-- A put keeps the canonical form. -/
theorem canonical_put (d : α) (m : List (Nat × α)) (k : Nat) (v : α) (h : Canonical d m) : Canonical d (put d m k v) := by
  unfold put
  split
  · exact canonical_without d m k h
  · next hv =>
    refine ⟨pairwise_place k v _ (canonical_without d m k h).1 (without_fst_ne m k), fun e he => ?_⟩
    rcases mem_place k v _ e he with rfl | he
    · exact hv
    · exact (canonical_without d m k h).2 e he

/-- Puts in order keep the canonical form. -/
theorem canonical_putAll (d : α) (l : List (Nat × α)) : ∀ m, Canonical d m → Canonical d (putAll d m l) := by
  induction l with
  | nil => intro m h; exact h
  | cons e r ih => obtain ⟨k, v⟩ := e; intro m h; exact ih _ (canonical_put d m k v h)

/-! Bytes of numbers. -/

@[simp] theorem leBytes_length (n : Nat) : ∀ x, (leBytes n x).length = n := by
  induction n with
  | zero => intro x; rfl
  | succ n ih => intro x; simp [leBytes, ih]

@[simp] theorem beBytes_length (n x : Nat) : (beBytes n x).length = n := by simp [beBytes]

/-- A number read back from its little-endian bytes. -/
theorem leNat_leBytes (n : Nat) : ∀ x, leNat (leBytes n x) = x % 256 ^ n := by
  induction n with
  | zero => intro x; simp [leBytes, leNat, Nat.mod_one]
  | succ n ih =>
    intro x
    have e : (BitVec.ofNat 8 x).toNat = x % 256 := BitVec.toNat_ofNat x 8
    show (BitVec.ofNat 8 x).toNat + 256 * leNat (leBytes n (x / 256)) = _
    rw [e, ih, Nat.pow_succ, Nat.mul_comm (256 ^ n) 256, Nat.mod_mul]

/-- A number read back from its big-endian bytes. -/
theorem beNat_beBytes (n x : Nat) : beNat (beBytes n x) = x % 256 ^ n := by simp [beNat, beBytes, leNat_leBytes]

end Sys2Proof.Machine
end

