-- ==== Sys2Proof/Safety.lean ====
section
/-! DEFINITION. What counts as a good state: tables in canonical form, pins that say what the state says. -/

namespace Sys2Proof.Machine

/-- Device memory is in canonical form: addresses rise strictly and no cell holds what an unlisted one reads as. -/
abbrev Mem.wf (m : Mem) : Prop := Canonical 0#8 m.cells

/-- The block's output pins agree with the state (R495, R513). -/
abbrev PinsAgree (s : State) : Prop :=
  s.pins.alertN = !s.alertLow ∧ s.pins.powerGood = s.boot.railsGood ∧ s.pins.thermTripN = !s.boot.tripHeld

/-- The event log's ring holds at most 2,048 records (R510). -/
abbrev RingBounded (s : State) : Prop := s.ev.ring.length ≤ 2048

/-- An instruction is carried out: its thread is the one the conductor chooses (R215), it passes the checks of R234, and its guard
holds (R220). -/
abbrev Runs (s : State) (t : Who) (f : Form) : Prop :=
  chosen s t = true ∧ (s.thr t.num).pc.toNat + f.words.length ≤ codeLength s t ∧ f.legal = true
    ∧ (f.hubOnly = true → t.c.val < 4) ∧ insideLoop s t f.words.length = true ∧ f.bad = none
    ∧ (f.priv = true → (s.thr t.num).priv = true) ∧ (s.thr t.num).pred f.pg ≠ f.pn

/-- Nothing but the threads, the rotations and the pins differs. -/
abbrev ThreadsOnly (s u : State) : Prop := { u with threads := s.threads, rot := s.rot, pins := s.pins } = s

/-- Nothing but one thread, the rotations and the pins differs. -/
abbrev OneThread (n : Nat) (s u : State) : Prop := ThreadsOnly s u ∧ ∀ j, j ≠ n → u.thr j = s.thr j

/-- A command is an instruction that completes: it makes its thread x, passed on by one word, and changes nothing else. -/
abbrev Passes (t : Who) (s : State) (x : Thread) (o : Host.Outcome State Fault Refusal) : Prop :=
  ∃ u, o = .next u ∧ u.thr t.num = x.advance 1 ∧ OneThread t.num s u

/-- An instruction that writes one register. -/
abbrev WritesReg (t : Who) (s : State) (d : Nat) (v : Word64) (o : Host.Outcome State Fault Refusal) : Prop :=
  Passes t s ((s.thr t.num).setReg d v) o

/-- An instruction that writes one predicate. -/
abbrev WritesPred (t : Who) (s : State) (d : Nat) (v : Bool) (o : Host.Outcome State Fault Refusal) : Prop :=
  Passes t s ((s.thr t.num).setPred d v) o

/-- The handler a trap of a thread enters (R235): none without a trap entry, and none inside a handler. -/
abbrev handlerOf (s : State) (x : Thread) : Option Nat := if x.tm then none else (s.program? x.program).bind Program.trapEntry

/-- A conductor's record area awake, where it is legal: a record wakes its bank from RETENTION (R286). -/
def recordWake (s : State) (c : Nat) : State := if recordAreaOk s c then wakeBanks [s.recordBase c] s else s

/-- A command is an instruction that traps (R235, R236): TRA takes the PC and TRAPS counts; the handler is entered, or the thread is
HALTED with PRG_TRAP_HALT, or inside a handler with PRG_DOUBLE_TRAP; the thread's trap record of 32 bytes is written, outside a handler
and where the conductor's record area is legal (DEDUCED, log entry 10), its bank awake; and nothing else differs. -/
abbrev TrapsAs (t : Who) (s : State) (cause event info0 info1 tag : Nat) (o : Host.Outcome State Fault Refusal) : Prop :=
  let x := s.thr t.num
  let c := t.c.val
  let k := t.k.val
  let area := s.recordBase c + 16384 + 32 * k
  let counter := 0x00090008 + c * 0x400
  let s0 := if x.tm then s else recordWake s c
  ∃ u, o = .next u
    ∧ u.thr t.num = (match handlerOf s x with
        | some e => { x with tra := x.pc, tm := true, pc := BitVec.ofNat 32 e }
        | none => { x with tra := x.pc, state := .halted })
    ∧ (∀ j, j ≠ t.num → u.thr j = s.thr j)
    ∧ (∀ a, u.word a = if a = counter then s0.word a + 1 else s0.word a)
    ∧ (∀ b, u.mem.read b =
        if x.tm = false ∧ recordAreaOk s c = true ∧ s.mem.isCode b = false ∧ area ≤ b ∧ b < area + 32 then
          nthD 0#8 (recordBytes event cause c (128 + k) tag x.pc.toNat (look 0 s.recSeq c) info0 info1 s.ao) (b - area)
        else s.mem.read b)
    ∧ look 0 u.recSeq c = (if x.tm then look 0 s.recSeq c else (look 0 s.recSeq c + 1) % 2 ^ 32)
    ∧ u.ev = (match handlerOf s x with
        | some _ => s0.ev
        | none => s0.ev.record (if x.tm then atThread 0x0402 c k cause x.pc.toNat else atThread 0x0401 c k 0 0) s.clk.half (s.field 0x000C0014 15 0))
    ∧ { u with threads := s.threads, rot := s.rot, pins := s.pins, csr := s0.csr, ev := s0.ev, recSeq := s.recSeq, mem := s0.mem } = s0
    ∧ { u.mem with cells := s.mem.cells, fills := s.mem.fills, poison := s.mem.poison } = s0.mem

/-- No bank of an address is in RETENTION, so that an access of it wakes none (R286). -/
abbrev Awake (s : State) (a : Nat) : Prop := ∀ b, bankOf a = some b → (look {} s.mem.banks b).current ≠ .retention

/-- A conductor's record area, where it is legal, is awake: a record wakes no bank (R286). -/
abbrev RecordAwake (s : State) (c : Nat) : Prop := recordAreaOk s c = true → Awake s (s.recordBase c)

/-- A tag a thread may issue on: in its range and not PENDING (R226). -/
abbrev TagOpen (s : State) (t : Who) (tag : Nat) : Prop :=
  (s.thr t.num).tagBase ≤ tag ∧ tag < (s.thr t.num).tagBase + (s.thr t.num).tagCount ∧ s.tag t.c.val tag ≠ .pending

/-- A command is an instruction of n words that issues a transaction on its tag: the tag becomes PENDING, the transaction is in flight
with its operands latched, the thread passes on, and nothing else differs. -/
abbrev Issues (t : Who) (n : Nat) (s : State) (tag : Nat) (op : TxOp) (slots : List Nat) (o : Host.Outcome State Fault Refusal) : Prop :=
  ∃ u, o = .next u ∧ u.thr t.num = (s.thr t.num).advance n ∧ (∀ j, j ≠ t.num → u.thr j = s.thr j)
    ∧ (∀ c g, g < 512 → u.tag c g = if c = t.c.val ∧ g = tag then .pending else s.tag c g)
    ∧ u.txs = s.txs.filter (fun x => !(x.c == t.c.val && x.tag == tag))
        ++ [{ c := t.c.val, tag := tag, k := t.k.val, pc := (s.thr t.num).pc.toNat, op := op, slots := slots }]
    ∧ { u with threads := s.threads, rot := s.rot, pins := s.pins, tags := s.tags, txs := s.txs } = s

/-- A transaction leaves PENDING for a tag state: it is no longer in flight, and every other tag and transaction stays (R226). -/
abbrev Leaves (c tag : Nat) (v : TagState) (s u : State) : Prop :=
  (∀ c' g, g < 512 → u.tag c' g = if c' = c ∧ g = tag then v else s.tag c' g)
    ∧ u.txs = s.txs.filter (fun x => !(x.c == c && x.tag == tag))

/-- What the end of a memory transaction leaves alone: threads, programs, sessions, the store and every other block, the arrays but for
the latched re-executions, and the boot block but for its scratch flag. -/
abbrev Quiet (s u : State) : Prop :=
  { u with mem := s.mem, tags := s.tags, txs := s.txs, recSeq := s.recSeq, csr := s.csr, ev := s.ev, pow := s.pow, pins := s.pins,
           arr := s.arr, boot := s.boot } = s
    ∧ { u.arr with replays := s.arr.replays } = s.arr ∧ { u.boot with stormDue := s.boot.stormDue } = s.boot

/-- A command ends a transaction of given sources and result (R226, R228, R236, R303): without a fault its tag is DONE and exactly its
writes stand in memory; a poisoned source, or else a fault of its own, leaves its tag FAULTED, its writes in memory, and its record, where
the record area is legal. -/
abbrev Ends (x : Tx) (sources : List Desc) (r : Result) (s : State) (o : Host.Outcome State Fault Refusal) : Prop :=
  let area := s.recordBase x.c + 32 * x.tag
  let inRecord (b : Nat) : Prop := recordAreaOk s x.c = true ∧ area ≤ b ∧ b < area + 32
  let fault : Option (Nat × Nat × Nat) :=
    match firstPoison s.mem sources, r.fault, x.fault with
    | some a, _, _ => some (0x0502, a, 0)
    | none, some f, _ => some f
    | none, none, f => f
  (fault = none → ∃ u, o = .next u ∧ Leaves x.c x.tag .done s u ∧ Quiet s u ∧ u.recSeq = s.recSeq
      ∧ ∀ b, u.mem.read b = (s.mem.write r.writes).read b)
  ∧ (∀ e i0 i1, fault = some (e, i0, i1) → ∃ u, o = .next u ∧ Leaves x.c x.tag .faulted s u ∧ Quiet s u
      ∧ look 0 u.recSeq x.c = (look 0 s.recSeq x.c + 1) % 2 ^ 32
      ∧ (∀ b, ¬ inRecord b → u.mem.read b = (s.mem.write r.writes).read b)
      ∧ (∀ b, inRecord b → s.mem.isCode b = false →
          u.mem.read b = nthD 0#8 (recordBytes e 0 x.c x.k x.tag x.pc (look 0 s.recSeq x.c) i0 i1 s.ao) (b - area)))

/-- Nothing but one macro pair, the time and the pins differs. -/
abbrev OnePair (n : Nat) (s u : State) : Prop :=
  { u with arr := { u.arr with pairs := s.arr.pairs }, clk := s.clk, pins := s.pins } = s ∧ ∀ m, m ≠ n → u.pair m = s.pair m

/-- A handle names an open MGMT session in a slot, whose claim, if any, is committed (R380, R414) and whose SEQ has room for its replies
(R358). -/
abbrev Admin (h : Word32) (i : Nat) (s : State) : Prop :=
  s.live? h.toNat = some i ∧ (s.sess i).kind = 2 ∧ (s.sess i).state = .opened ∧ (s.sess i).claim = none
    ∧ (s.sess i).txNext < 0xFFFFFF00 ∧ 1280 ≤ (s.sess i).pmtu

/-- A MGMT command received on a session: its message is taken, the session is active, and the operation is logged with the owner's
key hash (R380). -/
abbrev taken (i op : Nat) (s : State) : State :=
  let x := s.sess i
  { setSess i { x with lastActive := s.ao,
                       inbox := x.inbox.filter (fun m => m.typ != 8) ++ (x.inbox.filter (fun m => m.typ == 8)).drop 1 } s with
    test := { s.test with health := { s.test.health with ops := s.test.health.ops ++ [(op, ownerHash s)] } } }

/-- What a warm reset leaves (Table BOO-2): no thread, program, transaction or session; DRAM's bytes and the store's stay, the banks' go. -/
abbrev WarmLeaves (cause : Nat) (s u : State) : Prop :=
  u.threads = [] ∧ u.programs = [] ∧ u.tags = [] ∧ u.net.sessions = [] ∧ u.sec.debug = false
    ∧ (∀ a, look 0#8 u.mem.cells a = if a < hubBase then look 0#8 s.mem.cells a else 0#8)
    ∧ u.mem.partLock = s.mem.partLock ∧ u.mem.stageCur = s.mem.stageCur ∧ u.mem.kvCur = s.mem.kvCur ∧ u.mem.hashDraw = s.mem.hashDraw
    ∧ u.mem.gibs = s.mem.gibs ∧ u.mem.code = []
    ∧ u.bat.staged = s.bat.staged ∧ u.store.data = s.store.data ∧ u.boot.warm = true ∧ u.field 0x00000100 27 24 = cause

/-- Fuses b stand at least where fuses a stand: no life-cycle group, no minimum version and no key revocation is taken back (R406, R409,
R419, R420). -/
abbrev FusesGrow (a b : Fuses) : Prop :=
  a.groups ≤ b.groups ∧ a.fwMin ≤ b.fwMin ∧ a.svcMin ≤ b.svcMin ∧ a.pkgMin ≤ b.pkgMin ∧ a.revoke &&& b.revoke = a.revoke

/-! What the analog slice promises (R55, R56, R75): bounds on a long series of conversions, which the model's free error of one conversion
(log entry 31) does not impose. -/

/-- The conditions of R56 or R75 on a logical column of an A-macro but for its age: its trim complete, the tile temperature within
TEMP_DELTA of T_CAL, and the stack's Tj at most 105 °C (R449). -/
abbrev Compensated (s : State) (n col : Nat) : Prop :=
  ((s.pair n).trim (physical n (s.pair n) col)).state = 1 ∧ (tempDiff s n).natAbs ≤ 4 * s.field 0x000A0100 9 6
    ∧ ∀ t, dieTj s (n / 48 / 640) = some t → t ≤ 420

/-- The limit of a column's systematic error in 1/100 λ (R55, R56, R75), by the age in half steps of its calibration: 1 λ up to 2 s, and
0.15 λ more for each second beyond up to THR_MAX_AGE_S; none where neither rule gives one. -/
def systematicLimit (s : State) (n : Nat) : Option Nat :=
  match calAge s n with
  | some a =>
    if a ≤ 2 * sHalves then some 100
    else if a < s.field 0x000A0100 5 0 * sHalves then some (100 + 15 * (a - 2 * sHalves) / sHalves)
    else none
  | none => none

/-- A series of errors e = Â − S of one column and row group, in 1/64 of a product unit, keeps R55's bounds: its mean is at most lim/100 of λ,
and its rms about the mean at most 0.5 λ. -/
abbrev ErrorsWithin (lam lim : Nat) (es : List Int) : Prop :=
  let k : Int := es.length
  let sum := es.foldl (· + ·) 0
  let squares := (es.map (fun e => e * e)).foldl (· + ·) 0
  100 * sum.natAbs ≤ lim * (64 * lam) * es.length ∧ 4 * (k * squares - sum * sum) ≤ k * k * (64 * lam) ^ 2

/-- One conversion of a sweep as R55 counts it: that of a column in a word that did not clip, with its error; none of one that clipped, or
of a column without conversion. -/
def conversionError (s : State) (latched : List (Nat × Pair)) (op : SweepOp) (x : NumWord) (col : Nat) : Option Int :=
  ((conversions s latched op x).find? (fun c => c.col == col && !clips x.w.r.gmode c.gain c.code)).map
    (fun c => c.aHat - 64 * (nthD 0 x.m.sums col : Nat))

/-- R55's bounds on an output element, whose groups are given by λ_g and |s_g|: the systematic deviation, and four times the square of the
rms of the random one. -/
def elementBounds (groups : List (Nat × Nat)) : Nat × Nat :=
  (sumOf (groups.map (fun g => g.1 * g.2)), sumOf (groups.map (fun g => (g.1 * g.2) ^ 2)))

end Sys2Proof.Machine
end

