-- ==== Sys2Proof/Laws/Memory.lean ====
section
/-! SUPPORT. Device memory: every operation keeps the canonical form; a stored byte reads back; a granule without limits keeps every
other byte. -/

namespace Sys2Proof.Machine

/-- The gap fill keeps the form. -/
theorem Mem.zeroGap_wf (m : Mem) (g lo hi : Nat) (h : m.wf) : (m.zeroGap g lo hi).wf := canonical_filter _ _ _ h

/-- One byte stored keeps the form. -/
theorem Mem.store1_wf (m : Mem) (a : Nat) (b : Byte) (h : m.wf) : (m.store1 a b).wf := by
  unfold Mem.store1
  simp only
  split
  · exact canonical_put _ _ _ _ (Mem.zeroGap_wf m _ _ _ h)
  · exact canonical_put _ _ _ _ h

/-- Bytes stored in order keep the form. -/
theorem Mem.stores_wf (ws : List (Nat × Byte)) : ∀ m : Mem, m.wf → (m.stores ws).wf := by
  induction ws with
  | nil => intro m h; exact h
  | cons e r ih => obtain ⟨a, b⟩ := e; intro m h; exact ih _ (m.store1_wf a b h)

/-- A write keeps the form. -/
theorem Mem.write_wf (m : Mem) (ws : List (Nat × Byte)) (h : m.wf) : (m.write ws).wf := by
  unfold Mem.write
  simp only
  split
  · exact Mem.stores_wf _ m h
  · exact Mem.stores_wf _ m h

/-- A new allocation keeps the form. -/
theorem Mem.addAlloc_wf (m : Mem) (x : Alloc) (h : m.wf) : (m.addAlloc x).wf := h

/-- A write in a state keeps the form. -/
theorem writeMem_wf (ws : List (Nat × Byte)) (s : State) (h : s.mem.wf) : (writeMem ws s).mem.wf := s.mem.write_wf ws h

/-- Stacks that wake leave memory as it is. -/
theorem wakeDies_mem (ds : List Nat) (s : State) : (wakeDies ds s).mem = s.mem := by
  unfold wakeDies
  split
  · simp only; split
    · unfold raise setField setWord; split <;> rfl
    · rfl
  · rfl

/-- Banks that wake keep their bytes. -/
theorem wakeBanks_cells (as : List Nat) (s : State) : (wakeBanks as s).mem.cells = s.mem.cells := by
  unfold wakeBanks
  simp only
  split
  · rfl
  · rw [wakeDies_mem]; rfl

/-- A record keeps the form. -/
theorem writeRecord_wf (c o e ca og tg pc i0 i1 : Nat) (s : State) (h : s.mem.wf) : (writeRecord c o e ca og tg pc i0 i1 s).mem.wf := by
  unfold writeRecord
  simp only
  split
  · refine writeMem_wf _ _ ?_
    unfold Mem.wf
    rw [wakeBanks_cells]
    exact h
  · exact h

/-- The memory after reset has the form. -/
theorem reset_wf : State.reset.mem.wf := ⟨List.Pairwise.nil, fun _ h => by cases h⟩

/-- One byte stored changes allocations of none. -/
@[simp] theorem Mem.store1_allocs (m : Mem) (a : Nat) (b : Byte) : (m.store1 a b).allocs = m.allocs := by
  unfold Mem.store1; simp only; split <;> rfl

/-- Bytes stored change no allocation. -/
@[simp] theorem Mem.stores_allocs (ws : List (Nat × Byte)) : ∀ m : Mem, (m.stores ws).allocs = m.allocs := by
  induction ws with
  | nil => intro m; rfl
  | cons e r ih => obtain ⟨a, b⟩ := e; intro m; rw [Mem.stores, ih, Mem.store1_allocs]

/-- A granule's limits follow the allocations alone. -/
@[simp] theorem Mem.store1_limited (m : Mem) (a : Nat) (b : Byte) (g : Nat) : (m.store1 a b).limited g = m.limited g := by
  unfold Mem.limited; rw [Mem.store1_allocs]

/-- Filtering out a range of numbers leaves the others. -/
theorem look_filter_range (m : List (Nat × Byte)) (lo hi j : Nat) (h : ¬(lo ≤ j ∧ j < hi)) :
    look 0#8 (m.filter (fun e => !(decide (lo ≤ e.1) && decide (e.1 < hi)))) j = look 0#8 m j := by
  induction m with
  | nil => rfl
  | cons e r ih =>
    obtain ⟨k, v⟩ := e
    by_cases hk : lo ≤ k ∧ k < hi
    · rw [List.filter_cons_of_neg (by simp [hk.1, hk.2]), ih]
      have : j ≠ k := by rintro rfl; exact h hk
      simp [look, this]
    · rw [List.filter_cons_of_pos (by
        rcases Nat.lt_or_ge k lo with hl | hl
        · simp [Nat.not_le.2 hl]
        · have : ¬ k < hi := fun hh => hk ⟨hl, hh⟩
          simp [this])]
      simp only [look, ih]

/-- Numbers of a range filtered out read the default. -/
theorem look_filter_in (m : List (Nat × Byte)) (lo hi j : Nat) (h : lo ≤ j ∧ j < hi) :
    look 0#8 (m.filter (fun e => !(decide (lo ≤ e.1) && decide (e.1 < hi)))) j = 0#8 := by
  induction m with
  | nil => rfl
  | cons e r ih =>
    obtain ⟨k, v⟩ := e
    by_cases hk : lo ≤ k ∧ k < hi
    · rw [List.filter_cons_of_neg (by simp [hk.1, hk.2]), ih]
    · have hj : j ≠ k := by rintro rfl; exact hk h
      rw [List.filter_cons_of_pos (by
        rcases Nat.lt_or_ge k lo with hl | hl
        · simp [Nat.not_le.2 hl]
        · have : ¬ k < hi := fun hh => hk ⟨hl, hh⟩
          simp [this])]
      simp only [look, ih, hj, if_false]

/-- Granules divide the address space. -/
theorem granule_le (a : Nat) : granule a ≤ a := Nat.sub_le _ _

/-- What lies between an address and the start of its granule lies in that granule. -/
theorem granule_between {a b : Nat} (h1 : granule a ≤ b) (h2 : b < a) : granule b = granule a := by
  unfold granule granuleSize hubBase at *
  split at h1 <;> split <;> omega

/-- The byte a granule's fill mark lets a master read. -/
theorem Mem.read_eq (m : Mem) (b : Nat) :
    m.read b = if m.limited (granule b) = true ∧ look 0 m.fills (granule b) ≤ b - granule b then 0#8 else look 0#8 m.cells b := by
  unfold Mem.read Mem.mark; simp only [Bool.and_eq_true, decide_eq_true_eq]

/-- What a byte's store changes: that byte alone, as any master reads it. -/
theorem Mem.read_store1 (m : Mem) (a : Nat) (v : Byte) (b : Nat) : (m.store1 a v).read b = if b = a then v else m.read b := by
  have hga := granule_le a
  have hgb := granule_le b
  rw [Mem.read_eq, Mem.read_eq, Mem.store1_limited]
  by_cases hl : m.limited (granule a) = true ∧ look 0 m.fills (granule a) ≤ a - granule a
  · have hl' : (m.limited (granule a) && decide (m.mark (granule a) ≤ a - granule a)) = true := by
      unfold Mem.mark; simpa using hl
    have e : m.store1 a v = { m.zeroGap (granule a) (m.mark (granule a)) (a - granule a) with
        cells := put 0#8 (m.zeroGap (granule a) (m.mark (granule a)) (a - granule a)).cells a v
        fills := put 0 m.fills (granule a) (a - granule a + 1) } := if_pos hl'
    rw [e]
    simp only [Mem.zeroGap, Mem.mark]
    by_cases hba : b = a
    · subst hba
      simp only [look_put_self, if_true]
      refine if_neg fun h => ?_
      omega
    · simp only [hba, if_false, look_put_ne _ _ _ hba]
      by_cases hg : granule b = granule a
      · rw [hg]; rw [hg] at hgb
        simp only [look_put_self, hl.1, true_and]
        have hl2 := hl.2
        by_cases h1 : look 0 m.fills (granule a) ≤ b - granule a
        · simp only [h1, if_true]
          by_cases h2 : a - granule a + 1 ≤ b - granule a
          · simp [h2]
          · simp only [h2, if_false]
            refine look_filter_in _ _ _ _ ?_; omega
        · have h2 : ¬ (a - granule a + 1 ≤ b - granule a) := by omega
          simp only [h1, h2, if_false]
          refine look_filter_range _ _ _ _ ?_; omega
      · simp only [look_put_ne _ _ _ hg]
        have hf := look_filter_range m.cells (granule a + look 0 m.fills (granule a)) (granule a + (a - granule a)) b
          (fun hh => hg (granule_between (by omega) (by omega)))
        split
        · rfl
        · exact hf
  · have hl' : (m.limited (granule a) && decide (m.mark (granule a) ≤ a - granule a)) = false := by
      unfold Mem.mark; simpa using hl
    have e : m.store1 a v = { m with cells := put 0#8 m.cells a v } := if_neg (by rw [hl']; decide)
    rw [e]
    by_cases hba : b = a
    · subst hba; simp only [hl, if_false, if_true, look_put_self]
    · simp only [hba, if_false, look_put_ne _ _ _ hba]

/-- What stored bytes change: each the last value stored, and nothing else. -/
theorem Mem.read_stores_other (ws : List (Nat × Byte)) : ∀ (m : Mem) (b : Nat), (∀ e ∈ ws, e.1 ≠ b) → (m.stores ws).read b = m.read b := by
  induction ws with
  | nil => intro m b _; rfl
  | cons e r ih =>
    obtain ⟨a, v⟩ := e
    intro m b h
    rw [Mem.stores, ih _ _ (fun x hx => h x (by simp [hx])), Mem.read_store1]
    simp [Ne.symm (h (a, v) (by simp))]

/-- Bytes at consecutive addresses, by address. -/
theorem mem_run (l : List Byte) : ∀ (a : Nat) (e : Nat × Byte), e ∈ run a l → a ≤ e.1 ∧ e.1 < a + l.length := by
  induction l with
  | nil => intro a e h; cases h
  | cons v r ih =>
    intro a e h
    rcases List.mem_cons.1 h with h | h
    · subst h; simp
    · have := ih (a + 1) e h; simp only [List.length_cons]; omega

/-- What a write of consecutive bytes changes: the bytes outside loaded code, and nothing else. -/
theorem Mem.read_stores_run (p : Nat → Bool) (l : List Byte) : ∀ (m : Mem) (a b : Nat),
    (m.stores ((run a l).filter (fun e => p e.1))).read b = if p b = true ∧ a ≤ b ∧ b < a + l.length then nthD 0#8 l (b - a) else m.read b := by
  induction l with
  | nil => intro m a b; rw [if_neg (by simp only [List.length_nil]; omega)]; rfl
  | cons v r ih =>
    intro m a b
    have key : (m.stores ((run a (v :: r)).filter (fun e => p e.1))).read b =
        if p b = true ∧ a + 1 ≤ b ∧ b < a + 1 + r.length then nthD 0#8 r (b - (a + 1)) else if p a = true ∧ b = a then v else m.read b := by
      rw [run]
      by_cases hp : p a = true
      · rw [List.filter_cons_of_pos (by simpa using hp), Mem.stores, ih, Mem.read_store1]; simp [hp]
      · rw [List.filter_cons_of_neg (by simpa using hp), ih]; simp [hp]
    rw [key]
    simp only [List.length_cons]
    by_cases hp : p b = true
    · by_cases h1 : a + 1 ≤ b ∧ b < a + 1 + r.length
      · have h2 : a ≤ b ∧ b < a + (r.length + 1) := by omega
        simp only [hp, h1, h2, and_self, if_true]
        obtain ⟨k, rfl⟩ : ∃ k, b = a + 1 + k := ⟨b - (a + 1), by omega⟩
        have e1 : a + 1 + k - (a + 1) = k := by omega
        have e2 : a + 1 + k - a = k + 1 := by omega
        rw [e1, e2]; rfl
      · by_cases h3 : b = a
        · subst h3; simp only [hp, nthD, Nat.sub_self, h1, true_and, and_true, if_true, and_false, if_false]; split <;> first | rfl | omega
        · have h2 : ¬ (a ≤ b ∧ b < a + (r.length + 1)) := by omega
          rw [if_neg (fun h => h1 h.2), if_neg (fun h => h3 h.2), if_neg (fun h => h2 h.2)]
    · by_cases h3 : b = a
      · subst h3; simp [hp]
      · simp [hp, h3]

/-- A thread's or a transaction's write of consecutive bytes, as any master reads it (R238, R280). -/
theorem Mem.read_write_run (m : Mem) (a b : Nat) (l : List Byte) :
    (m.write (run a l)).read b = if m.isCode b = false ∧ a ≤ b ∧ b < a + l.length then nthD 0#8 l (b - a) else m.read b := by
  have h : ∀ m1 : Mem, (∀ p, ({ m1 with poison := p } : Mem).read b = m1.read b) := fun _ _ => rfl
  have := Mem.read_stores_run (fun x => !m.isCode x) l m a b
  simp only [Bool.not_eq_true'] at this
  unfold Mem.write
  split
  · exact this
  · exact (h _ _).trans this

end Sys2Proof.Machine
end

