-- ==== Sys2Proof/Laws/State.lean ====
section
/-! SUPPORT. What each plain update leaves of each field of the state, all by computation; and what raising an event leaves. -/

namespace Sys2Proof.Machine

/-! Fields that `settle` leaves. -/

@[simp] theorem settle_pending (s : State) : (settle s).pending = s.pending := rfl
@[simp] theorem settle_free (s : State) : (settle s).free = s.free := rfl
@[simp] theorem settle_clk (s : State) : (settle s).clk = s.clk := rfl
@[simp] theorem settle_threads (s : State) : (settle s).threads = s.threads := rfl
@[simp] theorem settle_tags (s : State) : (settle s).tags = s.tags := rfl
@[simp] theorem settle_txs (s : State) : (settle s).txs = s.txs := rfl
@[simp] theorem settle_recSeq (s : State) : (settle s).recSeq = s.recSeq := rfl
@[simp] theorem settle_rot (s : State) : (settle s).rot = s.rot := rfl
@[simp] theorem settle_programs (s : State) : (settle s).programs = s.programs := rfl
@[simp] theorem settle_mem (s : State) : (settle s).mem = s.mem := rfl
@[simp] theorem settle_csr (s : State) : (settle s).csr = s.csr := rfl
@[simp] theorem settle_latch (s : State) : (settle s).latch = s.latch := rfl
@[simp] theorem settle_ev (s : State) : (settle s).ev = s.ev := rfl
@[simp] theorem settle_arr (s : State) : (settle s).arr = s.arr := rfl
@[simp] theorem settle_kv (s : State) : (settle s).kv = s.kv := rfl
@[simp] theorem settle_net (s : State) : (settle s).net = s.net := rfl
@[simp] theorem settle_bat (s : State) : (settle s).bat = s.bat := rfl
@[simp] theorem settle_sec (s : State) : (settle s).sec = s.sec := rfl
@[simp] theorem settle_front (s : State) : (settle s).front = s.front := rfl
@[simp] theorem settle_pow (s : State) : (settle s).pow = s.pow := rfl
@[simp] theorem settle_test (s : State) : (settle s).test = s.test := rfl
@[simp] theorem settle_store (s : State) : (settle s).store = s.store := rfl
@[simp] theorem settle_boot (s : State) : (settle s).boot = s.boot := rfl
@[simp] theorem settle_side (s : State) : (settle s).side = s.side := rfl

/-! Fields that `reach` leaves. -/

@[simp] theorem reach_pending (t : Nat) (s : State) : (reach t s).pending = s.pending := rfl
@[simp] theorem reach_free (t : Nat) (s : State) : (reach t s).free = s.free := rfl
@[simp] theorem reach_threads (t : Nat) (s : State) : (reach t s).threads = s.threads := rfl
@[simp] theorem reach_tags (t : Nat) (s : State) : (reach t s).tags = s.tags := rfl
@[simp] theorem reach_txs (t : Nat) (s : State) : (reach t s).txs = s.txs := rfl
@[simp] theorem reach_recSeq (t : Nat) (s : State) : (reach t s).recSeq = s.recSeq := rfl
@[simp] theorem reach_rot (t : Nat) (s : State) : (reach t s).rot = s.rot := rfl
@[simp] theorem reach_programs (t : Nat) (s : State) : (reach t s).programs = s.programs := rfl
@[simp] theorem reach_mem (t : Nat) (s : State) : (reach t s).mem = s.mem := rfl
@[simp] theorem reach_csr (t : Nat) (s : State) : (reach t s).csr = s.csr := rfl
@[simp] theorem reach_latch (t : Nat) (s : State) : (reach t s).latch = s.latch := rfl
@[simp] theorem reach_ev (t : Nat) (s : State) : (reach t s).ev = s.ev := rfl
@[simp] theorem reach_pins (t : Nat) (s : State) : (reach t s).pins = s.pins := rfl
@[simp] theorem reach_arr (t : Nat) (s : State) : (reach t s).arr = s.arr := rfl
@[simp] theorem reach_kv (t : Nat) (s : State) : (reach t s).kv = s.kv := rfl
@[simp] theorem reach_net (t : Nat) (s : State) : (reach t s).net = s.net := rfl
@[simp] theorem reach_bat (t : Nat) (s : State) : (reach t s).bat = s.bat := rfl
@[simp] theorem reach_sec (t : Nat) (s : State) : (reach t s).sec = s.sec := rfl
@[simp] theorem reach_front (t : Nat) (s : State) : (reach t s).front = s.front := rfl
@[simp] theorem reach_pow (t : Nat) (s : State) : (reach t s).pow = s.pow := rfl
@[simp] theorem reach_test (t : Nat) (s : State) : (reach t s).test = s.test := rfl
@[simp] theorem reach_store (t : Nat) (s : State) : (reach t s).store = s.store := rfl
@[simp] theorem reach_boot (t : Nat) (s : State) : (reach t s).boot = s.boot := rfl
@[simp] theorem reach_side (t : Nat) (s : State) : (reach t s).side = s.side := rfl

/-! Fields that `skipFree` leaves. -/

@[simp] theorem skipFree_pending (n : Nat) (s : State) : (skipFree n s).pending = s.pending := rfl
@[simp] theorem skipFree_clk (n : Nat) (s : State) : (skipFree n s).clk = s.clk := rfl
@[simp] theorem skipFree_threads (n : Nat) (s : State) : (skipFree n s).threads = s.threads := rfl
@[simp] theorem skipFree_tags (n : Nat) (s : State) : (skipFree n s).tags = s.tags := rfl
@[simp] theorem skipFree_txs (n : Nat) (s : State) : (skipFree n s).txs = s.txs := rfl
@[simp] theorem skipFree_recSeq (n : Nat) (s : State) : (skipFree n s).recSeq = s.recSeq := rfl
@[simp] theorem skipFree_rot (n : Nat) (s : State) : (skipFree n s).rot = s.rot := rfl
@[simp] theorem skipFree_programs (n : Nat) (s : State) : (skipFree n s).programs = s.programs := rfl
@[simp] theorem skipFree_mem (n : Nat) (s : State) : (skipFree n s).mem = s.mem := rfl
@[simp] theorem skipFree_csr (n : Nat) (s : State) : (skipFree n s).csr = s.csr := rfl
@[simp] theorem skipFree_latch (n : Nat) (s : State) : (skipFree n s).latch = s.latch := rfl
@[simp] theorem skipFree_ev (n : Nat) (s : State) : (skipFree n s).ev = s.ev := rfl
@[simp] theorem skipFree_pins (n : Nat) (s : State) : (skipFree n s).pins = s.pins := rfl
@[simp] theorem skipFree_arr (n : Nat) (s : State) : (skipFree n s).arr = s.arr := rfl
@[simp] theorem skipFree_kv (n : Nat) (s : State) : (skipFree n s).kv = s.kv := rfl
@[simp] theorem skipFree_net (n : Nat) (s : State) : (skipFree n s).net = s.net := rfl
@[simp] theorem skipFree_bat (n : Nat) (s : State) : (skipFree n s).bat = s.bat := rfl
@[simp] theorem skipFree_sec (n : Nat) (s : State) : (skipFree n s).sec = s.sec := rfl
@[simp] theorem skipFree_front (n : Nat) (s : State) : (skipFree n s).front = s.front := rfl
@[simp] theorem skipFree_pow (n : Nat) (s : State) : (skipFree n s).pow = s.pow := rfl
@[simp] theorem skipFree_test (n : Nat) (s : State) : (skipFree n s).test = s.test := rfl
@[simp] theorem skipFree_store (n : Nat) (s : State) : (skipFree n s).store = s.store := rfl
@[simp] theorem skipFree_boot (n : Nat) (s : State) : (skipFree n s).boot = s.boot := rfl
@[simp] theorem skipFree_side (n : Nat) (s : State) : (skipFree n s).side = s.side := rfl

/-! Fields that `setWord` leaves. -/

@[simp] theorem setWord_pending (a : Nat) (v : Word32) (s : State) : (setWord a v s).pending = s.pending := rfl
@[simp] theorem setWord_free (a : Nat) (v : Word32) (s : State) : (setWord a v s).free = s.free := rfl
@[simp] theorem setWord_clk (a : Nat) (v : Word32) (s : State) : (setWord a v s).clk = s.clk := rfl
@[simp] theorem setWord_threads (a : Nat) (v : Word32) (s : State) : (setWord a v s).threads = s.threads := rfl
@[simp] theorem setWord_tags (a : Nat) (v : Word32) (s : State) : (setWord a v s).tags = s.tags := rfl
@[simp] theorem setWord_txs (a : Nat) (v : Word32) (s : State) : (setWord a v s).txs = s.txs := rfl
@[simp] theorem setWord_recSeq (a : Nat) (v : Word32) (s : State) : (setWord a v s).recSeq = s.recSeq := rfl
@[simp] theorem setWord_rot (a : Nat) (v : Word32) (s : State) : (setWord a v s).rot = s.rot := rfl
@[simp] theorem setWord_programs (a : Nat) (v : Word32) (s : State) : (setWord a v s).programs = s.programs := rfl
@[simp] theorem setWord_mem (a : Nat) (v : Word32) (s : State) : (setWord a v s).mem = s.mem := rfl
@[simp] theorem setWord_latch (a : Nat) (v : Word32) (s : State) : (setWord a v s).latch = s.latch := rfl
@[simp] theorem setWord_ev (a : Nat) (v : Word32) (s : State) : (setWord a v s).ev = s.ev := rfl
@[simp] theorem setWord_pins (a : Nat) (v : Word32) (s : State) : (setWord a v s).pins = s.pins := rfl
@[simp] theorem setWord_arr (a : Nat) (v : Word32) (s : State) : (setWord a v s).arr = s.arr := rfl
@[simp] theorem setWord_kv (a : Nat) (v : Word32) (s : State) : (setWord a v s).kv = s.kv := rfl
@[simp] theorem setWord_net (a : Nat) (v : Word32) (s : State) : (setWord a v s).net = s.net := rfl
@[simp] theorem setWord_bat (a : Nat) (v : Word32) (s : State) : (setWord a v s).bat = s.bat := rfl
@[simp] theorem setWord_sec (a : Nat) (v : Word32) (s : State) : (setWord a v s).sec = s.sec := rfl
@[simp] theorem setWord_front (a : Nat) (v : Word32) (s : State) : (setWord a v s).front = s.front := rfl
@[simp] theorem setWord_pow (a : Nat) (v : Word32) (s : State) : (setWord a v s).pow = s.pow := rfl
@[simp] theorem setWord_test (a : Nat) (v : Word32) (s : State) : (setWord a v s).test = s.test := rfl
@[simp] theorem setWord_store (a : Nat) (v : Word32) (s : State) : (setWord a v s).store = s.store := rfl
@[simp] theorem setWord_boot (a : Nat) (v : Word32) (s : State) : (setWord a v s).boot = s.boot := rfl
@[simp] theorem setWord_side (a : Nat) (v : Word32) (s : State) : (setWord a v s).side = s.side := rfl

/-! Fields that `setField` leaves. -/

@[simp] theorem setField_pending (a hi lo v : Nat) (s : State) : (setField a hi lo v s).pending = s.pending := rfl
@[simp] theorem setField_free (a hi lo v : Nat) (s : State) : (setField a hi lo v s).free = s.free := rfl
@[simp] theorem setField_clk (a hi lo v : Nat) (s : State) : (setField a hi lo v s).clk = s.clk := rfl
@[simp] theorem setField_threads (a hi lo v : Nat) (s : State) : (setField a hi lo v s).threads = s.threads := rfl
@[simp] theorem setField_tags (a hi lo v : Nat) (s : State) : (setField a hi lo v s).tags = s.tags := rfl
@[simp] theorem setField_txs (a hi lo v : Nat) (s : State) : (setField a hi lo v s).txs = s.txs := rfl
@[simp] theorem setField_recSeq (a hi lo v : Nat) (s : State) : (setField a hi lo v s).recSeq = s.recSeq := rfl
@[simp] theorem setField_rot (a hi lo v : Nat) (s : State) : (setField a hi lo v s).rot = s.rot := rfl
@[simp] theorem setField_programs (a hi lo v : Nat) (s : State) : (setField a hi lo v s).programs = s.programs := rfl
@[simp] theorem setField_mem (a hi lo v : Nat) (s : State) : (setField a hi lo v s).mem = s.mem := rfl
@[simp] theorem setField_latch (a hi lo v : Nat) (s : State) : (setField a hi lo v s).latch = s.latch := rfl
@[simp] theorem setField_ev (a hi lo v : Nat) (s : State) : (setField a hi lo v s).ev = s.ev := rfl
@[simp] theorem setField_pins (a hi lo v : Nat) (s : State) : (setField a hi lo v s).pins = s.pins := rfl
@[simp] theorem setField_arr (a hi lo v : Nat) (s : State) : (setField a hi lo v s).arr = s.arr := rfl
@[simp] theorem setField_kv (a hi lo v : Nat) (s : State) : (setField a hi lo v s).kv = s.kv := rfl
@[simp] theorem setField_net (a hi lo v : Nat) (s : State) : (setField a hi lo v s).net = s.net := rfl
@[simp] theorem setField_bat (a hi lo v : Nat) (s : State) : (setField a hi lo v s).bat = s.bat := rfl
@[simp] theorem setField_sec (a hi lo v : Nat) (s : State) : (setField a hi lo v s).sec = s.sec := rfl
@[simp] theorem setField_front (a hi lo v : Nat) (s : State) : (setField a hi lo v s).front = s.front := rfl
@[simp] theorem setField_pow (a hi lo v : Nat) (s : State) : (setField a hi lo v s).pow = s.pow := rfl
@[simp] theorem setField_test (a hi lo v : Nat) (s : State) : (setField a hi lo v s).test = s.test := rfl
@[simp] theorem setField_store (a hi lo v : Nat) (s : State) : (setField a hi lo v s).store = s.store := rfl
@[simp] theorem setField_boot (a hi lo v : Nat) (s : State) : (setField a hi lo v s).boot = s.boot := rfl
@[simp] theorem setField_side (a hi lo v : Nat) (s : State) : (setField a hi lo v s).side = s.side := rfl

/-! Fields that `bump` leaves. -/

@[simp] theorem bump_pending (a n : Nat) (s : State) : (bump a n s).pending = s.pending := rfl
@[simp] theorem bump_free (a n : Nat) (s : State) : (bump a n s).free = s.free := rfl
@[simp] theorem bump_clk (a n : Nat) (s : State) : (bump a n s).clk = s.clk := rfl
@[simp] theorem bump_threads (a n : Nat) (s : State) : (bump a n s).threads = s.threads := rfl
@[simp] theorem bump_tags (a n : Nat) (s : State) : (bump a n s).tags = s.tags := rfl
@[simp] theorem bump_txs (a n : Nat) (s : State) : (bump a n s).txs = s.txs := rfl
@[simp] theorem bump_recSeq (a n : Nat) (s : State) : (bump a n s).recSeq = s.recSeq := rfl
@[simp] theorem bump_rot (a n : Nat) (s : State) : (bump a n s).rot = s.rot := rfl
@[simp] theorem bump_programs (a n : Nat) (s : State) : (bump a n s).programs = s.programs := rfl
@[simp] theorem bump_mem (a n : Nat) (s : State) : (bump a n s).mem = s.mem := rfl
@[simp] theorem bump_latch (a n : Nat) (s : State) : (bump a n s).latch = s.latch := rfl
@[simp] theorem bump_ev (a n : Nat) (s : State) : (bump a n s).ev = s.ev := rfl
@[simp] theorem bump_pins (a n : Nat) (s : State) : (bump a n s).pins = s.pins := rfl
@[simp] theorem bump_arr (a n : Nat) (s : State) : (bump a n s).arr = s.arr := rfl
@[simp] theorem bump_kv (a n : Nat) (s : State) : (bump a n s).kv = s.kv := rfl
@[simp] theorem bump_net (a n : Nat) (s : State) : (bump a n s).net = s.net := rfl
@[simp] theorem bump_bat (a n : Nat) (s : State) : (bump a n s).bat = s.bat := rfl
@[simp] theorem bump_sec (a n : Nat) (s : State) : (bump a n s).sec = s.sec := rfl
@[simp] theorem bump_front (a n : Nat) (s : State) : (bump a n s).front = s.front := rfl
@[simp] theorem bump_pow (a n : Nat) (s : State) : (bump a n s).pow = s.pow := rfl
@[simp] theorem bump_test (a n : Nat) (s : State) : (bump a n s).test = s.test := rfl
@[simp] theorem bump_store (a n : Nat) (s : State) : (bump a n s).store = s.store := rfl
@[simp] theorem bump_boot (a n : Nat) (s : State) : (bump a n s).boot = s.boot := rfl
@[simp] theorem bump_side (a n : Nat) (s : State) : (bump a n s).side = s.side := rfl

/-! Fields that `setThr` leaves. -/

@[simp] theorem setThr_pending (n : Nat) (x : Thread) (s : State) : (setThr n x s).pending = s.pending := rfl
@[simp] theorem setThr_free (n : Nat) (x : Thread) (s : State) : (setThr n x s).free = s.free := rfl
@[simp] theorem setThr_clk (n : Nat) (x : Thread) (s : State) : (setThr n x s).clk = s.clk := rfl
@[simp] theorem setThr_tags (n : Nat) (x : Thread) (s : State) : (setThr n x s).tags = s.tags := rfl
@[simp] theorem setThr_txs (n : Nat) (x : Thread) (s : State) : (setThr n x s).txs = s.txs := rfl
@[simp] theorem setThr_recSeq (n : Nat) (x : Thread) (s : State) : (setThr n x s).recSeq = s.recSeq := rfl
@[simp] theorem setThr_rot (n : Nat) (x : Thread) (s : State) : (setThr n x s).rot = s.rot := rfl
@[simp] theorem setThr_programs (n : Nat) (x : Thread) (s : State) : (setThr n x s).programs = s.programs := rfl
@[simp] theorem setThr_mem (n : Nat) (x : Thread) (s : State) : (setThr n x s).mem = s.mem := rfl
@[simp] theorem setThr_csr (n : Nat) (x : Thread) (s : State) : (setThr n x s).csr = s.csr := rfl
@[simp] theorem setThr_latch (n : Nat) (x : Thread) (s : State) : (setThr n x s).latch = s.latch := rfl
@[simp] theorem setThr_ev (n : Nat) (x : Thread) (s : State) : (setThr n x s).ev = s.ev := rfl
@[simp] theorem setThr_pins (n : Nat) (x : Thread) (s : State) : (setThr n x s).pins = s.pins := rfl
@[simp] theorem setThr_arr (n : Nat) (x : Thread) (s : State) : (setThr n x s).arr = s.arr := rfl
@[simp] theorem setThr_kv (n : Nat) (x : Thread) (s : State) : (setThr n x s).kv = s.kv := rfl
@[simp] theorem setThr_net (n : Nat) (x : Thread) (s : State) : (setThr n x s).net = s.net := rfl
@[simp] theorem setThr_bat (n : Nat) (x : Thread) (s : State) : (setThr n x s).bat = s.bat := rfl
@[simp] theorem setThr_sec (n : Nat) (x : Thread) (s : State) : (setThr n x s).sec = s.sec := rfl
@[simp] theorem setThr_front (n : Nat) (x : Thread) (s : State) : (setThr n x s).front = s.front := rfl
@[simp] theorem setThr_pow (n : Nat) (x : Thread) (s : State) : (setThr n x s).pow = s.pow := rfl
@[simp] theorem setThr_test (n : Nat) (x : Thread) (s : State) : (setThr n x s).test = s.test := rfl
@[simp] theorem setThr_store (n : Nat) (x : Thread) (s : State) : (setThr n x s).store = s.store := rfl
@[simp] theorem setThr_boot (n : Nat) (x : Thread) (s : State) : (setThr n x s).boot = s.boot := rfl
@[simp] theorem setThr_side (n : Nat) (x : Thread) (s : State) : (setThr n x s).side = s.side := rfl

/-! Fields that `onThr` leaves. -/

@[simp] theorem onThr_pending (n : Nat) (f : Thread → Thread) (s : State) : (onThr n f s).pending = s.pending := rfl
@[simp] theorem onThr_free (n : Nat) (f : Thread → Thread) (s : State) : (onThr n f s).free = s.free := rfl
@[simp] theorem onThr_clk (n : Nat) (f : Thread → Thread) (s : State) : (onThr n f s).clk = s.clk := rfl
@[simp] theorem onThr_tags (n : Nat) (f : Thread → Thread) (s : State) : (onThr n f s).tags = s.tags := rfl
@[simp] theorem onThr_txs (n : Nat) (f : Thread → Thread) (s : State) : (onThr n f s).txs = s.txs := rfl
@[simp] theorem onThr_recSeq (n : Nat) (f : Thread → Thread) (s : State) : (onThr n f s).recSeq = s.recSeq := rfl
@[simp] theorem onThr_rot (n : Nat) (f : Thread → Thread) (s : State) : (onThr n f s).rot = s.rot := rfl
@[simp] theorem onThr_programs (n : Nat) (f : Thread → Thread) (s : State) : (onThr n f s).programs = s.programs := rfl
@[simp] theorem onThr_mem (n : Nat) (f : Thread → Thread) (s : State) : (onThr n f s).mem = s.mem := rfl
@[simp] theorem onThr_csr (n : Nat) (f : Thread → Thread) (s : State) : (onThr n f s).csr = s.csr := rfl
@[simp] theorem onThr_latch (n : Nat) (f : Thread → Thread) (s : State) : (onThr n f s).latch = s.latch := rfl
@[simp] theorem onThr_ev (n : Nat) (f : Thread → Thread) (s : State) : (onThr n f s).ev = s.ev := rfl
@[simp] theorem onThr_pins (n : Nat) (f : Thread → Thread) (s : State) : (onThr n f s).pins = s.pins := rfl
@[simp] theorem onThr_arr (n : Nat) (f : Thread → Thread) (s : State) : (onThr n f s).arr = s.arr := rfl
@[simp] theorem onThr_kv (n : Nat) (f : Thread → Thread) (s : State) : (onThr n f s).kv = s.kv := rfl
@[simp] theorem onThr_net (n : Nat) (f : Thread → Thread) (s : State) : (onThr n f s).net = s.net := rfl
@[simp] theorem onThr_bat (n : Nat) (f : Thread → Thread) (s : State) : (onThr n f s).bat = s.bat := rfl
@[simp] theorem onThr_sec (n : Nat) (f : Thread → Thread) (s : State) : (onThr n f s).sec = s.sec := rfl
@[simp] theorem onThr_front (n : Nat) (f : Thread → Thread) (s : State) : (onThr n f s).front = s.front := rfl
@[simp] theorem onThr_pow (n : Nat) (f : Thread → Thread) (s : State) : (onThr n f s).pow = s.pow := rfl
@[simp] theorem onThr_test (n : Nat) (f : Thread → Thread) (s : State) : (onThr n f s).test = s.test := rfl
@[simp] theorem onThr_store (n : Nat) (f : Thread → Thread) (s : State) : (onThr n f s).store = s.store := rfl
@[simp] theorem onThr_boot (n : Nat) (f : Thread → Thread) (s : State) : (onThr n f s).boot = s.boot := rfl
@[simp] theorem onThr_side (n : Nat) (f : Thread → Thread) (s : State) : (onThr n f s).side = s.side := rfl

/-! Fields that `setTag` leaves. -/

@[simp] theorem setTag_pending (c n : Nat) (v : TagState) (s : State) : (setTag c n v s).pending = s.pending := rfl
@[simp] theorem setTag_free (c n : Nat) (v : TagState) (s : State) : (setTag c n v s).free = s.free := rfl
@[simp] theorem setTag_clk (c n : Nat) (v : TagState) (s : State) : (setTag c n v s).clk = s.clk := rfl
@[simp] theorem setTag_threads (c n : Nat) (v : TagState) (s : State) : (setTag c n v s).threads = s.threads := rfl
@[simp] theorem setTag_txs (c n : Nat) (v : TagState) (s : State) : (setTag c n v s).txs = s.txs := rfl
@[simp] theorem setTag_recSeq (c n : Nat) (v : TagState) (s : State) : (setTag c n v s).recSeq = s.recSeq := rfl
@[simp] theorem setTag_rot (c n : Nat) (v : TagState) (s : State) : (setTag c n v s).rot = s.rot := rfl
@[simp] theorem setTag_programs (c n : Nat) (v : TagState) (s : State) : (setTag c n v s).programs = s.programs := rfl
@[simp] theorem setTag_mem (c n : Nat) (v : TagState) (s : State) : (setTag c n v s).mem = s.mem := rfl
@[simp] theorem setTag_csr (c n : Nat) (v : TagState) (s : State) : (setTag c n v s).csr = s.csr := rfl
@[simp] theorem setTag_latch (c n : Nat) (v : TagState) (s : State) : (setTag c n v s).latch = s.latch := rfl
@[simp] theorem setTag_ev (c n : Nat) (v : TagState) (s : State) : (setTag c n v s).ev = s.ev := rfl
@[simp] theorem setTag_pins (c n : Nat) (v : TagState) (s : State) : (setTag c n v s).pins = s.pins := rfl
@[simp] theorem setTag_arr (c n : Nat) (v : TagState) (s : State) : (setTag c n v s).arr = s.arr := rfl
@[simp] theorem setTag_kv (c n : Nat) (v : TagState) (s : State) : (setTag c n v s).kv = s.kv := rfl
@[simp] theorem setTag_net (c n : Nat) (v : TagState) (s : State) : (setTag c n v s).net = s.net := rfl
@[simp] theorem setTag_bat (c n : Nat) (v : TagState) (s : State) : (setTag c n v s).bat = s.bat := rfl
@[simp] theorem setTag_sec (c n : Nat) (v : TagState) (s : State) : (setTag c n v s).sec = s.sec := rfl
@[simp] theorem setTag_front (c n : Nat) (v : TagState) (s : State) : (setTag c n v s).front = s.front := rfl
@[simp] theorem setTag_pow (c n : Nat) (v : TagState) (s : State) : (setTag c n v s).pow = s.pow := rfl
@[simp] theorem setTag_test (c n : Nat) (v : TagState) (s : State) : (setTag c n v s).test = s.test := rfl
@[simp] theorem setTag_store (c n : Nat) (v : TagState) (s : State) : (setTag c n v s).store = s.store := rfl
@[simp] theorem setTag_boot (c n : Nat) (v : TagState) (s : State) : (setTag c n v s).boot = s.boot := rfl
@[simp] theorem setTag_side (c n : Nat) (v : TagState) (s : State) : (setTag c n v s).side = s.side := rfl

/-! Fields that `writeMem` leaves. -/

@[simp] theorem writeMem_pending (ws : List (Nat × Byte)) (s : State) : (writeMem ws s).pending = s.pending := rfl
@[simp] theorem writeMem_free (ws : List (Nat × Byte)) (s : State) : (writeMem ws s).free = s.free := rfl
@[simp] theorem writeMem_clk (ws : List (Nat × Byte)) (s : State) : (writeMem ws s).clk = s.clk := rfl
@[simp] theorem writeMem_threads (ws : List (Nat × Byte)) (s : State) : (writeMem ws s).threads = s.threads := rfl
@[simp] theorem writeMem_tags (ws : List (Nat × Byte)) (s : State) : (writeMem ws s).tags = s.tags := rfl
@[simp] theorem writeMem_txs (ws : List (Nat × Byte)) (s : State) : (writeMem ws s).txs = s.txs := rfl
@[simp] theorem writeMem_recSeq (ws : List (Nat × Byte)) (s : State) : (writeMem ws s).recSeq = s.recSeq := rfl
@[simp] theorem writeMem_rot (ws : List (Nat × Byte)) (s : State) : (writeMem ws s).rot = s.rot := rfl
@[simp] theorem writeMem_programs (ws : List (Nat × Byte)) (s : State) : (writeMem ws s).programs = s.programs := rfl
@[simp] theorem writeMem_csr (ws : List (Nat × Byte)) (s : State) : (writeMem ws s).csr = s.csr := rfl
@[simp] theorem writeMem_latch (ws : List (Nat × Byte)) (s : State) : (writeMem ws s).latch = s.latch := rfl
@[simp] theorem writeMem_ev (ws : List (Nat × Byte)) (s : State) : (writeMem ws s).ev = s.ev := rfl
@[simp] theorem writeMem_pins (ws : List (Nat × Byte)) (s : State) : (writeMem ws s).pins = s.pins := rfl
@[simp] theorem writeMem_arr (ws : List (Nat × Byte)) (s : State) : (writeMem ws s).arr = s.arr := rfl
@[simp] theorem writeMem_kv (ws : List (Nat × Byte)) (s : State) : (writeMem ws s).kv = s.kv := rfl
@[simp] theorem writeMem_net (ws : List (Nat × Byte)) (s : State) : (writeMem ws s).net = s.net := rfl
@[simp] theorem writeMem_bat (ws : List (Nat × Byte)) (s : State) : (writeMem ws s).bat = s.bat := rfl
@[simp] theorem writeMem_sec (ws : List (Nat × Byte)) (s : State) : (writeMem ws s).sec = s.sec := rfl
@[simp] theorem writeMem_front (ws : List (Nat × Byte)) (s : State) : (writeMem ws s).front = s.front := rfl
@[simp] theorem writeMem_pow (ws : List (Nat × Byte)) (s : State) : (writeMem ws s).pow = s.pow := rfl
@[simp] theorem writeMem_test (ws : List (Nat × Byte)) (s : State) : (writeMem ws s).test = s.test := rfl
@[simp] theorem writeMem_store (ws : List (Nat × Byte)) (s : State) : (writeMem ws s).store = s.store := rfl
@[simp] theorem writeMem_boot (ws : List (Nat × Byte)) (s : State) : (writeMem ws s).boot = s.boot := rfl
@[simp] theorem writeMem_side (ws : List (Nat × Byte)) (s : State) : (writeMem ws s).side = s.side := rfl

/-! Fields that `dropTx` leaves. -/

@[simp] theorem dropTx_pending (c n : Nat) (s : State) : (dropTx c n s).pending = s.pending := rfl
@[simp] theorem dropTx_free (c n : Nat) (s : State) : (dropTx c n s).free = s.free := rfl
@[simp] theorem dropTx_clk (c n : Nat) (s : State) : (dropTx c n s).clk = s.clk := rfl
@[simp] theorem dropTx_threads (c n : Nat) (s : State) : (dropTx c n s).threads = s.threads := rfl
@[simp] theorem dropTx_tags (c n : Nat) (s : State) : (dropTx c n s).tags = s.tags := rfl
@[simp] theorem dropTx_recSeq (c n : Nat) (s : State) : (dropTx c n s).recSeq = s.recSeq := rfl
@[simp] theorem dropTx_rot (c n : Nat) (s : State) : (dropTx c n s).rot = s.rot := rfl
@[simp] theorem dropTx_programs (c n : Nat) (s : State) : (dropTx c n s).programs = s.programs := rfl
@[simp] theorem dropTx_mem (c n : Nat) (s : State) : (dropTx c n s).mem = s.mem := rfl
@[simp] theorem dropTx_csr (c n : Nat) (s : State) : (dropTx c n s).csr = s.csr := rfl
@[simp] theorem dropTx_latch (c n : Nat) (s : State) : (dropTx c n s).latch = s.latch := rfl
@[simp] theorem dropTx_ev (c n : Nat) (s : State) : (dropTx c n s).ev = s.ev := rfl
@[simp] theorem dropTx_pins (c n : Nat) (s : State) : (dropTx c n s).pins = s.pins := rfl
@[simp] theorem dropTx_arr (c n : Nat) (s : State) : (dropTx c n s).arr = s.arr := rfl
@[simp] theorem dropTx_kv (c n : Nat) (s : State) : (dropTx c n s).kv = s.kv := rfl
@[simp] theorem dropTx_net (c n : Nat) (s : State) : (dropTx c n s).net = s.net := rfl
@[simp] theorem dropTx_bat (c n : Nat) (s : State) : (dropTx c n s).bat = s.bat := rfl
@[simp] theorem dropTx_sec (c n : Nat) (s : State) : (dropTx c n s).sec = s.sec := rfl
@[simp] theorem dropTx_front (c n : Nat) (s : State) : (dropTx c n s).front = s.front := rfl
@[simp] theorem dropTx_pow (c n : Nat) (s : State) : (dropTx c n s).pow = s.pow := rfl
@[simp] theorem dropTx_test (c n : Nat) (s : State) : (dropTx c n s).test = s.test := rfl
@[simp] theorem dropTx_store (c n : Nat) (s : State) : (dropTx c n s).store = s.store := rfl
@[simp] theorem dropTx_boot (c n : Nat) (s : State) : (dropTx c n s).boot = s.boot := rfl
@[simp] theorem dropTx_side (c n : Nat) (s : State) : (dropTx c n s).side = s.side := rfl

/-! Fields that `addTx` leaves. -/

@[simp] theorem addTx_pending (x : Tx) (s : State) : (addTx x s).pending = s.pending := rfl
@[simp] theorem addTx_free (x : Tx) (s : State) : (addTx x s).free = s.free := rfl
@[simp] theorem addTx_clk (x : Tx) (s : State) : (addTx x s).clk = s.clk := rfl
@[simp] theorem addTx_threads (x : Tx) (s : State) : (addTx x s).threads = s.threads := rfl
@[simp] theorem addTx_recSeq (x : Tx) (s : State) : (addTx x s).recSeq = s.recSeq := rfl
@[simp] theorem addTx_rot (x : Tx) (s : State) : (addTx x s).rot = s.rot := rfl
@[simp] theorem addTx_programs (x : Tx) (s : State) : (addTx x s).programs = s.programs := rfl
@[simp] theorem addTx_mem (x : Tx) (s : State) : (addTx x s).mem = s.mem := rfl
@[simp] theorem addTx_csr (x : Tx) (s : State) : (addTx x s).csr = s.csr := rfl
@[simp] theorem addTx_latch (x : Tx) (s : State) : (addTx x s).latch = s.latch := rfl
@[simp] theorem addTx_ev (x : Tx) (s : State) : (addTx x s).ev = s.ev := rfl
@[simp] theorem addTx_pins (x : Tx) (s : State) : (addTx x s).pins = s.pins := rfl
@[simp] theorem addTx_arr (x : Tx) (s : State) : (addTx x s).arr = s.arr := rfl
@[simp] theorem addTx_kv (x : Tx) (s : State) : (addTx x s).kv = s.kv := rfl
@[simp] theorem addTx_net (x : Tx) (s : State) : (addTx x s).net = s.net := rfl
@[simp] theorem addTx_bat (x : Tx) (s : State) : (addTx x s).bat = s.bat := rfl
@[simp] theorem addTx_sec (x : Tx) (s : State) : (addTx x s).sec = s.sec := rfl
@[simp] theorem addTx_front (x : Tx) (s : State) : (addTx x s).front = s.front := rfl
@[simp] theorem addTx_pow (x : Tx) (s : State) : (addTx x s).pow = s.pow := rfl
@[simp] theorem addTx_test (x : Tx) (s : State) : (addTx x s).test = s.test := rfl
@[simp] theorem addTx_store (x : Tx) (s : State) : (addTx x s).store = s.store := rfl
@[simp] theorem addTx_boot (x : Tx) (s : State) : (addTx x s).boot = s.boot := rfl
@[simp] theorem addTx_side (x : Tx) (s : State) : (addTx x s).side = s.side := rfl

/-! Fields that `doneTx` leaves. -/

@[simp] theorem doneTx_pending (x : Tx) (s : State) : (doneTx x s).pending = s.pending := rfl
@[simp] theorem doneTx_free (x : Tx) (s : State) : (doneTx x s).free = s.free := rfl
@[simp] theorem doneTx_clk (x : Tx) (s : State) : (doneTx x s).clk = s.clk := rfl
@[simp] theorem doneTx_threads (x : Tx) (s : State) : (doneTx x s).threads = s.threads := rfl
@[simp] theorem doneTx_recSeq (x : Tx) (s : State) : (doneTx x s).recSeq = s.recSeq := rfl
@[simp] theorem doneTx_rot (x : Tx) (s : State) : (doneTx x s).rot = s.rot := rfl
@[simp] theorem doneTx_programs (x : Tx) (s : State) : (doneTx x s).programs = s.programs := rfl
@[simp] theorem doneTx_mem (x : Tx) (s : State) : (doneTx x s).mem = s.mem := rfl
@[simp] theorem doneTx_csr (x : Tx) (s : State) : (doneTx x s).csr = s.csr := rfl
@[simp] theorem doneTx_latch (x : Tx) (s : State) : (doneTx x s).latch = s.latch := rfl
@[simp] theorem doneTx_ev (x : Tx) (s : State) : (doneTx x s).ev = s.ev := rfl
@[simp] theorem doneTx_pins (x : Tx) (s : State) : (doneTx x s).pins = s.pins := rfl
@[simp] theorem doneTx_arr (x : Tx) (s : State) : (doneTx x s).arr = s.arr := rfl
@[simp] theorem doneTx_kv (x : Tx) (s : State) : (doneTx x s).kv = s.kv := rfl
@[simp] theorem doneTx_net (x : Tx) (s : State) : (doneTx x s).net = s.net := rfl
@[simp] theorem doneTx_bat (x : Tx) (s : State) : (doneTx x s).bat = s.bat := rfl
@[simp] theorem doneTx_sec (x : Tx) (s : State) : (doneTx x s).sec = s.sec := rfl
@[simp] theorem doneTx_front (x : Tx) (s : State) : (doneTx x s).front = s.front := rfl
@[simp] theorem doneTx_pow (x : Tx) (s : State) : (doneTx x s).pow = s.pow := rfl
@[simp] theorem doneTx_test (x : Tx) (s : State) : (doneTx x s).test = s.test := rfl
@[simp] theorem doneTx_store (x : Tx) (s : State) : (doneTx x s).store = s.store := rfl
@[simp] theorem doneTx_boot (x : Tx) (s : State) : (doneTx x s).boot = s.boot := rfl
@[simp] theorem doneTx_side (x : Tx) (s : State) : (doneTx x s).side = s.side := rfl

/-! Fields that `toBack` leaves. -/

@[simp] theorem toBack_pending (c p k : Nat) (s : State) : (toBack c p k s).pending = s.pending := rfl
@[simp] theorem toBack_free (c p k : Nat) (s : State) : (toBack c p k s).free = s.free := rfl
@[simp] theorem toBack_clk (c p k : Nat) (s : State) : (toBack c p k s).clk = s.clk := rfl
@[simp] theorem toBack_threads (c p k : Nat) (s : State) : (toBack c p k s).threads = s.threads := rfl
@[simp] theorem toBack_tags (c p k : Nat) (s : State) : (toBack c p k s).tags = s.tags := rfl
@[simp] theorem toBack_txs (c p k : Nat) (s : State) : (toBack c p k s).txs = s.txs := rfl
@[simp] theorem toBack_recSeq (c p k : Nat) (s : State) : (toBack c p k s).recSeq = s.recSeq := rfl
@[simp] theorem toBack_programs (c p k : Nat) (s : State) : (toBack c p k s).programs = s.programs := rfl
@[simp] theorem toBack_mem (c p k : Nat) (s : State) : (toBack c p k s).mem = s.mem := rfl
@[simp] theorem toBack_csr (c p k : Nat) (s : State) : (toBack c p k s).csr = s.csr := rfl
@[simp] theorem toBack_latch (c p k : Nat) (s : State) : (toBack c p k s).latch = s.latch := rfl
@[simp] theorem toBack_ev (c p k : Nat) (s : State) : (toBack c p k s).ev = s.ev := rfl
@[simp] theorem toBack_pins (c p k : Nat) (s : State) : (toBack c p k s).pins = s.pins := rfl
@[simp] theorem toBack_arr (c p k : Nat) (s : State) : (toBack c p k s).arr = s.arr := rfl
@[simp] theorem toBack_kv (c p k : Nat) (s : State) : (toBack c p k s).kv = s.kv := rfl
@[simp] theorem toBack_net (c p k : Nat) (s : State) : (toBack c p k s).net = s.net := rfl
@[simp] theorem toBack_bat (c p k : Nat) (s : State) : (toBack c p k s).bat = s.bat := rfl
@[simp] theorem toBack_sec (c p k : Nat) (s : State) : (toBack c p k s).sec = s.sec := rfl
@[simp] theorem toBack_front (c p k : Nat) (s : State) : (toBack c p k s).front = s.front := rfl
@[simp] theorem toBack_pow (c p k : Nat) (s : State) : (toBack c p k s).pow = s.pow := rfl
@[simp] theorem toBack_test (c p k : Nat) (s : State) : (toBack c p k s).test = s.test := rfl
@[simp] theorem toBack_store (c p k : Nat) (s : State) : (toBack c p k s).store = s.store := rfl
@[simp] theorem toBack_boot (c p k : Nat) (s : State) : (toBack c p k s).boot = s.boot := rfl
@[simp] theorem toBack_side (c p k : Nat) (s : State) : (toBack c p k s).side = s.side := rfl

/-! Fields that `setG` leaves. -/

@[simp] theorem setG_pending (t : Who) (i : Nat) (v : Word64) (s : State) : (setG t i v s).pending = s.pending := rfl
@[simp] theorem setG_free (t : Who) (i : Nat) (v : Word64) (s : State) : (setG t i v s).free = s.free := rfl
@[simp] theorem setG_clk (t : Who) (i : Nat) (v : Word64) (s : State) : (setG t i v s).clk = s.clk := rfl
@[simp] theorem setG_tags (t : Who) (i : Nat) (v : Word64) (s : State) : (setG t i v s).tags = s.tags := rfl
@[simp] theorem setG_txs (t : Who) (i : Nat) (v : Word64) (s : State) : (setG t i v s).txs = s.txs := rfl
@[simp] theorem setG_recSeq (t : Who) (i : Nat) (v : Word64) (s : State) : (setG t i v s).recSeq = s.recSeq := rfl
@[simp] theorem setG_rot (t : Who) (i : Nat) (v : Word64) (s : State) : (setG t i v s).rot = s.rot := rfl
@[simp] theorem setG_programs (t : Who) (i : Nat) (v : Word64) (s : State) : (setG t i v s).programs = s.programs := rfl
@[simp] theorem setG_mem (t : Who) (i : Nat) (v : Word64) (s : State) : (setG t i v s).mem = s.mem := rfl
@[simp] theorem setG_csr (t : Who) (i : Nat) (v : Word64) (s : State) : (setG t i v s).csr = s.csr := rfl
@[simp] theorem setG_latch (t : Who) (i : Nat) (v : Word64) (s : State) : (setG t i v s).latch = s.latch := rfl
@[simp] theorem setG_ev (t : Who) (i : Nat) (v : Word64) (s : State) : (setG t i v s).ev = s.ev := rfl
@[simp] theorem setG_pins (t : Who) (i : Nat) (v : Word64) (s : State) : (setG t i v s).pins = s.pins := rfl
@[simp] theorem setG_arr (t : Who) (i : Nat) (v : Word64) (s : State) : (setG t i v s).arr = s.arr := rfl
@[simp] theorem setG_kv (t : Who) (i : Nat) (v : Word64) (s : State) : (setG t i v s).kv = s.kv := rfl
@[simp] theorem setG_net (t : Who) (i : Nat) (v : Word64) (s : State) : (setG t i v s).net = s.net := rfl
@[simp] theorem setG_bat (t : Who) (i : Nat) (v : Word64) (s : State) : (setG t i v s).bat = s.bat := rfl
@[simp] theorem setG_sec (t : Who) (i : Nat) (v : Word64) (s : State) : (setG t i v s).sec = s.sec := rfl
@[simp] theorem setG_front (t : Who) (i : Nat) (v : Word64) (s : State) : (setG t i v s).front = s.front := rfl
@[simp] theorem setG_pow (t : Who) (i : Nat) (v : Word64) (s : State) : (setG t i v s).pow = s.pow := rfl
@[simp] theorem setG_test (t : Who) (i : Nat) (v : Word64) (s : State) : (setG t i v s).test = s.test := rfl
@[simp] theorem setG_store (t : Who) (i : Nat) (v : Word64) (s : State) : (setG t i v s).store = s.store := rfl
@[simp] theorem setG_boot (t : Who) (i : Nat) (v : Word64) (s : State) : (setG t i v s).boot = s.boot := rfl
@[simp] theorem setG_side (t : Who) (i : Nat) (v : Word64) (s : State) : (setG t i v s).side = s.side := rfl

/-! Fields that `setP` leaves. -/

@[simp] theorem setP_pending (t : Who) (i : Nat) (v : Bool) (s : State) : (setP t i v s).pending = s.pending := rfl
@[simp] theorem setP_free (t : Who) (i : Nat) (v : Bool) (s : State) : (setP t i v s).free = s.free := rfl
@[simp] theorem setP_clk (t : Who) (i : Nat) (v : Bool) (s : State) : (setP t i v s).clk = s.clk := rfl
@[simp] theorem setP_tags (t : Who) (i : Nat) (v : Bool) (s : State) : (setP t i v s).tags = s.tags := rfl
@[simp] theorem setP_txs (t : Who) (i : Nat) (v : Bool) (s : State) : (setP t i v s).txs = s.txs := rfl
@[simp] theorem setP_recSeq (t : Who) (i : Nat) (v : Bool) (s : State) : (setP t i v s).recSeq = s.recSeq := rfl
@[simp] theorem setP_rot (t : Who) (i : Nat) (v : Bool) (s : State) : (setP t i v s).rot = s.rot := rfl
@[simp] theorem setP_programs (t : Who) (i : Nat) (v : Bool) (s : State) : (setP t i v s).programs = s.programs := rfl
@[simp] theorem setP_mem (t : Who) (i : Nat) (v : Bool) (s : State) : (setP t i v s).mem = s.mem := rfl
@[simp] theorem setP_csr (t : Who) (i : Nat) (v : Bool) (s : State) : (setP t i v s).csr = s.csr := rfl
@[simp] theorem setP_latch (t : Who) (i : Nat) (v : Bool) (s : State) : (setP t i v s).latch = s.latch := rfl
@[simp] theorem setP_ev (t : Who) (i : Nat) (v : Bool) (s : State) : (setP t i v s).ev = s.ev := rfl
@[simp] theorem setP_pins (t : Who) (i : Nat) (v : Bool) (s : State) : (setP t i v s).pins = s.pins := rfl
@[simp] theorem setP_arr (t : Who) (i : Nat) (v : Bool) (s : State) : (setP t i v s).arr = s.arr := rfl
@[simp] theorem setP_kv (t : Who) (i : Nat) (v : Bool) (s : State) : (setP t i v s).kv = s.kv := rfl
@[simp] theorem setP_net (t : Who) (i : Nat) (v : Bool) (s : State) : (setP t i v s).net = s.net := rfl
@[simp] theorem setP_bat (t : Who) (i : Nat) (v : Bool) (s : State) : (setP t i v s).bat = s.bat := rfl
@[simp] theorem setP_sec (t : Who) (i : Nat) (v : Bool) (s : State) : (setP t i v s).sec = s.sec := rfl
@[simp] theorem setP_front (t : Who) (i : Nat) (v : Bool) (s : State) : (setP t i v s).front = s.front := rfl
@[simp] theorem setP_pow (t : Who) (i : Nat) (v : Bool) (s : State) : (setP t i v s).pow = s.pow := rfl
@[simp] theorem setP_test (t : Who) (i : Nat) (v : Bool) (s : State) : (setP t i v s).test = s.test := rfl
@[simp] theorem setP_store (t : Who) (i : Nat) (v : Bool) (s : State) : (setP t i v s).store = s.store := rfl
@[simp] theorem setP_boot (t : Who) (i : Nat) (v : Bool) (s : State) : (setP t i v s).boot = s.boot := rfl
@[simp] theorem setP_side (t : Who) (i : Nat) (v : Bool) (s : State) : (setP t i v s).side = s.side := rfl

/-! Fields that `onBoot` leaves. -/

@[simp] theorem onBoot_pending (f : Boot → Boot) (s : State) : (onBoot f s).pending = s.pending := rfl
@[simp] theorem onBoot_free (f : Boot → Boot) (s : State) : (onBoot f s).free = s.free := rfl
@[simp] theorem onBoot_clk (f : Boot → Boot) (s : State) : (onBoot f s).clk = s.clk := rfl
@[simp] theorem onBoot_threads (f : Boot → Boot) (s : State) : (onBoot f s).threads = s.threads := rfl
@[simp] theorem onBoot_tags (f : Boot → Boot) (s : State) : (onBoot f s).tags = s.tags := rfl
@[simp] theorem onBoot_txs (f : Boot → Boot) (s : State) : (onBoot f s).txs = s.txs := rfl
@[simp] theorem onBoot_recSeq (f : Boot → Boot) (s : State) : (onBoot f s).recSeq = s.recSeq := rfl
@[simp] theorem onBoot_rot (f : Boot → Boot) (s : State) : (onBoot f s).rot = s.rot := rfl
@[simp] theorem onBoot_programs (f : Boot → Boot) (s : State) : (onBoot f s).programs = s.programs := rfl
@[simp] theorem onBoot_mem (f : Boot → Boot) (s : State) : (onBoot f s).mem = s.mem := rfl
@[simp] theorem onBoot_csr (f : Boot → Boot) (s : State) : (onBoot f s).csr = s.csr := rfl
@[simp] theorem onBoot_latch (f : Boot → Boot) (s : State) : (onBoot f s).latch = s.latch := rfl
@[simp] theorem onBoot_ev (f : Boot → Boot) (s : State) : (onBoot f s).ev = s.ev := rfl
@[simp] theorem onBoot_pins (f : Boot → Boot) (s : State) : (onBoot f s).pins = s.pins := rfl
@[simp] theorem onBoot_arr (f : Boot → Boot) (s : State) : (onBoot f s).arr = s.arr := rfl
@[simp] theorem onBoot_kv (f : Boot → Boot) (s : State) : (onBoot f s).kv = s.kv := rfl
@[simp] theorem onBoot_net (f : Boot → Boot) (s : State) : (onBoot f s).net = s.net := rfl
@[simp] theorem onBoot_bat (f : Boot → Boot) (s : State) : (onBoot f s).bat = s.bat := rfl
@[simp] theorem onBoot_sec (f : Boot → Boot) (s : State) : (onBoot f s).sec = s.sec := rfl
@[simp] theorem onBoot_front (f : Boot → Boot) (s : State) : (onBoot f s).front = s.front := rfl
@[simp] theorem onBoot_pow (f : Boot → Boot) (s : State) : (onBoot f s).pow = s.pow := rfl
@[simp] theorem onBoot_test (f : Boot → Boot) (s : State) : (onBoot f s).test = s.test := rfl
@[simp] theorem onBoot_store (f : Boot → Boot) (s : State) : (onBoot f s).store = s.store := rfl
@[simp] theorem onBoot_side (f : Boot → Boot) (s : State) : (onBoot f s).side = s.side := rfl

/-! Fields that `onNet` leaves. -/

@[simp] theorem onNet_pending (f : Net → Net) (s : State) : (onNet f s).pending = s.pending := rfl
@[simp] theorem onNet_free (f : Net → Net) (s : State) : (onNet f s).free = s.free := rfl
@[simp] theorem onNet_clk (f : Net → Net) (s : State) : (onNet f s).clk = s.clk := rfl
@[simp] theorem onNet_threads (f : Net → Net) (s : State) : (onNet f s).threads = s.threads := rfl
@[simp] theorem onNet_tags (f : Net → Net) (s : State) : (onNet f s).tags = s.tags := rfl
@[simp] theorem onNet_txs (f : Net → Net) (s : State) : (onNet f s).txs = s.txs := rfl
@[simp] theorem onNet_recSeq (f : Net → Net) (s : State) : (onNet f s).recSeq = s.recSeq := rfl
@[simp] theorem onNet_rot (f : Net → Net) (s : State) : (onNet f s).rot = s.rot := rfl
@[simp] theorem onNet_programs (f : Net → Net) (s : State) : (onNet f s).programs = s.programs := rfl
@[simp] theorem onNet_mem (f : Net → Net) (s : State) : (onNet f s).mem = s.mem := rfl
@[simp] theorem onNet_csr (f : Net → Net) (s : State) : (onNet f s).csr = s.csr := rfl
@[simp] theorem onNet_latch (f : Net → Net) (s : State) : (onNet f s).latch = s.latch := rfl
@[simp] theorem onNet_ev (f : Net → Net) (s : State) : (onNet f s).ev = s.ev := rfl
@[simp] theorem onNet_pins (f : Net → Net) (s : State) : (onNet f s).pins = s.pins := rfl
@[simp] theorem onNet_arr (f : Net → Net) (s : State) : (onNet f s).arr = s.arr := rfl
@[simp] theorem onNet_kv (f : Net → Net) (s : State) : (onNet f s).kv = s.kv := rfl
@[simp] theorem onNet_bat (f : Net → Net) (s : State) : (onNet f s).bat = s.bat := rfl
@[simp] theorem onNet_sec (f : Net → Net) (s : State) : (onNet f s).sec = s.sec := rfl
@[simp] theorem onNet_front (f : Net → Net) (s : State) : (onNet f s).front = s.front := rfl
@[simp] theorem onNet_pow (f : Net → Net) (s : State) : (onNet f s).pow = s.pow := rfl
@[simp] theorem onNet_test (f : Net → Net) (s : State) : (onNet f s).test = s.test := rfl
@[simp] theorem onNet_store (f : Net → Net) (s : State) : (onNet f s).store = s.store := rfl
@[simp] theorem onNet_boot (f : Net → Net) (s : State) : (onNet f s).boot = s.boot := rfl
@[simp] theorem onNet_side (f : Net → Net) (s : State) : (onNet f s).side = s.side := rfl

/-! Fields that `onStore` leaves. -/

@[simp] theorem onStore_pending (f : Store → Store) (s : State) : (onStore f s).pending = s.pending := rfl
@[simp] theorem onStore_free (f : Store → Store) (s : State) : (onStore f s).free = s.free := rfl
@[simp] theorem onStore_clk (f : Store → Store) (s : State) : (onStore f s).clk = s.clk := rfl
@[simp] theorem onStore_threads (f : Store → Store) (s : State) : (onStore f s).threads = s.threads := rfl
@[simp] theorem onStore_tags (f : Store → Store) (s : State) : (onStore f s).tags = s.tags := rfl
@[simp] theorem onStore_txs (f : Store → Store) (s : State) : (onStore f s).txs = s.txs := rfl
@[simp] theorem onStore_recSeq (f : Store → Store) (s : State) : (onStore f s).recSeq = s.recSeq := rfl
@[simp] theorem onStore_rot (f : Store → Store) (s : State) : (onStore f s).rot = s.rot := rfl
@[simp] theorem onStore_programs (f : Store → Store) (s : State) : (onStore f s).programs = s.programs := rfl
@[simp] theorem onStore_mem (f : Store → Store) (s : State) : (onStore f s).mem = s.mem := rfl
@[simp] theorem onStore_csr (f : Store → Store) (s : State) : (onStore f s).csr = s.csr := rfl
@[simp] theorem onStore_latch (f : Store → Store) (s : State) : (onStore f s).latch = s.latch := rfl
@[simp] theorem onStore_ev (f : Store → Store) (s : State) : (onStore f s).ev = s.ev := rfl
@[simp] theorem onStore_pins (f : Store → Store) (s : State) : (onStore f s).pins = s.pins := rfl
@[simp] theorem onStore_arr (f : Store → Store) (s : State) : (onStore f s).arr = s.arr := rfl
@[simp] theorem onStore_kv (f : Store → Store) (s : State) : (onStore f s).kv = s.kv := rfl
@[simp] theorem onStore_net (f : Store → Store) (s : State) : (onStore f s).net = s.net := rfl
@[simp] theorem onStore_bat (f : Store → Store) (s : State) : (onStore f s).bat = s.bat := rfl
@[simp] theorem onStore_sec (f : Store → Store) (s : State) : (onStore f s).sec = s.sec := rfl
@[simp] theorem onStore_front (f : Store → Store) (s : State) : (onStore f s).front = s.front := rfl
@[simp] theorem onStore_pow (f : Store → Store) (s : State) : (onStore f s).pow = s.pow := rfl
@[simp] theorem onStore_test (f : Store → Store) (s : State) : (onStore f s).test = s.test := rfl
@[simp] theorem onStore_boot (f : Store → Store) (s : State) : (onStore f s).boot = s.boot := rfl
@[simp] theorem onStore_side (f : Store → Store) (s : State) : (onStore f s).side = s.side := rfl

/-! Fields that `onFront` leaves. -/

@[simp] theorem onFront_pending (f : Front → Front) (s : State) : (onFront f s).pending = s.pending := rfl
@[simp] theorem onFront_free (f : Front → Front) (s : State) : (onFront f s).free = s.free := rfl
@[simp] theorem onFront_clk (f : Front → Front) (s : State) : (onFront f s).clk = s.clk := rfl
@[simp] theorem onFront_threads (f : Front → Front) (s : State) : (onFront f s).threads = s.threads := rfl
@[simp] theorem onFront_tags (f : Front → Front) (s : State) : (onFront f s).tags = s.tags := rfl
@[simp] theorem onFront_txs (f : Front → Front) (s : State) : (onFront f s).txs = s.txs := rfl
@[simp] theorem onFront_recSeq (f : Front → Front) (s : State) : (onFront f s).recSeq = s.recSeq := rfl
@[simp] theorem onFront_rot (f : Front → Front) (s : State) : (onFront f s).rot = s.rot := rfl
@[simp] theorem onFront_programs (f : Front → Front) (s : State) : (onFront f s).programs = s.programs := rfl
@[simp] theorem onFront_mem (f : Front → Front) (s : State) : (onFront f s).mem = s.mem := rfl
@[simp] theorem onFront_csr (f : Front → Front) (s : State) : (onFront f s).csr = s.csr := rfl
@[simp] theorem onFront_latch (f : Front → Front) (s : State) : (onFront f s).latch = s.latch := rfl
@[simp] theorem onFront_ev (f : Front → Front) (s : State) : (onFront f s).ev = s.ev := rfl
@[simp] theorem onFront_pins (f : Front → Front) (s : State) : (onFront f s).pins = s.pins := rfl
@[simp] theorem onFront_arr (f : Front → Front) (s : State) : (onFront f s).arr = s.arr := rfl
@[simp] theorem onFront_kv (f : Front → Front) (s : State) : (onFront f s).kv = s.kv := rfl
@[simp] theorem onFront_net (f : Front → Front) (s : State) : (onFront f s).net = s.net := rfl
@[simp] theorem onFront_bat (f : Front → Front) (s : State) : (onFront f s).bat = s.bat := rfl
@[simp] theorem onFront_sec (f : Front → Front) (s : State) : (onFront f s).sec = s.sec := rfl
@[simp] theorem onFront_pow (f : Front → Front) (s : State) : (onFront f s).pow = s.pow := rfl
@[simp] theorem onFront_test (f : Front → Front) (s : State) : (onFront f s).test = s.test := rfl
@[simp] theorem onFront_store (f : Front → Front) (s : State) : (onFront f s).store = s.store := rfl
@[simp] theorem onFront_boot (f : Front → Front) (s : State) : (onFront f s).boot = s.boot := rfl
@[simp] theorem onFront_side (f : Front → Front) (s : State) : (onFront f s).side = s.side := rfl

/-! Fields that `onPair` leaves. -/

@[simp] theorem onPair_pending (n : Nat) (f : Pair → Pair) (s : State) : (onPair n f s).pending = s.pending := rfl
@[simp] theorem onPair_free (n : Nat) (f : Pair → Pair) (s : State) : (onPair n f s).free = s.free := rfl
@[simp] theorem onPair_clk (n : Nat) (f : Pair → Pair) (s : State) : (onPair n f s).clk = s.clk := rfl
@[simp] theorem onPair_threads (n : Nat) (f : Pair → Pair) (s : State) : (onPair n f s).threads = s.threads := rfl
@[simp] theorem onPair_tags (n : Nat) (f : Pair → Pair) (s : State) : (onPair n f s).tags = s.tags := rfl
@[simp] theorem onPair_txs (n : Nat) (f : Pair → Pair) (s : State) : (onPair n f s).txs = s.txs := rfl
@[simp] theorem onPair_recSeq (n : Nat) (f : Pair → Pair) (s : State) : (onPair n f s).recSeq = s.recSeq := rfl
@[simp] theorem onPair_rot (n : Nat) (f : Pair → Pair) (s : State) : (onPair n f s).rot = s.rot := rfl
@[simp] theorem onPair_programs (n : Nat) (f : Pair → Pair) (s : State) : (onPair n f s).programs = s.programs := rfl
@[simp] theorem onPair_mem (n : Nat) (f : Pair → Pair) (s : State) : (onPair n f s).mem = s.mem := rfl
@[simp] theorem onPair_csr (n : Nat) (f : Pair → Pair) (s : State) : (onPair n f s).csr = s.csr := rfl
@[simp] theorem onPair_latch (n : Nat) (f : Pair → Pair) (s : State) : (onPair n f s).latch = s.latch := rfl
@[simp] theorem onPair_ev (n : Nat) (f : Pair → Pair) (s : State) : (onPair n f s).ev = s.ev := rfl
@[simp] theorem onPair_pins (n : Nat) (f : Pair → Pair) (s : State) : (onPair n f s).pins = s.pins := rfl
@[simp] theorem onPair_kv (n : Nat) (f : Pair → Pair) (s : State) : (onPair n f s).kv = s.kv := rfl
@[simp] theorem onPair_net (n : Nat) (f : Pair → Pair) (s : State) : (onPair n f s).net = s.net := rfl
@[simp] theorem onPair_bat (n : Nat) (f : Pair → Pair) (s : State) : (onPair n f s).bat = s.bat := rfl
@[simp] theorem onPair_sec (n : Nat) (f : Pair → Pair) (s : State) : (onPair n f s).sec = s.sec := rfl
@[simp] theorem onPair_front (n : Nat) (f : Pair → Pair) (s : State) : (onPair n f s).front = s.front := rfl
@[simp] theorem onPair_pow (n : Nat) (f : Pair → Pair) (s : State) : (onPair n f s).pow = s.pow := rfl
@[simp] theorem onPair_test (n : Nat) (f : Pair → Pair) (s : State) : (onPair n f s).test = s.test := rfl
@[simp] theorem onPair_store (n : Nat) (f : Pair → Pair) (s : State) : (onPair n f s).store = s.store := rfl
@[simp] theorem onPair_boot (n : Nat) (f : Pair → Pair) (s : State) : (onPair n f s).boot = s.boot := rfl
@[simp] theorem onPair_side (n : Nat) (f : Pair → Pair) (s : State) : (onPair n f s).side = s.side := rfl

/-! Fields that `onTile` leaves. -/

@[simp] theorem onTile_pending (n : Nat) (f : Tile → Tile) (s : State) : (onTile n f s).pending = s.pending := rfl
@[simp] theorem onTile_free (n : Nat) (f : Tile → Tile) (s : State) : (onTile n f s).free = s.free := rfl
@[simp] theorem onTile_clk (n : Nat) (f : Tile → Tile) (s : State) : (onTile n f s).clk = s.clk := rfl
@[simp] theorem onTile_threads (n : Nat) (f : Tile → Tile) (s : State) : (onTile n f s).threads = s.threads := rfl
@[simp] theorem onTile_tags (n : Nat) (f : Tile → Tile) (s : State) : (onTile n f s).tags = s.tags := rfl
@[simp] theorem onTile_txs (n : Nat) (f : Tile → Tile) (s : State) : (onTile n f s).txs = s.txs := rfl
@[simp] theorem onTile_recSeq (n : Nat) (f : Tile → Tile) (s : State) : (onTile n f s).recSeq = s.recSeq := rfl
@[simp] theorem onTile_rot (n : Nat) (f : Tile → Tile) (s : State) : (onTile n f s).rot = s.rot := rfl
@[simp] theorem onTile_programs (n : Nat) (f : Tile → Tile) (s : State) : (onTile n f s).programs = s.programs := rfl
@[simp] theorem onTile_mem (n : Nat) (f : Tile → Tile) (s : State) : (onTile n f s).mem = s.mem := rfl
@[simp] theorem onTile_csr (n : Nat) (f : Tile → Tile) (s : State) : (onTile n f s).csr = s.csr := rfl
@[simp] theorem onTile_latch (n : Nat) (f : Tile → Tile) (s : State) : (onTile n f s).latch = s.latch := rfl
@[simp] theorem onTile_ev (n : Nat) (f : Tile → Tile) (s : State) : (onTile n f s).ev = s.ev := rfl
@[simp] theorem onTile_pins (n : Nat) (f : Tile → Tile) (s : State) : (onTile n f s).pins = s.pins := rfl
@[simp] theorem onTile_kv (n : Nat) (f : Tile → Tile) (s : State) : (onTile n f s).kv = s.kv := rfl
@[simp] theorem onTile_net (n : Nat) (f : Tile → Tile) (s : State) : (onTile n f s).net = s.net := rfl
@[simp] theorem onTile_bat (n : Nat) (f : Tile → Tile) (s : State) : (onTile n f s).bat = s.bat := rfl
@[simp] theorem onTile_sec (n : Nat) (f : Tile → Tile) (s : State) : (onTile n f s).sec = s.sec := rfl
@[simp] theorem onTile_front (n : Nat) (f : Tile → Tile) (s : State) : (onTile n f s).front = s.front := rfl
@[simp] theorem onTile_pow (n : Nat) (f : Tile → Tile) (s : State) : (onTile n f s).pow = s.pow := rfl
@[simp] theorem onTile_test (n : Nat) (f : Tile → Tile) (s : State) : (onTile n f s).test = s.test := rfl
@[simp] theorem onTile_store (n : Nat) (f : Tile → Tile) (s : State) : (onTile n f s).store = s.store := rfl
@[simp] theorem onTile_boot (n : Nat) (f : Tile → Tile) (s : State) : (onTile n f s).boot = s.boot := rfl
@[simp] theorem onTile_side (n : Nat) (f : Tile → Tile) (s : State) : (onTile n f s).side = s.side := rfl

/-! Fields that `onSweeps` leaves. -/

@[simp] theorem onSweeps_pending (f : Sweeps → Sweeps) (s : State) : (onSweeps f s).pending = s.pending := rfl
@[simp] theorem onSweeps_free (f : Sweeps → Sweeps) (s : State) : (onSweeps f s).free = s.free := rfl
@[simp] theorem onSweeps_clk (f : Sweeps → Sweeps) (s : State) : (onSweeps f s).clk = s.clk := rfl
@[simp] theorem onSweeps_threads (f : Sweeps → Sweeps) (s : State) : (onSweeps f s).threads = s.threads := rfl
@[simp] theorem onSweeps_tags (f : Sweeps → Sweeps) (s : State) : (onSweeps f s).tags = s.tags := rfl
@[simp] theorem onSweeps_txs (f : Sweeps → Sweeps) (s : State) : (onSweeps f s).txs = s.txs := rfl
@[simp] theorem onSweeps_recSeq (f : Sweeps → Sweeps) (s : State) : (onSweeps f s).recSeq = s.recSeq := rfl
@[simp] theorem onSweeps_rot (f : Sweeps → Sweeps) (s : State) : (onSweeps f s).rot = s.rot := rfl
@[simp] theorem onSweeps_programs (f : Sweeps → Sweeps) (s : State) : (onSweeps f s).programs = s.programs := rfl
@[simp] theorem onSweeps_mem (f : Sweeps → Sweeps) (s : State) : (onSweeps f s).mem = s.mem := rfl
@[simp] theorem onSweeps_csr (f : Sweeps → Sweeps) (s : State) : (onSweeps f s).csr = s.csr := rfl
@[simp] theorem onSweeps_latch (f : Sweeps → Sweeps) (s : State) : (onSweeps f s).latch = s.latch := rfl
@[simp] theorem onSweeps_ev (f : Sweeps → Sweeps) (s : State) : (onSweeps f s).ev = s.ev := rfl
@[simp] theorem onSweeps_pins (f : Sweeps → Sweeps) (s : State) : (onSweeps f s).pins = s.pins := rfl
@[simp] theorem onSweeps_kv (f : Sweeps → Sweeps) (s : State) : (onSweeps f s).kv = s.kv := rfl
@[simp] theorem onSweeps_net (f : Sweeps → Sweeps) (s : State) : (onSweeps f s).net = s.net := rfl
@[simp] theorem onSweeps_bat (f : Sweeps → Sweeps) (s : State) : (onSweeps f s).bat = s.bat := rfl
@[simp] theorem onSweeps_sec (f : Sweeps → Sweeps) (s : State) : (onSweeps f s).sec = s.sec := rfl
@[simp] theorem onSweeps_front (f : Sweeps → Sweeps) (s : State) : (onSweeps f s).front = s.front := rfl
@[simp] theorem onSweeps_pow (f : Sweeps → Sweeps) (s : State) : (onSweeps f s).pow = s.pow := rfl
@[simp] theorem onSweeps_test (f : Sweeps → Sweeps) (s : State) : (onSweeps f s).test = s.test := rfl
@[simp] theorem onSweeps_store (f : Sweeps → Sweeps) (s : State) : (onSweeps f s).store = s.store := rfl
@[simp] theorem onSweeps_boot (f : Sweeps → Sweeps) (s : State) : (onSweeps f s).boot = s.boot := rfl
@[simp] theorem onSweeps_side (f : Sweeps → Sweeps) (s : State) : (onSweeps f s).side = s.side := rfl

/-! Fields that `onRegion` leaves. -/

@[simp] theorem onRegion_pending (id : Nat) (f : Region → Region) (s : State) : (onRegion id f s).pending = s.pending := rfl
@[simp] theorem onRegion_free (id : Nat) (f : Region → Region) (s : State) : (onRegion id f s).free = s.free := rfl
@[simp] theorem onRegion_clk (id : Nat) (f : Region → Region) (s : State) : (onRegion id f s).clk = s.clk := rfl
@[simp] theorem onRegion_threads (id : Nat) (f : Region → Region) (s : State) : (onRegion id f s).threads = s.threads := rfl
@[simp] theorem onRegion_tags (id : Nat) (f : Region → Region) (s : State) : (onRegion id f s).tags = s.tags := rfl
@[simp] theorem onRegion_txs (id : Nat) (f : Region → Region) (s : State) : (onRegion id f s).txs = s.txs := rfl
@[simp] theorem onRegion_recSeq (id : Nat) (f : Region → Region) (s : State) : (onRegion id f s).recSeq = s.recSeq := rfl
@[simp] theorem onRegion_rot (id : Nat) (f : Region → Region) (s : State) : (onRegion id f s).rot = s.rot := rfl
@[simp] theorem onRegion_programs (id : Nat) (f : Region → Region) (s : State) : (onRegion id f s).programs = s.programs := rfl
@[simp] theorem onRegion_mem (id : Nat) (f : Region → Region) (s : State) : (onRegion id f s).mem = s.mem := rfl
@[simp] theorem onRegion_csr (id : Nat) (f : Region → Region) (s : State) : (onRegion id f s).csr = s.csr := rfl
@[simp] theorem onRegion_latch (id : Nat) (f : Region → Region) (s : State) : (onRegion id f s).latch = s.latch := rfl
@[simp] theorem onRegion_ev (id : Nat) (f : Region → Region) (s : State) : (onRegion id f s).ev = s.ev := rfl
@[simp] theorem onRegion_pins (id : Nat) (f : Region → Region) (s : State) : (onRegion id f s).pins = s.pins := rfl
@[simp] theorem onRegion_kv (id : Nat) (f : Region → Region) (s : State) : (onRegion id f s).kv = s.kv := rfl
@[simp] theorem onRegion_net (id : Nat) (f : Region → Region) (s : State) : (onRegion id f s).net = s.net := rfl
@[simp] theorem onRegion_bat (id : Nat) (f : Region → Region) (s : State) : (onRegion id f s).bat = s.bat := rfl
@[simp] theorem onRegion_sec (id : Nat) (f : Region → Region) (s : State) : (onRegion id f s).sec = s.sec := rfl
@[simp] theorem onRegion_front (id : Nat) (f : Region → Region) (s : State) : (onRegion id f s).front = s.front := rfl
@[simp] theorem onRegion_pow (id : Nat) (f : Region → Region) (s : State) : (onRegion id f s).pow = s.pow := rfl
@[simp] theorem onRegion_test (id : Nat) (f : Region → Region) (s : State) : (onRegion id f s).test = s.test := rfl
@[simp] theorem onRegion_store (id : Nat) (f : Region → Region) (s : State) : (onRegion id f s).store = s.store := rfl
@[simp] theorem onRegion_boot (id : Nat) (f : Region → Region) (s : State) : (onRegion id f s).boot = s.boot := rfl
@[simp] theorem onRegion_side (id : Nat) (f : Region → Region) (s : State) : (onRegion id f s).side = s.side := rfl

/-! Fields that `onBank` leaves. -/

@[simp] theorem onBank_pending (b : Nat) (f : Bank → Bank) (s : State) : (onBank b f s).pending = s.pending := rfl
@[simp] theorem onBank_free (b : Nat) (f : Bank → Bank) (s : State) : (onBank b f s).free = s.free := rfl
@[simp] theorem onBank_clk (b : Nat) (f : Bank → Bank) (s : State) : (onBank b f s).clk = s.clk := rfl
@[simp] theorem onBank_threads (b : Nat) (f : Bank → Bank) (s : State) : (onBank b f s).threads = s.threads := rfl
@[simp] theorem onBank_tags (b : Nat) (f : Bank → Bank) (s : State) : (onBank b f s).tags = s.tags := rfl
@[simp] theorem onBank_txs (b : Nat) (f : Bank → Bank) (s : State) : (onBank b f s).txs = s.txs := rfl
@[simp] theorem onBank_recSeq (b : Nat) (f : Bank → Bank) (s : State) : (onBank b f s).recSeq = s.recSeq := rfl
@[simp] theorem onBank_rot (b : Nat) (f : Bank → Bank) (s : State) : (onBank b f s).rot = s.rot := rfl
@[simp] theorem onBank_programs (b : Nat) (f : Bank → Bank) (s : State) : (onBank b f s).programs = s.programs := rfl
@[simp] theorem onBank_csr (b : Nat) (f : Bank → Bank) (s : State) : (onBank b f s).csr = s.csr := rfl
@[simp] theorem onBank_latch (b : Nat) (f : Bank → Bank) (s : State) : (onBank b f s).latch = s.latch := rfl
@[simp] theorem onBank_ev (b : Nat) (f : Bank → Bank) (s : State) : (onBank b f s).ev = s.ev := rfl
@[simp] theorem onBank_pins (b : Nat) (f : Bank → Bank) (s : State) : (onBank b f s).pins = s.pins := rfl
@[simp] theorem onBank_arr (b : Nat) (f : Bank → Bank) (s : State) : (onBank b f s).arr = s.arr := rfl
@[simp] theorem onBank_kv (b : Nat) (f : Bank → Bank) (s : State) : (onBank b f s).kv = s.kv := rfl
@[simp] theorem onBank_net (b : Nat) (f : Bank → Bank) (s : State) : (onBank b f s).net = s.net := rfl
@[simp] theorem onBank_bat (b : Nat) (f : Bank → Bank) (s : State) : (onBank b f s).bat = s.bat := rfl
@[simp] theorem onBank_sec (b : Nat) (f : Bank → Bank) (s : State) : (onBank b f s).sec = s.sec := rfl
@[simp] theorem onBank_front (b : Nat) (f : Bank → Bank) (s : State) : (onBank b f s).front = s.front := rfl
@[simp] theorem onBank_pow (b : Nat) (f : Bank → Bank) (s : State) : (onBank b f s).pow = s.pow := rfl
@[simp] theorem onBank_test (b : Nat) (f : Bank → Bank) (s : State) : (onBank b f s).test = s.test := rfl
@[simp] theorem onBank_store (b : Nat) (f : Bank → Bank) (s : State) : (onBank b f s).store = s.store := rfl
@[simp] theorem onBank_boot (b : Nat) (f : Bank → Bank) (s : State) : (onBank b f s).boot = s.boot := rfl
@[simp] theorem onBank_side (b : Nat) (f : Bank → Bank) (s : State) : (onBank b f s).side = s.side := rfl

/-! Fields that `onKv` leaves. -/

@[simp] theorem onKv_pending (f : Kv → Kv) (s : State) : (onKv f s).pending = s.pending := rfl
@[simp] theorem onKv_free (f : Kv → Kv) (s : State) : (onKv f s).free = s.free := rfl
@[simp] theorem onKv_clk (f : Kv → Kv) (s : State) : (onKv f s).clk = s.clk := rfl
@[simp] theorem onKv_threads (f : Kv → Kv) (s : State) : (onKv f s).threads = s.threads := rfl
@[simp] theorem onKv_tags (f : Kv → Kv) (s : State) : (onKv f s).tags = s.tags := rfl
@[simp] theorem onKv_txs (f : Kv → Kv) (s : State) : (onKv f s).txs = s.txs := rfl
@[simp] theorem onKv_recSeq (f : Kv → Kv) (s : State) : (onKv f s).recSeq = s.recSeq := rfl
@[simp] theorem onKv_rot (f : Kv → Kv) (s : State) : (onKv f s).rot = s.rot := rfl
@[simp] theorem onKv_programs (f : Kv → Kv) (s : State) : (onKv f s).programs = s.programs := rfl
@[simp] theorem onKv_mem (f : Kv → Kv) (s : State) : (onKv f s).mem = s.mem := rfl
@[simp] theorem onKv_csr (f : Kv → Kv) (s : State) : (onKv f s).csr = s.csr := rfl
@[simp] theorem onKv_latch (f : Kv → Kv) (s : State) : (onKv f s).latch = s.latch := rfl
@[simp] theorem onKv_ev (f : Kv → Kv) (s : State) : (onKv f s).ev = s.ev := rfl
@[simp] theorem onKv_pins (f : Kv → Kv) (s : State) : (onKv f s).pins = s.pins := rfl
@[simp] theorem onKv_arr (f : Kv → Kv) (s : State) : (onKv f s).arr = s.arr := rfl
@[simp] theorem onKv_net (f : Kv → Kv) (s : State) : (onKv f s).net = s.net := rfl
@[simp] theorem onKv_bat (f : Kv → Kv) (s : State) : (onKv f s).bat = s.bat := rfl
@[simp] theorem onKv_sec (f : Kv → Kv) (s : State) : (onKv f s).sec = s.sec := rfl
@[simp] theorem onKv_front (f : Kv → Kv) (s : State) : (onKv f s).front = s.front := rfl
@[simp] theorem onKv_pow (f : Kv → Kv) (s : State) : (onKv f s).pow = s.pow := rfl
@[simp] theorem onKv_test (f : Kv → Kv) (s : State) : (onKv f s).test = s.test := rfl
@[simp] theorem onKv_store (f : Kv → Kv) (s : State) : (onKv f s).store = s.store := rfl
@[simp] theorem onKv_boot (f : Kv → Kv) (s : State) : (onKv f s).boot = s.boot := rfl
@[simp] theorem onKv_side (f : Kv → Kv) (s : State) : (onKv f s).side = s.side := rfl

/-! Fields that `onBat` leaves. -/

@[simp] theorem onBat_pending (f : Batcher → Batcher) (s : State) : (onBat f s).pending = s.pending := rfl
@[simp] theorem onBat_free (f : Batcher → Batcher) (s : State) : (onBat f s).free = s.free := rfl
@[simp] theorem onBat_clk (f : Batcher → Batcher) (s : State) : (onBat f s).clk = s.clk := rfl
@[simp] theorem onBat_threads (f : Batcher → Batcher) (s : State) : (onBat f s).threads = s.threads := rfl
@[simp] theorem onBat_tags (f : Batcher → Batcher) (s : State) : (onBat f s).tags = s.tags := rfl
@[simp] theorem onBat_txs (f : Batcher → Batcher) (s : State) : (onBat f s).txs = s.txs := rfl
@[simp] theorem onBat_recSeq (f : Batcher → Batcher) (s : State) : (onBat f s).recSeq = s.recSeq := rfl
@[simp] theorem onBat_rot (f : Batcher → Batcher) (s : State) : (onBat f s).rot = s.rot := rfl
@[simp] theorem onBat_programs (f : Batcher → Batcher) (s : State) : (onBat f s).programs = s.programs := rfl
@[simp] theorem onBat_mem (f : Batcher → Batcher) (s : State) : (onBat f s).mem = s.mem := rfl
@[simp] theorem onBat_csr (f : Batcher → Batcher) (s : State) : (onBat f s).csr = s.csr := rfl
@[simp] theorem onBat_latch (f : Batcher → Batcher) (s : State) : (onBat f s).latch = s.latch := rfl
@[simp] theorem onBat_ev (f : Batcher → Batcher) (s : State) : (onBat f s).ev = s.ev := rfl
@[simp] theorem onBat_pins (f : Batcher → Batcher) (s : State) : (onBat f s).pins = s.pins := rfl
@[simp] theorem onBat_arr (f : Batcher → Batcher) (s : State) : (onBat f s).arr = s.arr := rfl
@[simp] theorem onBat_kv (f : Batcher → Batcher) (s : State) : (onBat f s).kv = s.kv := rfl
@[simp] theorem onBat_net (f : Batcher → Batcher) (s : State) : (onBat f s).net = s.net := rfl
@[simp] theorem onBat_sec (f : Batcher → Batcher) (s : State) : (onBat f s).sec = s.sec := rfl
@[simp] theorem onBat_front (f : Batcher → Batcher) (s : State) : (onBat f s).front = s.front := rfl
@[simp] theorem onBat_pow (f : Batcher → Batcher) (s : State) : (onBat f s).pow = s.pow := rfl
@[simp] theorem onBat_test (f : Batcher → Batcher) (s : State) : (onBat f s).test = s.test := rfl
@[simp] theorem onBat_store (f : Batcher → Batcher) (s : State) : (onBat f s).store = s.store := rfl
@[simp] theorem onBat_boot (f : Batcher → Batcher) (s : State) : (onBat f s).boot = s.boot := rfl
@[simp] theorem onBat_side (f : Batcher → Batcher) (s : State) : (onBat f s).side = s.side := rfl

/-! Fields that `onPow` leaves. -/

@[simp] theorem onPow_pending (f : Power → Power) (s : State) : (onPow f s).pending = s.pending := rfl
@[simp] theorem onPow_free (f : Power → Power) (s : State) : (onPow f s).free = s.free := rfl
@[simp] theorem onPow_clk (f : Power → Power) (s : State) : (onPow f s).clk = s.clk := rfl
@[simp] theorem onPow_threads (f : Power → Power) (s : State) : (onPow f s).threads = s.threads := rfl
@[simp] theorem onPow_tags (f : Power → Power) (s : State) : (onPow f s).tags = s.tags := rfl
@[simp] theorem onPow_txs (f : Power → Power) (s : State) : (onPow f s).txs = s.txs := rfl
@[simp] theorem onPow_recSeq (f : Power → Power) (s : State) : (onPow f s).recSeq = s.recSeq := rfl
@[simp] theorem onPow_rot (f : Power → Power) (s : State) : (onPow f s).rot = s.rot := rfl
@[simp] theorem onPow_programs (f : Power → Power) (s : State) : (onPow f s).programs = s.programs := rfl
@[simp] theorem onPow_mem (f : Power → Power) (s : State) : (onPow f s).mem = s.mem := rfl
@[simp] theorem onPow_csr (f : Power → Power) (s : State) : (onPow f s).csr = s.csr := rfl
@[simp] theorem onPow_latch (f : Power → Power) (s : State) : (onPow f s).latch = s.latch := rfl
@[simp] theorem onPow_ev (f : Power → Power) (s : State) : (onPow f s).ev = s.ev := rfl
@[simp] theorem onPow_pins (f : Power → Power) (s : State) : (onPow f s).pins = s.pins := rfl
@[simp] theorem onPow_arr (f : Power → Power) (s : State) : (onPow f s).arr = s.arr := rfl
@[simp] theorem onPow_kv (f : Power → Power) (s : State) : (onPow f s).kv = s.kv := rfl
@[simp] theorem onPow_net (f : Power → Power) (s : State) : (onPow f s).net = s.net := rfl
@[simp] theorem onPow_bat (f : Power → Power) (s : State) : (onPow f s).bat = s.bat := rfl
@[simp] theorem onPow_sec (f : Power → Power) (s : State) : (onPow f s).sec = s.sec := rfl
@[simp] theorem onPow_front (f : Power → Power) (s : State) : (onPow f s).front = s.front := rfl
@[simp] theorem onPow_test (f : Power → Power) (s : State) : (onPow f s).test = s.test := rfl
@[simp] theorem onPow_store (f : Power → Power) (s : State) : (onPow f s).store = s.store := rfl
@[simp] theorem onPow_boot (f : Power → Power) (s : State) : (onPow f s).boot = s.boot := rfl
@[simp] theorem onPow_side (f : Power → Power) (s : State) : (onPow f s).side = s.side := rfl

/-! Fields that `onTest` leaves. -/

@[simp] theorem onTest_pending (f : SelfTest → SelfTest) (s : State) : (onTest f s).pending = s.pending := rfl
@[simp] theorem onTest_free (f : SelfTest → SelfTest) (s : State) : (onTest f s).free = s.free := rfl
@[simp] theorem onTest_clk (f : SelfTest → SelfTest) (s : State) : (onTest f s).clk = s.clk := rfl
@[simp] theorem onTest_threads (f : SelfTest → SelfTest) (s : State) : (onTest f s).threads = s.threads := rfl
@[simp] theorem onTest_tags (f : SelfTest → SelfTest) (s : State) : (onTest f s).tags = s.tags := rfl
@[simp] theorem onTest_txs (f : SelfTest → SelfTest) (s : State) : (onTest f s).txs = s.txs := rfl
@[simp] theorem onTest_recSeq (f : SelfTest → SelfTest) (s : State) : (onTest f s).recSeq = s.recSeq := rfl
@[simp] theorem onTest_rot (f : SelfTest → SelfTest) (s : State) : (onTest f s).rot = s.rot := rfl
@[simp] theorem onTest_programs (f : SelfTest → SelfTest) (s : State) : (onTest f s).programs = s.programs := rfl
@[simp] theorem onTest_mem (f : SelfTest → SelfTest) (s : State) : (onTest f s).mem = s.mem := rfl
@[simp] theorem onTest_csr (f : SelfTest → SelfTest) (s : State) : (onTest f s).csr = s.csr := rfl
@[simp] theorem onTest_latch (f : SelfTest → SelfTest) (s : State) : (onTest f s).latch = s.latch := rfl
@[simp] theorem onTest_ev (f : SelfTest → SelfTest) (s : State) : (onTest f s).ev = s.ev := rfl
@[simp] theorem onTest_pins (f : SelfTest → SelfTest) (s : State) : (onTest f s).pins = s.pins := rfl
@[simp] theorem onTest_arr (f : SelfTest → SelfTest) (s : State) : (onTest f s).arr = s.arr := rfl
@[simp] theorem onTest_kv (f : SelfTest → SelfTest) (s : State) : (onTest f s).kv = s.kv := rfl
@[simp] theorem onTest_net (f : SelfTest → SelfTest) (s : State) : (onTest f s).net = s.net := rfl
@[simp] theorem onTest_bat (f : SelfTest → SelfTest) (s : State) : (onTest f s).bat = s.bat := rfl
@[simp] theorem onTest_sec (f : SelfTest → SelfTest) (s : State) : (onTest f s).sec = s.sec := rfl
@[simp] theorem onTest_front (f : SelfTest → SelfTest) (s : State) : (onTest f s).front = s.front := rfl
@[simp] theorem onTest_pow (f : SelfTest → SelfTest) (s : State) : (onTest f s).pow = s.pow := rfl
@[simp] theorem onTest_store (f : SelfTest → SelfTest) (s : State) : (onTest f s).store = s.store := rfl
@[simp] theorem onTest_boot (f : SelfTest → SelfTest) (s : State) : (onTest f s).boot = s.boot := rfl
@[simp] theorem onTest_side (f : SelfTest → SelfTest) (s : State) : (onTest f s).side = s.side := rfl

/-! Fields that `setSess` leaves. -/

@[simp] theorem setSess_pending (i : Nat) (x : Session) (s : State) : (setSess i x s).pending = s.pending := rfl
@[simp] theorem setSess_free (i : Nat) (x : Session) (s : State) : (setSess i x s).free = s.free := rfl
@[simp] theorem setSess_clk (i : Nat) (x : Session) (s : State) : (setSess i x s).clk = s.clk := rfl
@[simp] theorem setSess_threads (i : Nat) (x : Session) (s : State) : (setSess i x s).threads = s.threads := rfl
@[simp] theorem setSess_tags (i : Nat) (x : Session) (s : State) : (setSess i x s).tags = s.tags := rfl
@[simp] theorem setSess_txs (i : Nat) (x : Session) (s : State) : (setSess i x s).txs = s.txs := rfl
@[simp] theorem setSess_recSeq (i : Nat) (x : Session) (s : State) : (setSess i x s).recSeq = s.recSeq := rfl
@[simp] theorem setSess_rot (i : Nat) (x : Session) (s : State) : (setSess i x s).rot = s.rot := rfl
@[simp] theorem setSess_programs (i : Nat) (x : Session) (s : State) : (setSess i x s).programs = s.programs := rfl
@[simp] theorem setSess_mem (i : Nat) (x : Session) (s : State) : (setSess i x s).mem = s.mem := rfl
@[simp] theorem setSess_csr (i : Nat) (x : Session) (s : State) : (setSess i x s).csr = s.csr := rfl
@[simp] theorem setSess_latch (i : Nat) (x : Session) (s : State) : (setSess i x s).latch = s.latch := rfl
@[simp] theorem setSess_ev (i : Nat) (x : Session) (s : State) : (setSess i x s).ev = s.ev := rfl
@[simp] theorem setSess_pins (i : Nat) (x : Session) (s : State) : (setSess i x s).pins = s.pins := rfl
@[simp] theorem setSess_arr (i : Nat) (x : Session) (s : State) : (setSess i x s).arr = s.arr := rfl
@[simp] theorem setSess_kv (i : Nat) (x : Session) (s : State) : (setSess i x s).kv = s.kv := rfl
@[simp] theorem setSess_bat (i : Nat) (x : Session) (s : State) : (setSess i x s).bat = s.bat := rfl
@[simp] theorem setSess_sec (i : Nat) (x : Session) (s : State) : (setSess i x s).sec = s.sec := rfl
@[simp] theorem setSess_front (i : Nat) (x : Session) (s : State) : (setSess i x s).front = s.front := rfl
@[simp] theorem setSess_pow (i : Nat) (x : Session) (s : State) : (setSess i x s).pow = s.pow := rfl
@[simp] theorem setSess_test (i : Nat) (x : Session) (s : State) : (setSess i x s).test = s.test := rfl
@[simp] theorem setSess_store (i : Nat) (x : Session) (s : State) : (setSess i x s).store = s.store := rfl
@[simp] theorem setSess_boot (i : Nat) (x : Session) (s : State) : (setSess i x s).boot = s.boot := rfl
@[simp] theorem setSess_side (i : Nat) (x : Session) (s : State) : (setSess i x s).side = s.side := rfl

/-! Fields that `onSess` leaves. -/

@[simp] theorem onSess_pending (i : Nat) (f : Session → Session) (s : State) : (onSess i f s).pending = s.pending := rfl
@[simp] theorem onSess_free (i : Nat) (f : Session → Session) (s : State) : (onSess i f s).free = s.free := rfl
@[simp] theorem onSess_clk (i : Nat) (f : Session → Session) (s : State) : (onSess i f s).clk = s.clk := rfl
@[simp] theorem onSess_threads (i : Nat) (f : Session → Session) (s : State) : (onSess i f s).threads = s.threads := rfl
@[simp] theorem onSess_tags (i : Nat) (f : Session → Session) (s : State) : (onSess i f s).tags = s.tags := rfl
@[simp] theorem onSess_txs (i : Nat) (f : Session → Session) (s : State) : (onSess i f s).txs = s.txs := rfl
@[simp] theorem onSess_recSeq (i : Nat) (f : Session → Session) (s : State) : (onSess i f s).recSeq = s.recSeq := rfl
@[simp] theorem onSess_rot (i : Nat) (f : Session → Session) (s : State) : (onSess i f s).rot = s.rot := rfl
@[simp] theorem onSess_programs (i : Nat) (f : Session → Session) (s : State) : (onSess i f s).programs = s.programs := rfl
@[simp] theorem onSess_mem (i : Nat) (f : Session → Session) (s : State) : (onSess i f s).mem = s.mem := rfl
@[simp] theorem onSess_csr (i : Nat) (f : Session → Session) (s : State) : (onSess i f s).csr = s.csr := rfl
@[simp] theorem onSess_latch (i : Nat) (f : Session → Session) (s : State) : (onSess i f s).latch = s.latch := rfl
@[simp] theorem onSess_ev (i : Nat) (f : Session → Session) (s : State) : (onSess i f s).ev = s.ev := rfl
@[simp] theorem onSess_pins (i : Nat) (f : Session → Session) (s : State) : (onSess i f s).pins = s.pins := rfl
@[simp] theorem onSess_arr (i : Nat) (f : Session → Session) (s : State) : (onSess i f s).arr = s.arr := rfl
@[simp] theorem onSess_kv (i : Nat) (f : Session → Session) (s : State) : (onSess i f s).kv = s.kv := rfl
@[simp] theorem onSess_bat (i : Nat) (f : Session → Session) (s : State) : (onSess i f s).bat = s.bat := rfl
@[simp] theorem onSess_sec (i : Nat) (f : Session → Session) (s : State) : (onSess i f s).sec = s.sec := rfl
@[simp] theorem onSess_front (i : Nat) (f : Session → Session) (s : State) : (onSess i f s).front = s.front := rfl
@[simp] theorem onSess_pow (i : Nat) (f : Session → Session) (s : State) : (onSess i f s).pow = s.pow := rfl
@[simp] theorem onSess_test (i : Nat) (f : Session → Session) (s : State) : (onSess i f s).test = s.test := rfl
@[simp] theorem onSess_store (i : Nat) (f : Session → Session) (s : State) : (onSess i f s).store = s.store := rfl
@[simp] theorem onSess_boot (i : Nat) (f : Session → Session) (s : State) : (onSess i f s).boot = s.boot := rfl
@[simp] theorem onSess_side (i : Nat) (f : Session → Session) (s : State) : (onSess i f s).side = s.side := rfl

/-! Fields that `bumpSat` leaves. -/

@[simp] theorem bumpSat_pending (a hi lo n : Nat) (s : State) : (bumpSat a hi lo n s).pending = s.pending := rfl
@[simp] theorem bumpSat_free (a hi lo n : Nat) (s : State) : (bumpSat a hi lo n s).free = s.free := rfl
@[simp] theorem bumpSat_clk (a hi lo n : Nat) (s : State) : (bumpSat a hi lo n s).clk = s.clk := rfl
@[simp] theorem bumpSat_threads (a hi lo n : Nat) (s : State) : (bumpSat a hi lo n s).threads = s.threads := rfl
@[simp] theorem bumpSat_tags (a hi lo n : Nat) (s : State) : (bumpSat a hi lo n s).tags = s.tags := rfl
@[simp] theorem bumpSat_txs (a hi lo n : Nat) (s : State) : (bumpSat a hi lo n s).txs = s.txs := rfl
@[simp] theorem bumpSat_recSeq (a hi lo n : Nat) (s : State) : (bumpSat a hi lo n s).recSeq = s.recSeq := rfl
@[simp] theorem bumpSat_rot (a hi lo n : Nat) (s : State) : (bumpSat a hi lo n s).rot = s.rot := rfl
@[simp] theorem bumpSat_programs (a hi lo n : Nat) (s : State) : (bumpSat a hi lo n s).programs = s.programs := rfl
@[simp] theorem bumpSat_mem (a hi lo n : Nat) (s : State) : (bumpSat a hi lo n s).mem = s.mem := rfl
@[simp] theorem bumpSat_latch (a hi lo n : Nat) (s : State) : (bumpSat a hi lo n s).latch = s.latch := rfl
@[simp] theorem bumpSat_ev (a hi lo n : Nat) (s : State) : (bumpSat a hi lo n s).ev = s.ev := rfl
@[simp] theorem bumpSat_pins (a hi lo n : Nat) (s : State) : (bumpSat a hi lo n s).pins = s.pins := rfl
@[simp] theorem bumpSat_arr (a hi lo n : Nat) (s : State) : (bumpSat a hi lo n s).arr = s.arr := rfl
@[simp] theorem bumpSat_kv (a hi lo n : Nat) (s : State) : (bumpSat a hi lo n s).kv = s.kv := rfl
@[simp] theorem bumpSat_net (a hi lo n : Nat) (s : State) : (bumpSat a hi lo n s).net = s.net := rfl
@[simp] theorem bumpSat_bat (a hi lo n : Nat) (s : State) : (bumpSat a hi lo n s).bat = s.bat := rfl
@[simp] theorem bumpSat_sec (a hi lo n : Nat) (s : State) : (bumpSat a hi lo n s).sec = s.sec := rfl
@[simp] theorem bumpSat_front (a hi lo n : Nat) (s : State) : (bumpSat a hi lo n s).front = s.front := rfl
@[simp] theorem bumpSat_pow (a hi lo n : Nat) (s : State) : (bumpSat a hi lo n s).pow = s.pow := rfl
@[simp] theorem bumpSat_test (a hi lo n : Nat) (s : State) : (bumpSat a hi lo n s).test = s.test := rfl
@[simp] theorem bumpSat_store (a hi lo n : Nat) (s : State) : (bumpSat a hi lo n s).store = s.store := rfl
@[simp] theorem bumpSat_boot (a hi lo n : Nat) (s : State) : (bumpSat a hi lo n s).boot = s.boot := rfl
@[simp] theorem bumpSat_side (a hi lo n : Nat) (s : State) : (bumpSat a hi lo n s).side = s.side := rfl

/-! Fields that `onFuses` leaves. -/

@[simp] theorem onFuses_pending (f : Fuses → Fuses) (s : State) : (onFuses f s).pending = s.pending := rfl
@[simp] theorem onFuses_free (f : Fuses → Fuses) (s : State) : (onFuses f s).free = s.free := rfl
@[simp] theorem onFuses_clk (f : Fuses → Fuses) (s : State) : (onFuses f s).clk = s.clk := rfl
@[simp] theorem onFuses_threads (f : Fuses → Fuses) (s : State) : (onFuses f s).threads = s.threads := rfl
@[simp] theorem onFuses_tags (f : Fuses → Fuses) (s : State) : (onFuses f s).tags = s.tags := rfl
@[simp] theorem onFuses_txs (f : Fuses → Fuses) (s : State) : (onFuses f s).txs = s.txs := rfl
@[simp] theorem onFuses_recSeq (f : Fuses → Fuses) (s : State) : (onFuses f s).recSeq = s.recSeq := rfl
@[simp] theorem onFuses_rot (f : Fuses → Fuses) (s : State) : (onFuses f s).rot = s.rot := rfl
@[simp] theorem onFuses_programs (f : Fuses → Fuses) (s : State) : (onFuses f s).programs = s.programs := rfl
@[simp] theorem onFuses_mem (f : Fuses → Fuses) (s : State) : (onFuses f s).mem = s.mem := rfl
@[simp] theorem onFuses_csr (f : Fuses → Fuses) (s : State) : (onFuses f s).csr = s.csr := rfl
@[simp] theorem onFuses_latch (f : Fuses → Fuses) (s : State) : (onFuses f s).latch = s.latch := rfl
@[simp] theorem onFuses_ev (f : Fuses → Fuses) (s : State) : (onFuses f s).ev = s.ev := rfl
@[simp] theorem onFuses_pins (f : Fuses → Fuses) (s : State) : (onFuses f s).pins = s.pins := rfl
@[simp] theorem onFuses_arr (f : Fuses → Fuses) (s : State) : (onFuses f s).arr = s.arr := rfl
@[simp] theorem onFuses_kv (f : Fuses → Fuses) (s : State) : (onFuses f s).kv = s.kv := rfl
@[simp] theorem onFuses_net (f : Fuses → Fuses) (s : State) : (onFuses f s).net = s.net := rfl
@[simp] theorem onFuses_bat (f : Fuses → Fuses) (s : State) : (onFuses f s).bat = s.bat := rfl
@[simp] theorem onFuses_front (f : Fuses → Fuses) (s : State) : (onFuses f s).front = s.front := rfl
@[simp] theorem onFuses_pow (f : Fuses → Fuses) (s : State) : (onFuses f s).pow = s.pow := rfl
@[simp] theorem onFuses_test (f : Fuses → Fuses) (s : State) : (onFuses f s).test = s.test := rfl
@[simp] theorem onFuses_store (f : Fuses → Fuses) (s : State) : (onFuses f s).store = s.store := rfl
@[simp] theorem onFuses_boot (f : Fuses → Fuses) (s : State) : (onFuses f s).boot = s.boot := rfl
@[simp] theorem onFuses_side (f : Fuses → Fuses) (s : State) : (onFuses f s).side = s.side := rfl

/-! Fields that `raise` leaves: all but the log. -/

@[simp] theorem raise_pending (r : Raise) (s : State) : (raise r s).pending = s.pending := by unfold raise; split <;> rfl
@[simp] theorem raise_free (r : Raise) (s : State) : (raise r s).free = s.free := by unfold raise; split <;> rfl
@[simp] theorem raise_clk (r : Raise) (s : State) : (raise r s).clk = s.clk := by unfold raise; split <;> rfl
@[simp] theorem raise_threads (r : Raise) (s : State) : (raise r s).threads = s.threads := by unfold raise; split <;> rfl
@[simp] theorem raise_tags (r : Raise) (s : State) : (raise r s).tags = s.tags := by unfold raise; split <;> rfl
@[simp] theorem raise_txs (r : Raise) (s : State) : (raise r s).txs = s.txs := by unfold raise; split <;> rfl
@[simp] theorem raise_recSeq (r : Raise) (s : State) : (raise r s).recSeq = s.recSeq := by unfold raise; split <;> rfl
@[simp] theorem raise_rot (r : Raise) (s : State) : (raise r s).rot = s.rot := by unfold raise; split <;> rfl
@[simp] theorem raise_programs (r : Raise) (s : State) : (raise r s).programs = s.programs := by unfold raise; split <;> rfl
@[simp] theorem raise_mem (r : Raise) (s : State) : (raise r s).mem = s.mem := by unfold raise; split <;> rfl
@[simp] theorem raise_csr (r : Raise) (s : State) : (raise r s).csr = s.csr := by unfold raise; split <;> rfl
@[simp] theorem raise_latch (r : Raise) (s : State) : (raise r s).latch = s.latch := by unfold raise; split <;> rfl
@[simp] theorem raise_pins (r : Raise) (s : State) : (raise r s).pins = s.pins := by unfold raise; split <;> rfl
@[simp] theorem raise_arr (r : Raise) (s : State) : (raise r s).arr = s.arr := by unfold raise; split <;> rfl
@[simp] theorem raise_kv (r : Raise) (s : State) : (raise r s).kv = s.kv := by unfold raise; split <;> rfl
@[simp] theorem raise_net (r : Raise) (s : State) : (raise r s).net = s.net := by unfold raise; split <;> rfl
@[simp] theorem raise_bat (r : Raise) (s : State) : (raise r s).bat = s.bat := by unfold raise; split <;> rfl
@[simp] theorem raise_sec (r : Raise) (s : State) : (raise r s).sec = s.sec := by unfold raise; split <;> rfl
@[simp] theorem raise_front (r : Raise) (s : State) : (raise r s).front = s.front := by unfold raise; split <;> rfl
@[simp] theorem raise_pow (r : Raise) (s : State) : (raise r s).pow = s.pow := by unfold raise; split <;> rfl
@[simp] theorem raise_test (r : Raise) (s : State) : (raise r s).test = s.test := by unfold raise; split <;> rfl
@[simp] theorem raise_store (r : Raise) (s : State) : (raise r s).store = s.store := by unfold raise; split <;> rfl
@[simp] theorem raise_boot (r : Raise) (s : State) : (raise r s).boot = s.boot := by unfold raise; split <;> rfl
@[simp] theorem raise_side (r : Raise) (s : State) : (raise r s).side = s.side := by unfold raise; split <;> rfl

/-! Reads after the updates that leave them. -/

@[simp] theorem settle_word (s : State) (a : Nat) : (settle s).word a = s.word a := rfl
@[simp] theorem settle_field (s : State) (a hi lo : Nat) : (settle s).field a hi lo = s.field a hi lo := rfl
@[simp] theorem settle_thr (s : State) (n : Nat) : (settle s).thr n = s.thr n := rfl
@[simp] theorem settle_tag (s : State) (c n : Nat) : (settle s).tag c n = s.tag c n := rfl
@[simp] theorem settle_sess (s : State) (i : Nat) : (settle s).sess i = s.sess i := rfl
@[simp] theorem raise_word (r : Raise) (s : State) (a : Nat) : (raise r s).word a = s.word a := by simp [State.word]
@[simp] theorem raise_field (r : Raise) (s : State) (a hi lo : Nat) : (raise r s).field a hi lo = s.field a hi lo := by simp [State.field]
@[simp] theorem raise_thr (r : Raise) (s : State) (n : Nat) : (raise r s).thr n = s.thr n := by simp [State.thr]
@[simp] theorem raise_tag (r : Raise) (s : State) (c n : Nat) : (raise r s).tag c n = s.tag c n := by simp [State.tag]
@[simp] theorem raise_sess (r : Raise) (s : State) (i : Nat) : (raise r s).sess i = s.sess i := by simp [State.sess]

/-- A meaning's outcome is the next state, its pins driven. -/
theorem done_eq (s : State) : done s = .next (settle s) := rfl

end Sys2Proof.Machine
end

