-- ==== Sys2Proof/Laws/Issue.lean ====
section
/-! SUPPORT. Threads, their registers, and what issuing an instruction does once its checks pass. -/

namespace Sys2Proof.Machine

/-! Registers and predicates (R214). -/

/-- g0 reads 0. -/
@[simp] theorem Thread.reg_zero (x : Thread) : x.reg 0 = 0 := rfl

/-- A register reads what was written to it; g0 reads 0. -/
theorem Thread.reg_setReg (x : Thread) (i j : Nat) (v : Word64) :
    (x.setReg i v).reg j = if j = 0 then 0 else if j = i then v else x.reg j := by
  unfold Thread.reg Thread.setReg
  by_cases hj : j = 0
  · simp [hj]
  · by_cases hi : i = 0
    · subst hi; simp [hj]
    · simp only [hj, hi, if_false]; exact look_put _ _ _ _ _

/-- A predicate reads what was written to it; p0 reads 1. -/
theorem Thread.pred_setPred (x : Thread) (i j : Nat) (v : Bool) :
    (x.setPred i v).pred j = if j = 0 then true else if j = i then v else x.pred j := by
  unfold Thread.pred Thread.setPred
  by_cases hj : j = 0
  · simp [hj]
  · by_cases hi : i = 0
    · subst hi; simp [hj]
    · simp only [hj, hi, if_false]; exact look_put _ _ _ _ _

/-- Writing a register leaves the rest of the thread. -/
theorem Thread.setReg_frame (x : Thread) (i : Nat) (v : Word64) :
    (x.setReg i v).p = x.p ∧ (x.setReg i v).pc = x.pc ∧ (x.setReg i v).d = x.d ∧ (x.setReg i v).loops = x.loops
      ∧ (x.setReg i v).state = x.state ∧ (x.setReg i v).prio = x.prio ∧ (x.setReg i v).program = x.program := by
  unfold Thread.setReg; split <;> simp

/-- Writing a predicate leaves the rest of the thread. -/
theorem Thread.setPred_frame (x : Thread) (i : Nat) (v : Bool) :
    (x.setPred i v).g = x.g ∧ (x.setPred i v).pc = x.pc ∧ (x.setPred i v).d = x.d ∧ (x.setPred i v).loops = x.loops
      ∧ (x.setPred i v).state = x.state ∧ (x.setPred i v).prio = x.prio ∧ (x.setPred i v).program = x.program := by
  unfold Thread.setPred; split <;> simp

/-- The PC's advance leaves the registers. -/
theorem Thread.advance_frame (x : Thread) (n : Nat) :
    (x.advance n).g = x.g ∧ (x.advance n).p = x.p ∧ (x.advance n).d = x.d ∧ (x.advance n).state = x.state := by
  unfold Thread.advance
  simp only
  split
  · simp
  · split
    · split <;> simp
    · simp

/-! Threads in the state. -/

/-- A thread reads what was stored for it. -/
@[simp] theorem thr_setThr_self (n : Nat) (x : Thread) (s : State) : (setThr n x s).thr n = x := look_put_self _ _ _ _

/-- Other threads read as before. -/
theorem thr_setThr_ne (x : Thread) (s : State) {n j : Nat} (h : j ≠ n) : (setThr n x s).thr j = s.thr j := by
  unfold State.thr setThr; exact look_put_ne _ _ _ h

/-- A thread changed. -/
@[simp] theorem thr_onThr_self (n : Nat) (f : Thread → Thread) (s : State) : (onThr n f s).thr n = f (s.thr n) := look_put_self _ _ _ _

/-- Other threads read as before. -/
theorem thr_onThr_ne (f : Thread → Thread) (s : State) {n j : Nat} (h : j ≠ n) : (onThr n f s).thr j = s.thr j := by
  unfold State.thr onThr setThr; exact look_put_ne _ _ _ h

/-- The rotation changes no thread. -/
@[simp] theorem toBack_thr (c p k n : Nat) (s : State) : (toBack c p k s).thr n = s.thr n := rfl

/-- A register written, as its thread reads. -/
@[simp] theorem setG_thr (t : Who) (i : Nat) (v : Word64) (s : State) : (setG t i v s).thr t.num = (s.thr t.num).setReg i v := thr_onThr_self _ _ _

/-- A predicate written, as its thread reads. -/
@[simp] theorem setP_thr (t : Who) (i : Nat) (v : Bool) (s : State) : (setP t i v s).thr t.num = (s.thr t.num).setPred i v := thr_onThr_self _ _ _

/-- A word's read after a word's store. -/
theorem word_setWord (a b : Nat) (v : Word32) (s : State) : (setWord a v s).word b = if b = a then v else s.word b := by
  unfold State.word setWord
  by_cases h : b = a
  · subst h; simp
  · simp only [h, if_false]; exact look_put_other _ _ _ _ h

/-! What becomes of the thread. -/

@[simp] theorem Effect.carry_pass (t : Who) (n : Nat) (s0 s1 : State) : (Effect.pass s1).carry t n s0 = onThr t.num (fun y => y.advance n) s1 := rfl
@[simp] theorem Effect.carry_jump (t : Who) (n : Nat) (s0 s1 : State) (a : Word32) : (Effect.jump s1 a).carry t n s0 = onThr t.num (fun y => y.branch a) s1 := rfl
@[simp] theorem Effect.carry_stay (t : Who) (n : Nat) (s0 s1 : State) : (Effect.stay s1).carry t n s0 = s1 := rfl
@[simp] theorem Effect.carry_trap (t : Who) (n : Nat) (s0 : State) (c e i0 i1 g : Nat) : (Effect.trap c e i0 i1 g).carry t n s0 = takeTrap t c e i0 i1 g s0 := rfl

/-! Issue (R215, R218 to R220, R234). -/

/-- A thread that is not chosen issues nothing. -/
theorem issue_not_chosen (t : Who) (f : Form) (body : State → Effect) (s : State) (h : chosen s t = false) : issue t f body s = s := by
  unfold issue; simp [h]

/-- An instruction that runs does what its body says, on the state with its thread at the back of its rotation. -/
theorem issue_runs (t : Who) (f : Form) (body : State → Effect) (s : State) (h : Runs s t f) :
    issue t f body s =
      (body (toBack t.c.val (s.thr t.num).prio t.k.val s)).carry t f.words.length (toBack t.c.val (s.thr t.num).prio t.k.val s) := by
  obtain ⟨hc, hp, hl, hh, hi, hb, hv, hg⟩ := h
  have hhub : (f.hubOnly && decide (4 ≤ t.c.val)) = false := by
    cases hf : f.hubOnly
    · rfl
    · have := hh hf; simp; omega
  have hpriv : (f.priv && !(s.thr t.num).priv) = false := by
    cases hf : f.priv
    · rfl
    · simp [hv hf]
  have hguard : ((s.thr t.num).pred f.pg == f.pn) = false := by simpa using hg
  unfold issue
  simp only [hc, Bool.not_true, Bool.false_eq_true, if_false]
  rw [if_neg (Nat.not_lt.2 hp)]
  simp only [hl, hi, Bool.not_true, hhub, Bool.or_self, Bool.false_eq_true, if_false, hb, hpriv, hguard]

end Sys2Proof.Machine
end

