-- ==== Sys2Proof/Certificates/Slice0/Obligations.lean ====
section
/-! DEFINITION. The statements for the provers. Each docstring says what its statement says; OBLIGATIONS.json names its sections of spec/. -/

section

open Sys2Proof Sys2Proof.Machine

/-- A step carries out the command at the front of the queue on the state with the queue's rest. -/
def Obligations.StepRunsTheFrontCommand : Prop :=
  ∀ (c : Instr) (rest : List Instr) (s : State),
    step { s with pending := c :: rest } = Sys2Proof.Machine.exec c { s with pending := rest }

/-- Every command answers a next state: no command stops the model. With no command waiting, a step lets one period of the hub's step clock
pass: 2 halves of a nominal step, 3 or 4 under stretch level 1 or 2 (the model's choice for an idle step, log entry 4). Clauses that rest on
a choice of the model: log entries 4, 8. -/
def Obligations.EveryCommandAnswers : Prop :=
  (
  ∀ (c : Instr) (s : State), ∃ u, Sys2Proof.Machine.exec c s = .next u
  )
  ∧
  (
  ∀ s : State, s.pending = [] →
    ∃ u, step s = .next u ∧ u.clk.half = s.clk.half + 2 + look 0 s.clk.stretch 16 ∧ u.clk.steps = s.clk.steps + 1
      ∧ { u with clk := s.clk, pins := s.pins } = s
  )

/-- The machine right after reset: no thread holds a program, every tag is FREE, every register, predicate and descriptor slot of Table
SPM-2 is clear, no allocation is live, no byte differs from 0, the log is empty, no fuse is blown, the state is Off, and each register that
a table gives a reset value reads it. Registers and bytes without a stated value read 0 by the model's choice (log entries 1 and 5). At
reset the output pins agree with the state: ALERT_N is high, POWER_GOOD is held low and THERM_TRIP_N is high. -/
def Obligations.ResetAndItsPins : Prop :=
  (
  State.reset.pending = [] ∧ (∀ n, State.reset.thr n = {}) ∧ (∀ c g, State.reset.tag c g = .free) ∧ State.reset.txs = []
    ∧ State.reset.mem.allocs = [] ∧ (∀ a, State.reset.mem.read a = 0) ∧ State.reset.programs = [] ∧ State.reset.ev.ring = []
    ∧ State.reset.net.sessions = [] ∧ State.reset.sec.fuses = {} ∧ State.reset.arr.regions = [] ∧ State.reset.boot.powered = false
    ∧ State.reset.field 0x00000108 15 0 = 2000 ∧ State.reset.field 0x00000114 31 16 = 10 ∧ State.reset.field 0x000C0014 15 0 = 100
    ∧ State.reset.field 0x0005000C 31 0 = 9000
  )
  ∧
  (
  PinsAgree State.reset ∧ State.reset.pins.alertN = true ∧ State.reset.pins.powerGood = false ∧ State.reset.pins.thermTripN = true
  )

/-- Whatever a step carries out, its output pins agree with the state it leaves: ALERT_N is low exactly while an unmasked bit of
ALERT_STATUS is 1 or the block drives it low, POWER_GOOD is high exactly while the rails stand in tolerance, and THERM_TRIP_N is low exactly
while a trip holds it. -/
def Obligations.EveryStepKeepsThePins : Prop :=
 ∀ s u : State, PinsAgree s → step s = .next u → PinsAgree u

/-- g0 reads 0 and discards writes, p0 reads 1 and discards writes, and any other register or predicate reads what was written last. The PC
past an instruction of n words, and the loop stack: outside the end of the top body the PC counts n on; at its end another pass begins while
its count is above 1, and else the entry is popped. Registers, predicates and descriptors stay. -/
def Obligations.RegistersAndTheirThread : Prop :=
  (
  (∀ (x : Thread) (i j : Nat) (v : Word64), (x.setReg i v).reg j = if j = 0 then 0 else if j = i then v else x.reg j)
    ∧ (∀ (x : Thread) (i j : Nat) (v : Bool), (x.setPred i v).pred j = if j = 0 then true else if j = i then v else x.pred j)
    ∧ (∀ (x : Thread) (i j : Nat) (v : Word64), (x.setReg i v).pred j = x.pred j ∧ (x.setReg i v).desc j = x.desc j)
    ∧ (∀ (x : Thread) (i j : Nat) (v : Bool), (x.setPred i v).reg j = x.reg j ∧ (x.setPred i v).desc j = x.desc j)
    ∧ (∀ (x : Thread) (i : Nat) (v : Word64), (x.setReg i v).pc = x.pc ∧ (x.setReg i v).loops = x.loops)
    ∧ (∀ (x : Thread) (v : Word64) (w : Bool), x.setReg 0 v = x ∧ x.setPred 0 w = x)
  )
  ∧
  (
  ∀ (x : Thread) (n : Nat),
    (∀ i, (x.advance n).reg i = x.reg i ∧ (x.advance n).pred i = x.pred i ∧ (x.advance n).desc i = x.desc i)
    ∧ (x.loops = [] → x.advance n = { x with pc := x.pc + BitVec.ofNat 32 n })
    ∧ (∀ e rest, x.loops = e :: rest → e.stop ≠ x.pc.toNat + n - 1 → x.advance n = { x with pc := x.pc + BitVec.ofNat 32 n })
    ∧ (∀ e rest, x.loops = e :: rest → e.stop = x.pc.toNat + n - 1 → 1 < e.count →
        x.advance n = { x with pc := BitVec.ofNat 32 e.start, loops := { e with count := e.count - 1 } :: rest })
    ∧ (∀ e rest, x.loops = e :: rest → e.stop = x.pc.toNat + n - 1 → e.count ≤ 1 →
        x.advance n = { x with pc := x.pc + BitVec.ofNat 32 n, loops := rest })
  )

/-- R-format arithmetic: RD ← RA op RB, modulo 2^64; the quotient by 0 is all ones and the remainder by 0 is RA; shift amounts are RB[5:0].
Nothing else changes. I-format and L-format words: RD ← RA op IMM40 sign-extended, LI the sign-extended IMM46, LUI the upper half alone.
Nothing else changes. -/
def Obligations.IntegerArithmetic : Prop :=
  (
  ∀ (t : Who) (w : Head) (s : State),
    let a := s.g t (fld w 45 40)
    let b := s.g t (fld w 39 34)
    let d := fld w 51 46
    let ok (op : Nat) : Prop := Runs s t (control op w (fld w 33 0 == 0))
    (ok 0x10 → WritesReg t s d (BitVec.ofNat 64 (a.toNat + b.toNat)) (Sys2Proof.Machine.exec (.add t w) s))
    ∧ (ok 0x11 → WritesReg t s d (BitVec.ofNat 64 (2 ^ 64 + a.toNat - b.toNat)) (Sys2Proof.Machine.exec (.sub t w) s))
    ∧ (ok 0x12 → WritesReg t s d (BitVec.ofNat 64 (a.toNat * b.toNat)) (Sys2Proof.Machine.exec (.mul t w) s))
    ∧ (ok 0x13 → WritesReg t s d (BitVec.ofNat 64 (a.toNat * b.toNat / 2 ^ 64)) (Sys2Proof.Machine.exec (.mulhu t w) s))
    ∧ (ok 0x14 → WritesReg t s d (if b.toNat = 0 then 0xFFFFFFFFFFFFFFFF#64 else BitVec.ofNat 64 (a.toNat / b.toNat))
        (Sys2Proof.Machine.exec (.divu t w) s))
    ∧ (ok 0x15 → WritesReg t s d (if b.toNat = 0 then a else BitVec.ofNat 64 (a.toNat % b.toNat)) (Sys2Proof.Machine.exec (.remu t w) s))
    ∧ (ok 0x16 → WritesReg t s d (a &&& b) (Sys2Proof.Machine.exec (.and t w) s))
    ∧ (ok 0x17 → WritesReg t s d (a ||| b) (Sys2Proof.Machine.exec (.or t w) s))
    ∧ (ok 0x18 → WritesReg t s d (a ^^^ b) (Sys2Proof.Machine.exec (.xor t w) s))
    ∧ (ok 0x19 → WritesReg t s d (BitVec.ofNat 64 (a.toNat * 2 ^ (b.toNat % 64))) (Sys2Proof.Machine.exec (.shl t w) s))
    ∧ (ok 0x1A → WritesReg t s d (BitVec.ofNat 64 (a.toNat / 2 ^ (b.toNat % 64))) (Sys2Proof.Machine.exec (.shr t w) s))
    ∧ (ok 0x1B → WritesReg t s d (BitVec.ofInt 64 (a.toInt / 2 ^ (b.toNat % 64))) (Sys2Proof.Machine.exec (.sar t w) s))
    ∧ (ok 0x1C → WritesReg t s d (if a.toInt < b.toInt then a else b) (Sys2Proof.Machine.exec (.min t w) s))
    ∧ (ok 0x1D → WritesReg t s d (if a.toInt < b.toInt then b else a) (Sys2Proof.Machine.exec (.max t w) s))
    ∧ (ok 0x1E → WritesReg t s d (if a.toNat < b.toNat then a else b) (Sys2Proof.Machine.exec (.minu t w) s))
    ∧ (ok 0x1F → WritesReg t s d (if a.toNat < b.toNat then b else a) (Sys2Proof.Machine.exec (.maxu t w) s))
  )
  ∧
  (
  ∀ (t : Who) (w : Head) (s : State),
    let a := s.g t (fld w 45 40)
    let i := BitVec.ofInt 64 ((BitVec.ofNat 40 (fld w 39 0)).toInt)
    let d := fld w 51 46
    let ok (op : Nat) : Prop := Runs s t (control op w true)
    (ok 0x20 → WritesReg t s d (a + i) (Sys2Proof.Machine.exec (.addi t w) s))
    ∧ (ok 0x21 → WritesReg t s d (a &&& i) (Sys2Proof.Machine.exec (.andi t w) s))
    ∧ (ok 0x22 → WritesReg t s d (a ||| i) (Sys2Proof.Machine.exec (.ori t w) s))
    ∧ (ok 0x23 → WritesReg t s d (a ^^^ i) (Sys2Proof.Machine.exec (.xori t w) s))
    ∧ (ok 0x24 → WritesReg t s d (BitVec.ofNat 64 (a.toNat * 2 ^ (fld w 5 0))) (Sys2Proof.Machine.exec (.shli t w) s))
    ∧ (ok 0x25 → WritesReg t s d (BitVec.ofNat 64 (a.toNat / 2 ^ (fld w 5 0))) (Sys2Proof.Machine.exec (.shri t w) s))
    ∧ (ok 0x26 → WritesReg t s d (BitVec.ofInt 64 (a.toInt / 2 ^ (fld w 5 0))) (Sys2Proof.Machine.exec (.sari t w) s))
    ∧ (ok 0x27 → WritesReg t s d (BitVec.ofInt 64 ((BitVec.ofNat 46 (fld w 45 0)).toInt)) (Sys2Proof.Machine.exec (.li t w) s))
    ∧ (Runs s t (control 0x28 w (fld w 45 32 == 0)) →
        WritesReg t s d (BitVec.ofNat 64 (fld w 31 0 * 2 ^ 32 + (s.g t d).toNat % 2 ^ 32)) (Sys2Proof.Machine.exec (.lui t w) s))
  )

/-- CMP, CMPI and the predicate operations, and TID: COND codes 0 to 5 are EQ, NE, LT, GE, LTU and GEU, the middle two signed. -/
def Obligations.ComparisonsAndPredicates : Prop :=
  ∀ (t : Who) (w : Head) (s : State),
    let a := s.g t (fld w 45 40)
    let holds (b : Word64) : Bool :=
      match fld w 48 46 with
      | 0 => a == b
      | 1 => a != b
      | 2 => decide (a.toInt < b.toInt)
      | 3 => decide (b.toInt ≤ a.toInt)
      | 4 => decide (a.toNat < b.toNat)
      | _ => decide (b.toNat ≤ a.toNat)
    let pa := (s.thr t.num).pred (fld w 48 46)
    let pb := (s.thr t.num).pred (fld w 45 43)
    let d := fld w 51 49
    let ok (op : Nat) : Prop := Runs s t (control op w (fld w 42 0 == 0))
    (Runs s t (control 0x08 w (fld w 33 0 == 0 && decide (fld w 48 46 < 6))) →
        WritesPred t s d (holds (s.g t (fld w 39 34))) (Sys2Proof.Machine.exec (.cmp t w) s))
    ∧ (Runs s t (control 0x09 w (decide (fld w 48 46 < 6))) →
        WritesPred t s d (holds (BitVec.ofInt 64 ((BitVec.ofNat 40 (fld w 39 0)).toInt))) (Sys2Proof.Machine.exec (.cmpi t w) s))
    ∧ (ok 0x0A → WritesPred t s d (pa && pb) (Sys2Proof.Machine.exec (.pand t w) s))
    ∧ (ok 0x0B → WritesPred t s d (pa || pb) (Sys2Proof.Machine.exec (.por t w) s))
    ∧ (ok 0x0C → WritesPred t s d (pa ^^ pb) (Sys2Proof.Machine.exec (.pxor t w) s))
    ∧ (ok 0x0D → WritesPred t s d (pa && !pb) (Sys2Proof.Machine.exec (.pandn t w) s))
    ∧ (Runs s t (control 0x39 w (fld w 45 0 == 0)) →
        WritesReg t s (fld w 51 46) (BitVec.ofNat 64 (8 * t.c.val + t.k.val)) (Sys2Proof.Machine.exec (.tid t w) s))

/-- NOP, and the branches: a taken branch sets the PC, CALL and JR leave the return word in RD (JR reads RA first), and every loop entry
whose body does not contain the target is popped. YIELD and the others leave the thread at the back of its rotation. LOOP: with count 0 it
passes the LEN words (unless it ends the body around it and that repeats); else it pushes its body and goes on to the next word; with four
bodies on the stack it traps with cause 0x17. A LOOP of LEN 0 stands at its own body's end. Clauses that rest on a choice of the model: log
entries 11, 25. -/
def Obligations.BranchesAndLoops : Prop :=
  (
  ∀ (t : Who) (w : Head) (s : State),
    let x := s.thr t.num
    let off := BitVec.ofNat 32 (fld w 31 0)
    let link := x.setReg (fld w 51 46) ((x.pc + 1).setWidth 64)
    let jumps (y : Thread) (target : Word32) (o : Host.Outcome State Fault Refusal) : Prop :=
      ∃ u, o = .next u ∧ OneThread t.num s u
        ∧ u.thr t.num = { y with pc := target, loops := x.loops.filter (fun e => decide (e.start ≤ target.toNat) && decide (target.toNat ≤ e.stop)) }
    (Runs s t (control 0x01 w (fld w 51 0 == 0)) → Passes t s x (Sys2Proof.Machine.exec (.nop t w) s))
    ∧ (Runs s t (control 0x02 w (fld w 51 32 == 0)) → jumps x (x.pc + off) (Sys2Proof.Machine.exec (.b t w) s))
    ∧ (Runs s t (control 0x03 w (fld w 39 32 == 0)) → jumps link (x.pc + off) (Sys2Proof.Machine.exec (.call t w) s))
    ∧ (Runs s t (control 0x04 w (fld w 39 0 == 0)) → jumps link ((s.g t (fld w 45 40)).setWidth 32) (Sys2Proof.Machine.exec (.jr t w) s))
    ∧ (Runs s t (control 0x30 w (fld w 51 0 == 0)) →
        ∃ u, Sys2Proof.Machine.exec (.yield t w) s = .next u ∧ u.thr t.num = x.advance 1 ∧ OneThread t.num s u
          ∧ (u.rotation t.c.val x.prio).getLast? = some t.k.val)
  )
  ∧
  (
  ∀ (t : Who) (w : Head) (s : State),
    let x := s.thr t.num
    let n := (s.g t (fld w 45 40)).toNat
    let len := fld w 15 0
    Runs s t (control 0x05 w (fld w 51 46 == 0 && fld w 39 16 == 0)) →
    (n ≠ 0 → x.loops.length ≠ 4 → 0 < len →
        ∃ u, Sys2Proof.Machine.exec (.loop t w) s = .next u ∧ OneThread t.num s u
          ∧ u.thr t.num = { x with pc := x.pc + 1, loops := ⟨x.pc.toNat + 1, x.pc.toNat + len, n⟩ :: x.loops })
    ∧ (n = 0 → (∀ e rest, x.loops = e :: rest → e.stop ≠ x.pc.toNat) →
        ∃ u, Sys2Proof.Machine.exec (.loop t w) s = .next u ∧ OneThread t.num s u
          ∧ u.thr t.num = { x with pc := x.pc + 1 + BitVec.ofNat 32 len })
    ∧ (n ≠ 0 → x.loops.length = 4 →
        ∃ u, Sys2Proof.Machine.exec (.loop t w) s = .next u ∧ (u.thr t.num).tra = x.pc ∧ (u.thr t.num).loops = x.loops
          ∧ u.word (0x00090008 + t.c.val * 0x400) = s.word (0x00090008 + t.c.val * 0x400) + 1)
  )

/-- LD.64 and LD.32: RD takes the 8 or 4 bytes at RA + IMM40, zero-extended, where they are aligned bytes of a live BANK or SCRATCH
allocation of the thread's program; a bank in RETENTION wakes, and no byte of memory changes. From a poisoned line RD takes 0 and MEM_POISON
is raised (the model's choice, log entry 12). ST.64 and ST.32: the low 8 or 4 bytes of RD, little-endian, at RA + IMM40, where those are
aligned bytes of a live BANK or SCRATCH allocation of the thread's program. Loaded code is read-only; every other byte, and every register,
stays. -/
def Obligations.ScalarAccesses : Prop :=
  (
  ∀ (t : Who) (w : Head) (s : State),
    let x := s.thr t.num
    let a := dataAddr s t w
    let d := fld w 51 46
    let loads (n : Nat) (o : Host.Outcome State Fault Refusal) : Prop :=
      scalarOk s x.program a n = true →
        (Awake s a → s.mem.poisoned a = false → WritesReg t s d (BitVec.ofNat 64 (s.mem.readLe a n)) o)
        ∧ (∃ u, o = .next u ∧ u.thr t.num = (x.setReg d (BitVec.ofNat 64 (if s.mem.poisoned a then 0 else s.mem.readLe a n))).advance 1
            ∧ (∀ j, j ≠ t.num → u.thr j = s.thr j) ∧ (∀ b, u.mem.read b = s.mem.read b)
            ∧ { wakeBanks [a] s with threads := u.threads, rot := u.rot, pins := u.pins, ev := u.ev } = u
            ∧ (s.mem.poisoned a = false → u.ev = (wakeBanks [a] s).ev)
            ∧ (s.mem.poisoned a = true → Awake s a →
                u.ev = s.ev.record (atThread 0x0502 t.c.val t.k.val (a / 64 * 64) 0) s.clk.half (s.field 0x000C0014 15 0)))
    (Runs s t (control 0x2C w true) → loads 8 (Sys2Proof.Machine.exec (.ld64 t w) s))
    ∧ (Runs s t (control 0x2D w true) → loads 4 (Sys2Proof.Machine.exec (.ld32 t w) s))
  )
  ∧
  (
  ∀ (t : Who) (w : Head) (s : State),
    let x := s.thr t.num
    let a := dataAddr s t w
    let v := (s.g t (fld w 51 46)).toNat
    let stores (n : Nat) (o : Host.Outcome State Fault Refusal) : Prop :=
      scalarOk s x.program a n = true →
        ∃ u, o = .next u ∧ u.thr t.num = x.advance 1 ∧ (∀ j, j ≠ t.num → u.thr j = s.thr j)
          ∧ (∀ b, u.mem.read b =
              if s.mem.isCode b = false ∧ a ≤ b ∧ b < a + n then BitVec.ofNat 8 (v / 256 ^ (b - a)) else s.mem.read b)
          ∧ (Awake s a → ThreadsOnly s { u with mem := s.mem })
          ∧ { u.mem with cells := s.mem.cells, fills := s.mem.fills, poison := s.mem.poison, banks := s.mem.banks } = s.mem
    (Runs s t (control 0x2E w true) → stores 8 (Sys2Proof.Machine.exec (.st64 t w) s))
    ∧ (Runs s t (control 0x2F w true) → stores 4 (Sys2Proof.Machine.exec (.st32 t w) s))
  )

/-- ERET, HALT and TSTAT complete wherever they are issued and pass their checks, and change their own thread alone. ERET returns to
RA[31:0] with TM cleared, and pops the loop entries whose bodies its branch leaves (R224's two words on ERET read together, log entry 13);
HALT passes on and leaves the thread HALTED; TSTAT writes the mask of the tags in the state WHICH of the 64 tags from TBASE, tags from 512
on reading 0. TRAP completes wherever it is issued and passes its checks: its effect is the synchronous trap with cause 0x1A, event
PRG_SW_TRAP and its IMM16. Clauses that rest on a choice of the model: log entries 10, 13, 24. -/
def Obligations.ReturnHaltAndTrap : Prop :=
  (
  ∀ (t : Who) (w : Head) (s : State),
    let x := s.thr t.num
    (Runs s t (control 0x32 w (fld w 45 0 == 0)) →
        ∃ u, Sys2Proof.Machine.exec (.eret t w) s = .next u ∧ OneThread t.num s u
          ∧ u.thr t.num = { x with
              pc := (x.reg (fld w 51 46)).setWidth 32, tm := false
              loops := x.loops.filter (fun e => decide (e.start ≤ (x.reg (fld w 51 46)).toNat % 2 ^ 32) && decide ((x.reg (fld w 51 46)).toNat % 2 ^ 32 ≤ e.stop)) })
    ∧ (Runs s t (control 0x33 w (fld w 51 0 == 0)) →
        ∃ u, Sys2Proof.Machine.exec (.halt t w) s = .next u ∧ OneThread t.num s u ∧ u.thr t.num = { x.advance 1 with state := .halted })
    ∧ (Runs s t (controlW 0x3F w (decide (fld w 17 16 < 3))) →
        ∃ v : Word64, WritesReg t s (fld w 51 46) v (Sys2Proof.Machine.exec (.tstat t w) s)
          ∧ ∀ i, i < 64 → v.getLsbD i =
              decide (fld w 26 18 + i < 512 ∧ s.tag t.c.val (fld w 26 18 + i) =
                match fld w 17 16 with
                | 0 => TagState.pending
                | 1 => TagState.done
                | _ => TagState.faulted))
  )
  ∧
  (
  ∀ (t : Who) (w : Word64) (s : State),
    bits w.toNat 63 56 = 0x31 →
    Runs s t { words := [w], bad := if bits w.toNat 51 16 = 0 then none else some 0, pg := bits w.toNat 55 53, pn := bit w.toNat 52 } →
      TrapsAs t s 0x1A 0x040A (bits w.toNat 15 0) 0 0xFFFF (Sys2Proof.Machine.exec (.trap t w) s)
  )

/-- The checks of R234 in their order, each with its cause, its event and its details: a fetch beyond the code (0x18), an illegal or
hub-only opcode (0x10), a field that must be 0 (0x11), privilege (0x12), an address (0x16), the loop depth (0x17). A guarded-off instruction
only passes. Clauses that rest on a choice of the model: log entries 10, 94. -/
def Obligations.DecodeChecks : Prop :=
  (∀ (t : Who) (w : Head) (s : State),
    let x := s.thr t.num
    let here : Prop := chosen s t = true ∧ x.pc.toNat + 1 ≤ codeLength s t ∧ insideLoop s t 1 = true
    let word (op : Nat) : Nat := (fullWord op w).toNat
    (chosen s t = true → codeLength s t < x.pc.toNat + 1 →
        TrapsAs t s 0x18 0x0408 x.pc.toNat (codeLength s t) 0xFFFF (Sys2Proof.Machine.exec (.add t w) s))
    ∧ (here → fld w 33 0 ≠ 0 → TrapsAs t s 0x11 0x0405 (word 0x10) 0 0xFFFF (Sys2Proof.Machine.exec (.add t w) s))
    ∧ (here → fld w 45 32 = 0 → x.priv = false → TrapsAs t s 0x12 0x0406 (word 0x34) 0 0xFFFF (Sys2Proof.Machine.exec (.csrr t w) s))
    ∧ (here → fld w 33 0 = 0 → x.pred (fld w 55 53) = bit w.toNat 52 → Passes t s x (Sys2Proof.Machine.exec (.add t w) s))
    ∧ (Runs s t (control 0x2C w true) → scalarOk s x.program (dataAddr s t w) 8 = false →
        TrapsAs t s 0x16 0x0408 (dataAddr s t w) 8 0xFFFF (Sys2Proof.Machine.exec (.ld64 t w) s))
    ∧ (Runs s t (control 0x2D w true) → scalarOk s x.program (dataAddr s t w) 4 = false →
        TrapsAs t s 0x16 0x0408 (dataAddr s t w) 4 0xFFFF (Sys2Proof.Machine.exec (.ld32 t w) s))
    ∧ (Runs s t (control 0x2E w true) → scalarOk s x.program (dataAddr s t w) 8 = false →
        TrapsAs t s 0x16 0x0408 (dataAddr s t w) 8 0xFFFF (Sys2Proof.Machine.exec (.st64 t w) s))
    ∧ (Runs s t (control 0x2F w true) → scalarOk s x.program (dataAddr s t w) 4 = false →
        TrapsAs t s 0x16 0x0408 (dataAddr s t w) 4 0xFFFF (Sys2Proof.Machine.exec (.st32 t w) s))
    ∧ (Runs s t (control 0x05 w (fld w 51 46 == 0 && fld w 39 16 == 0)) → s.g t (fld w 45 40) ≠ 0 → x.loops.length = 4 →
        TrapsAs t s 0x17 0x040B (s.g t (fld w 45 40)).toNat 4 0xFFFF (Sys2Proof.Machine.exec (.loop t w) s)))
  ∧ (∀ (t : Who) (w : Word64) (s : State), chosen s t = true → (s.thr t.num).pc.toNat + 1 ≤ codeLength s t →
      (bits w.toNat 63 56 = 0 ∨ (0x40 ≤ bits w.toNat 63 56 ∧ bits w.toNat 63 56 < 0x80) ∨ 0xF0 ≤ bits w.toNat 63 56) →
        TrapsAs t s 0x10 0x0405 w.toNat 0 0xFFFF (Sys2Proof.Machine.exec (.trap t w) s))

/-- CSRR and CSRW, for a privileged thread. CSRR gives RD the register's value, zero-extended, and leaves the state that a firmware read
leaves; CSRW of a conductor's FRBASE stores RA[31:0] there and changes no other register; a register that no table makes writable keeps its
value. -/
def Obligations.RegisterInstructions : Prop :=
  ∀ (t : Who) (w : Head) (s : State),
    let x := s.thr t.num
    let a := fld w 31 0
    let r := readCsr .fw a s
    (Runs s t (control 0x34 w (fld w 45 32 == 0) true) →
        ∃ u, Sys2Proof.Machine.exec (.csrr t w) s = .next u ∧ u.thr t.num = (x.setReg (fld w 51 46) (r.1.setWidth 64)).advance 1
          ∧ OneThread t.num r.2 u)
    ∧ (Runs s t (control 0x35 w (fld w 45 32 == 0) true) → ∀ c, c < 20 → a = 0x00090000 + c * 0x400 → blockOn s a = true →
        ∃ u, Sys2Proof.Machine.exec (.csrw t w) s = .next u ∧ u.thr t.num = x.advance 1 ∧ (∀ j, j ≠ t.num → u.thr j = s.thr j)
          ∧ (∀ b, u.word b = if b = a then (x.reg (fld w 51 46)).setWidth 32 else s.word b)
          ∧ { u with threads := s.threads, rot := s.rot, pins := s.pins, csr := s.csr } = s)
    ∧ (Runs s t (control 0x35 w (fld w 45 32 == 0) true) → fieldsAt a = [] → Passes t s x (Sys2Proof.Machine.exec (.csrw t w) s))

/-- PLOAD issues on its tag with the image's address and the program id; a tag outside the range or PENDING traps. PLOAD_DONE. An image that
passes the five checks becomes a program under its id: its tag is DONE, its code words are read-only where they stand, and its data, if any,
stands in a SCRATCH allocation of the program. Otherwise the tag is FAULTED and PRG_IMAGE_REFUSED names the first failing check; an image
with a poisoned line faults the tag with that line's address and MEM_POISON. PUNLOAD, and PUNLOAD_RELEASE of one that was held. With every
thread of the program IDLE or HALTED its id is free, its allocations are released and its HALTED threads are IDLE; with a thread running it
the issuing thread waits. Clauses that rest on a choice of the model: log entries 5, 9, 21, 22, 23. -/
def Obligations.ProgramsLoadedAndUnloaded : Prop :=
  (
  ∀ (t : Who) (w : Head) (s : State),
    let x := s.thr t.num
    let tag := fld w 39 31
    let f := { control 0x36 w (fld w 30 0 == 0) true with tag := tag }
    (Runs s t f → TagOpen s t tag →
        Issues t 1 s tag (.pload (x.reg (fld w 51 46)).toNat ((x.reg (fld w 45 40)).toNat % 256)) [] (Sys2Proof.Machine.exec (.pload t w) s))
    ∧ (Runs s t f → (tag < x.tagBase ∨ x.tagBase + x.tagCount ≤ tag) →
        TrapsAs t s 0x13 0x0407 tag x.tagBase tag (Sys2Proof.Machine.exec (.pload t w) s))
    ∧ (Runs s t f → x.tagBase ≤ tag → tag < x.tagBase + x.tagCount → s.tag t.c.val tag = .pending →
        TrapsAs t s 0x14 0x0407 tag 0 tag (Sys2Proof.Machine.exec (.pload t w) s))
  )
  ∧
  (
  ∀ (c : Fin 20) (tag : Fin 512) (onCurve sigOk : Bool) (s : State) (x : Tx) (a id : Nat),
    s.tx? c.val tag.val = some x → x.op = .pload a id →
    Awake s a → RecordAwake s c.val →
    let h := readHeader s.mem a
    let image := if h.legal then imageSpan a h else span a 128
    (poisonAt s.mem image = none → imageCheck s a id h onCurve sigOk = none →
        ∃ u, Sys2Proof.Machine.exec (.ploadDone c tag onCurve sigOk) s = .next u ∧ Leaves c.val tag.val .done s u
          ∧ (∃ p, u.programs = s.programs ++ [p] ∧ p.id = id ∧ p.codeWords = h.codeWords ∧ p.firmware = (h.kind == 0) ∧ p.svn = h.svn
              ∧ p.trapEntry = (if h.trapEntry = 0xFFFFFFFF then none else some h.trapEntry) ∧ p.prios = h.prios
              ∧ p.codeBase = a + 128 ∧ u.mem.code = s.mem.code ++ [(id, a + 128, 8 * h.codeWords)]
              ∧ p.digest = Config.sha512 ((imageSpan a h).map s.mem.read)
              ∧ (∀ i, i < h.dataBytes → u.mem.isCode (p.dataBase + i) = false →
                  u.mem.read (p.dataBase + i) = s.mem.read (a + 128 + 8 * h.codeWords + i))
              ∧ (h.dataBytes = 0 → p.dataHandle = 0 ∧ p.dataBase = 0)
              ∧ (h.dataBytes ≠ 0 → ⟨p.dataHandle, 3, id, p.dataBase, (h.dataBytes + 65535) / 65536 * 65536⟩ ∈ u.mem.allocs))
          ∧ u.threads = s.threads ∧ u.csr = s.csr ∧ u.ev = s.ev)
    ∧ (∀ l, poisonAt s.mem image = some l →
        ∃ u, Sys2Proof.Machine.exec (.ploadDone c tag onCurve sigOk) s = .next u ∧ Leaves c.val tag.val .faulted s u ∧ u.programs = s.programs
          ∧ u.mem.allocs = s.mem.allocs ∧ u.threads = s.threads
          ∧ u.ev = s.ev.record { code := 0x0502, info0 := l } s.clk.half (s.field 0x000C0014 15 0))
    ∧ (∀ n, poisonAt s.mem image = none → imageCheck s a id h onCurve sigOk = some n →
        ∃ u, Sys2Proof.Machine.exec (.ploadDone c tag onCurve sigOk) s = .next u ∧ Leaves c.val tag.val .faulted s u
          ∧ u.programs = s.programs ∧ u.mem.allocs = s.mem.allocs ∧ u.threads = s.threads
          ∧ u.ev = s.ev.record (atThread 0x0403 x.c x.k n 0) s.clk.half (s.field 0x000C0014 15 0)
          ∧ (∀ b, b ≠ 0x00010060 → u.word b = s.word b)
          ∧ u.word 0x00010060 = s.word 0x00010060 + (if n = 2 ∨ n = 3 then 1 else 0))
  )
  ∧
  (
  ∀ (t : Who) (w : Head) (s : State),
    let x := s.thr t.num
    let id := (x.reg (fld w 51 46)).toNat % 256
    let f := control 0x3A w (fld w 45 0 == 0) true
    let gone (p : Program) (u : State) : Prop :=
      u.programs = s.programs.filter (fun q => q.id != id)
        ∧ u.mem.allocs = s.mem.allocs.filter (fun y => !(y.handle == p.dataHandle && p.dataHandle != 0))
        ∧ u.mem.code = s.mem.code.filter (fun e => e.1 != id)
        ∧ (∀ j, j < 160 → j ≠ t.num → u.thr j = if (s.thr j).state = .halted ∧ (s.thr j).program = id then {} else s.thr j)
    (∀ p, Runs s t f → s.program? id = some p → unloadOpen s id = true →
        ∃ u, Sys2Proof.Machine.exec (.punload t w) s = .next u ∧ gone p u ∧ u.thr t.num = x.advance 1 ∧ u.csr = s.csr ∧ u.tags = s.tags)
    ∧ (Runs s t f → unloadOpen s id = false →
        ∃ u, Sys2Proof.Machine.exec (.punload t w) s = .next u ∧ OneThread t.num s u
          ∧ u.thr t.num = { x with state := .waiting, held := some ⟨.punload, [fullWord 0x3A w, BitVec.ofNat 64 id]⟩ })
    ∧ (∀ p, x.state = .waiting → x.held = some ⟨.punload, [fullWord 0x3A w, BitVec.ofNat 64 id]⟩ → s.program? id = some p →
        unloadOpen s id = true →
        ∃ u, Sys2Proof.Machine.exec (.punloadRelease t) s = .next u ∧ gone p u
          ∧ u.thr t.num = { x.advance 1 with state := .ready, held := none } ∧ u.csr = s.csr ∧ u.tags = s.tags)
  )

/-- TSTART, and TSTART_RELEASE of one that was held. The checks of R239 in their order trap with cause 0x1B; with the target STOPPING or a
tag of its range PENDING the thread waits; else the target is READY at its entry with g1 and g2 naming the data allocation, every other
register, predicate and slot clear, and every tag of its range FREE. TKILL and THREAD_STOPPED. The named thread, READY or WAITING, is
STOPPING and its held instruction abandoned; its transactions stay in flight; once none of its tags is PENDING it is IDLE and holds no
program. Clauses that rest on a choice of the model: log entry 26. -/
def Obligations.ThreadsStartedAndStopped : Prop :=
  (
  ∀ (t : Who) (w : Head) (s : State),
    let x := s.thr t.num
    let id := (x.reg (fld w 51 46)).toNat % 256
    let c := fld w 45 41
    let k := fld w 40 38
    let f := control 0x37 w (fld w 35 0 == 0 && decide (fld w 45 41 < 20)) true
    let started (p : Program) (u : State) : Prop :=
      let y := u.thr (c * 8 + k)
      y.state = .ready ∧ y.pc = BitVec.ofNat 32 ((nthD none p.entries k).getD 0) ∧ y.prio = fld w 37 36 ∧ y.priv = p.firmware
        ∧ y.program = p.id ∧ y.tagBase = nthD 0 p.tagBases k ∧ y.tagCount = nthD 0 p.tagCounts k ∧ y.tm = false ∧ y.loops = []
        ∧ y.reg 1 = BitVec.ofNat 64 p.dataHandle ∧ y.reg 2 = BitVec.ofNat 64 p.dataBase ∧ (∀ i, i ≠ 1 → i ≠ 2 → y.reg i = 0)
        ∧ (∀ i, i ≠ 0 → y.pred i = false) ∧ (∀ i, y.desc i = none)
        ∧ (∀ g, y.tagBase ≤ g → g < y.tagBase + y.tagCount → u.tag c g = .free)
    (∀ n, Runs s t f → startCheck s id c k (fld w 37 36) = some n →
        TrapsAs t s 0x1B 0x0405 (c * 8 + k) n 0xFFFF (Sys2Proof.Machine.exec (.tstart t w) s))
    ∧ (∀ p, Runs s t f → startCheck s id c k (fld w 37 36) = none → s.program? id = some p → startOpen s p c k = true →
        c * 8 + k ≠ t.num →
        ∃ u, Sys2Proof.Machine.exec (.tstart t w) s = .next u ∧ started p u ∧ u.thr t.num = x.advance 1
          ∧ (∀ j, j ≠ t.num → j ≠ c * 8 + k → u.thr j = s.thr j)
          ∧ { u with threads := s.threads, rot := s.rot, pins := s.pins, tags := s.tags } = s)
    ∧ (∀ p, Runs s t f → startCheck s id c k (fld w 37 36) = none → s.program? id = some p → startOpen s p c k = false →
        ∃ u, Sys2Proof.Machine.exec (.tstart t w) s = .next u ∧ OneThread t.num s u
          ∧ u.thr t.num = { x with state := .waiting, held := some ⟨.tstart, [fullWord 0x37 w, BitVec.ofNat 64 id]⟩ })
    ∧ (∀ p, x.state = .waiting → x.held = some ⟨.tstart, [fullWord 0x37 w, BitVec.ofNat 64 id]⟩ → s.program? id = some p →
        startOpen s p c k = true → c * 8 + k ≠ t.num →
        ∃ u, Sys2Proof.Machine.exec (.tstartRelease t) s = .next u ∧ started p u
          ∧ u.thr t.num = { x.advance 1 with state := .ready, held := none }
          ∧ (∀ j, j ≠ t.num → j ≠ c * 8 + k → u.thr j = s.thr j)
          ∧ { u with threads := s.threads, rot := s.rot, pins := s.pins, tags := s.tags } = s)
  )
  ∧
  (
  (∀ (t : Who) (w : Head) (s : State),
    let n := fld w 45 41 * 8 + fld w 40 38
    let y := s.thr n
    Runs s t (control 0x38 w (fld w 51 46 == 0 && fld w 37 0 == 0 && decide (fld w 45 41 < 20)) true) → n ≠ t.num →
      ∃ u, Sys2Proof.Machine.exec (.tkill t w) s = .next u ∧ u.thr t.num = (s.thr t.num).advance 1
        ∧ u.thr n = (if y.state = .ready ∨ y.state = .waiting then { y with state := .stopping, held := none } else y)
        ∧ (∀ j, j ≠ t.num → j ≠ n → u.thr j = s.thr j) ∧ u.txs = s.txs ∧ u.tags = s.tags
        ∧ { u with threads := s.threads, rot := s.rot, pins := s.pins, arr := s.arr } = s)
  ∧ (∀ (t : Who) (s : State), (s.thr t.num).state = .stopping →
      (∀ g, (s.thr t.num).tagBase ≤ g → g < (s.thr t.num).tagBase + (s.thr t.num).tagCount → s.tag t.c.val g ≠ .pending) →
      ∃ u, Sys2Proof.Machine.exec (.threadStopped t) s = .next u ∧ u.thr t.num = {} ∧ OneThread t.num s u)
  )

/-- WAIT.ALL, and WAIT_RELEASE of a held one: with no named tag PENDING, PD says whether one is FAULTED and the named DONE tags are FREE;
while one is PENDING the thread waits; a tag outside the thread's range traps. WAIT.ANY: the lowest named tag that is DONE or FAULTED goes
to RD and is FREE, and PD says whether it was FAULTED; with no such tag and none PENDING, RD is all ones and PD is 0; else the thread waits,
until WAIT_RELEASE finds one; a tag outside the range traps. FENCE passes when none of the thread's transactions is PENDING, and holds the
thread otherwise; FENCE_RELEASE ends the hold. No tag changes. Clauses that rest on a choice of the model: log entry 95. -/
def Obligations.Waits : Prop :=
  (
  ∀ (t : Who) (w : Head) (s : State),
    let x := s.thr t.num
    let c := t.c.val
    let tags := namedTags (x.reg (fld w 45 40)) (fld w 26 18)
    let f := controlW 0x3C w (fld w 51 46 == 0 && fld w 17 16 == 0)
    let inRange : Prop := ∀ g ∈ tags, x.tagBase ≤ g ∧ g < x.tagBase + x.tagCount
    let frame (u : State) (y : Thread) : Prop :=
      u.thr t.num = y ∧ (∀ g, g < 512 → u.tag c g = if g ∈ tags ∧ s.tag c g = .done then .free else s.tag c g)
        ∧ (∀ j, j ≠ t.num → u.thr j = s.thr j)
        ∧ { u with threads := s.threads, rot := s.rot, pins := s.pins, tags := s.tags } = s
    (Runs s t f → inRange → x.tagBase + x.tagCount ≤ 512 → (∀ g ∈ tags, s.tag c g ≠ .pending) →
        ∃ u, Sys2Proof.Machine.exec (.waitAll t w) s = .next u
          ∧ frame u ((x.setPred (fld w 39 37) (tags.any (fun g => s.tag c g == .faulted))).advance 1))
    ∧ (Runs s t f → inRange → (∃ g ∈ tags, s.tag c g = .pending) →
        ∃ u, Sys2Proof.Machine.exec (.waitAll t w) s = .next u ∧ OneThread t.num s u
          ∧ u.thr t.num = { x with state := .waiting, held := some ⟨.waitAll, [fullWord 0x3C w]⟩ })
    ∧ (∀ g, Runs s t f → outside x tags = some g → TrapsAs t s 0x13 0x0407 g x.tagBase 0xFFFF (Sys2Proof.Machine.exec (.waitAll t w) s))
    ∧ (x.state = .waiting → x.held = some ⟨.waitAll, [fullWord 0x3C w]⟩ → inRange → x.tagBase + x.tagCount ≤ 512 →
        (∀ g ∈ tags, s.tag c g ≠ .pending) →
        ∃ u, Sys2Proof.Machine.exec (.waitRelease t) s = .next u
          ∧ frame u { (x.setPred (fld w 39 37) (tags.any (fun g => s.tag c g == .faulted))).advance 1 with state := .ready, held := none })
  )
  ∧
  (
  ∀ (t : Who) (w : Head) (s : State),
    let x := s.thr t.num
    let c := t.c.val
    let tags := namedTags (x.reg (fld w 45 40)) (fld w 26 18)
    let f := controlW 0x3D w (fld w 17 16 == 0)
    let inRange : Prop := ∀ g ∈ tags, x.tagBase ≤ g ∧ g < x.tagBase + x.tagCount
    let frame (s u : State) : Prop := { u with threads := s.threads, rot := s.rot, pins := s.pins, tags := s.tags } = s
    let ready (g : Nat) : Prop := s.tag c g = .done ∨ s.tag c g = .faulted
    let found (g : Nat) : Thread := (x.setReg (fld w 51 46) (BitVec.ofNat 64 g)).setPred (fld w 39 37) (s.tag c g == .faulted)
    let lowest (g : Nat) : Prop := g ∈ tags ∧ ready g ∧ ∀ h ∈ tags, ready h → g ≤ h
    (∀ g, Runs s t f → inRange → x.tagBase + x.tagCount ≤ 512 → lowest g →
        ∃ u, Sys2Proof.Machine.exec (.waitAny t w) s = .next u ∧ u.thr t.num = (found g).advance 1 ∧ frame s u
          ∧ ∀ h, h < 512 → u.tag c h = if h = g then .free else s.tag c h)
    ∧ (Runs s t f → inRange → (∀ g ∈ tags, s.tag c g = .free) →
        ∃ u, Sys2Proof.Machine.exec (.waitAny t w) s = .next u ∧ frame s u ∧ u.tags = s.tags
          ∧ u.thr t.num = ((x.setReg (fld w 51 46) 0xFFFFFFFFFFFFFFFF#64).setPred (fld w 39 37) false).advance 1)
    ∧ (Runs s t f → inRange → (∀ g ∈ tags, ¬ ready g) → (∃ g ∈ tags, s.tag c g = .pending) →
        ∃ u, Sys2Proof.Machine.exec (.waitAny t w) s = .next u ∧ OneThread t.num s u
          ∧ u.thr t.num = { x with state := .waiting, held := some ⟨.waitAny, [fullWord 0x3D w]⟩ })
    ∧ (∀ g, Runs s t f → outside x tags = some g → TrapsAs t s 0x13 0x0407 g x.tagBase 0xFFFF (Sys2Proof.Machine.exec (.waitAny t w) s))
    ∧ (∀ g, x.state = .waiting → x.held = some ⟨.waitAny, [fullWord 0x3D w]⟩ → inRange → x.tagBase + x.tagCount ≤ 512 → lowest g →
        ∃ u, Sys2Proof.Machine.exec (.waitRelease t) s = .next u ∧ frame s u
          ∧ u.thr t.num = { (found g).advance 1 with state := .ready, held := none }
          ∧ ∀ h, h < 512 → u.tag c h = if h = g then .free else s.tag c h)
  )
  ∧
  (
  ∀ (t : Who) (w : Head) (s : State),
    let x := s.thr t.num
    let inFlight : Prop := ∃ y ∈ s.txs, y.c = t.c.val ∧ y.k = t.k.val
    let f := control 0x3E w (fld w 51 0 == 0)
    (Runs s t f → ¬ inFlight → Passes t s x (Sys2Proof.Machine.exec (.fence t w) s))
    ∧ (Runs s t f → inFlight →
        ∃ u, Sys2Proof.Machine.exec (.fence t w) s = .next u ∧ OneThread t.num s u
          ∧ u.thr t.num = { x with state := .waiting, held := some ⟨.fence, [fullWord 0x3E w]⟩ })
    ∧ (∀ ws, x.state = .waiting → x.held = some ⟨.fence, ws⟩ → ¬ inFlight →
        ∃ u, Sys2Proof.Machine.exec (.fenceRelease t) s = .next u ∧ OneThread t.num s u
          ∧ u.thr t.num = { x.advance 1 with state := .ready, held := none })
  )

/-- DESC.CREATE enters the descriptor of the record at RA in an empty slot, and refuses what R122 refuses, an address outside R225, and a
slot in use. DESC.DROP empties a slot that no PENDING transaction of the thread names, and holds otherwise; DESC_DROP_RELEASE ends the hold.
Clauses that rest on a choice of the model: log entry 12. -/
def Obligations.Descriptors : Prop :=
  ∀ (t : Who) (w : Head) (s : State),
    let x := s.thr t.num
    let slot := fld w 40 33
    let a := (x.reg (fld w 32 27)).toNat
    let f := tensor 0x80 w [] false false false (if fld w 26 0 = 0 then none else some 0)
    let g := tensor 0x81 w [] false false false (if fld w 32 0 = 0 then none else some 0)
    let whole : Prop := scalarOk s x.program a 64 = true ∧ s.mem.poisoned a = false
    let named : Prop := ∃ y ∈ s.txs, y.c = t.c.val ∧ y.k = t.k.val ∧ slot ∈ y.slots
    (∀ d, Runs s t f → whole → Awake s a → checkDesc s x.program (s.mem.readN a 64) = .ok d → x.desc slot = none →
        Passes t s (x.setDesc slot (some d)) (Sys2Proof.Machine.exec (.descCreate t w) s))
    ∧ (∀ n, Runs s t f → whole → checkDesc s x.program (s.mem.readN a 64) = .error n →
        TrapsAs t s n (trapEvent n) slot 0 0xFFFF (Sys2Proof.Machine.exec (.descCreate t w) s))
    ∧ (Runs s t f → scalarOk s x.program a 64 = false → TrapsAs t s 0x16 0x0408 a 64 0xFFFF (Sys2Proof.Machine.exec (.descCreate t w) s))
    ∧ (∀ d e, Runs s t f → whole → checkDesc s x.program (s.mem.readN a 64) = .ok d → x.desc slot = some e →
        TrapsAs t s 0x19 0x040C slot 0xFF 0xFFFF (Sys2Proof.Machine.exec (.descCreate t w) s))
    ∧ (∀ e, Runs s t g → x.desc slot = some e → ¬ named → Passes t s (x.setDesc slot none) (Sys2Proof.Machine.exec (.descDrop t w) s))
    ∧ (∀ e, Runs s t g → x.desc slot = some e → named →
        ∃ u, Sys2Proof.Machine.exec (.descDrop t w) s = .next u ∧ OneThread t.num s u
          ∧ u.thr t.num = { x with state := .waiting, held := some ⟨.descDrop, [fullWord 0x81 w]⟩ })
    ∧ (x.state = .waiting → x.held = some ⟨.descDrop, [fullWord 0x81 w]⟩ → ¬ named →
        ∃ u, Sys2Proof.Machine.exec (.descDropRelease t) s = .next u ∧ OneThread t.num s u
          ∧ u.thr t.num = { (x.setDesc slot none).advance 1 with state := .ready, held := none })

/-- Operands of every transaction are checked in R234's order: an empty slot traps with cause 0x15, then a tag outside the range with 0x13,
then a PENDING tag with 0x14; a destination without WR is refused with cause 0x19, check 1 and its slot. Shown on VFILL. Clauses that rest
on a choice of the model: log entries 27, 94. -/
def Obligations.OperandChecks : Prop :=
  ∀ (t : Who) (w : Head) (s : State),
    let x := s.thr t.num
    let tag := fld w 49 41
    let slot := fld w 24 17
    let f := tensor 0xAC w [] true false false (if fld w 40 25 = 0 ∧ fld w 10 0 = 0 then none else some 0)
    let o := Sys2Proof.Machine.exec (.vfill t w) s
    Runs s t f →
      (x.desc slot = none → TrapsAs t s 0x15 0x040C slot 0 tag o)
      ∧ (∀ d, x.desc slot = some d → (tag < x.tagBase ∨ x.tagBase + x.tagCount ≤ tag) → TrapsAs t s 0x13 0x0407 tag x.tagBase tag o)
      ∧ (∀ d, x.desc slot = some d → x.tagBase ≤ tag → tag < x.tagBase + x.tagCount → s.tag t.c.val tag = .pending →
          TrapsAs t s 0x14 0x0407 tag 0 tag o)
      ∧ (∀ d, x.desc slot = some d → TagOpen s t tag → d.wr = false → TrapsAs t s 0x19 0x0409 1 slot tag o)

/-- VBIN, VUN, VCVT, VSCALE and VFILL issue, with their operands latched, where their types and shapes are those of R263 to R267. RED.SUM,
RED.SUMSQ, RED.MEANVAR, RED.MAX (and ABSMAX) and RED.TOPK issue where DD is FP32 with one record of its kind per row. GATHER, SCATTER.ADD,
XPOSE.NET, XPOSE.STRIDE and DMA.COPY issue where their operands agree as R249, R269 and R270 ask; XPOSE.NET on a stack-base conductor is an
illegal opcode, and DMA.COPY refuses shapes that differ (check 2) and memory that overlaps (check 3). Clauses that rest on a choice of the
model: log entries 27, 92, 143. -/
def Obligations.ArithmeticIssue : Prop :=
  (
  ∀ (t : Who) (w : Head) (s : State) (a b d : Desc),
    let x := s.thr t.num
    let tag := fld w 49 41
    let ia := fld w 40 33
    let ib := fld w 32 25
    let id := fld w 24 17
    let fn := fld w 16 13
    let bc := fld w 12 11
    let form (op : Nat) (ok : Bool) : Form := tensor op w [] true false false (if ok then none else some 0)
    let may (op : TxOp) : Prop := TagOpen s t tag ∧ ∀ i y, x.desc i = some y → kindAllowed s.mem op y = true
    (Runs s t (form 0xA8 (decide (fn < 6) && fld w 10 0 == 0)) → x.desc ia = some a → x.desc ib = some b → x.desc id = some d →
        may (.vbin fn bc a b d) → vecSource a = true → vecSource b = true → vbinShape bc a b = true → d.wr = true → vecDest d = true →
        sameSizes a d = true → aliasOk a d = true → b.overlaps d = false →
        Issues t 1 s tag (.vbin fn bc a b d) [ia, ib, id] (Sys2Proof.Machine.exec (.vbin t w) s))
    ∧ (Runs s t (form 0xA9 (decide (fn < 9) && fld w 12 0 == 0 && fld w 32 25 == 0)) → x.desc ia = some a → x.desc id = some d →
        may (.vun fn a d) → vecSource a = true → d.wr = true → vecDest d = true → sameSizes a d = true → aliasOk a d = true →
        Issues t 1 s tag (.vun fn a d) [ia, id] (Sys2Proof.Machine.exec (.vun t w) s))
    ∧ (Runs s t (form 0xAA (decide (fn ≤ 8) && fld w 9 0 == 0 && fld w 32 25 == 0)) → x.desc ia = some a → x.desc id = some d →
        may (.vcvt fn (2 ^ (bc + 1)) (bit w.toNat 10) a d) → vecSource a = true → d.wr = true → sameSizes a d = true → aliasOk a d = true →
        Issues t 1 s tag (.vcvt fn (2 ^ (bc + 1)) (bit w.toNat 10) a d) [ia, id] (Sys2Proof.Machine.exec (.vcvt t w) s))
    ∧ (Runs s t (form 0xAB (fld w 24 0 == 0)) → x.desc ia = some a → x.desc ib = some b →
        may (.vscale a b) → a.wr = true → a.stype = .fp16 → b.etype = .fp32 → b.channels = 1 → b.rows = a.rows →
        Issues t 1 s tag (.vscale a b) [ia, ib] (Sys2Proof.Machine.exec (.vscale t w) s))
    ∧ (Runs s t (form 0xAC (fld w 40 25 == 0 && fld w 10 0 == 0)) → x.desc id = some d →
        may (.vfill ((x.reg (fld w 16 11)).setWidth 32) d) → d.wr = true → d.stype = .none → d.esc = false →
        Issues t 1 s tag (.vfill ((x.reg (fld w 16 11)).setWidth 32) d) [id] (Sys2Proof.Machine.exec (.vfill t w) s))
  )
  ∧
  (
  ∀ (t : Who) (w : Head) (s : State) (a d : Desc),
    let x := s.thr t.num
    let tag := fld w 49 41
    let ia := fld w 40 33
    let id := fld w 32 25
    let form (op : Nat) (ok : Bool) : Form := tensor op w [] true false false (if ok then none else some 0)
    let issues (kind : RedKind) (n : Nat) (o : Host.Outcome State Fault Refusal) : Prop :=
      x.desc ia = some a → x.desc id = some d → TagOpen s t tag →
        (∀ i y, x.desc i = some y → kindAllowed s.mem (.red kind (fld w 24 22 + 1) a d) y = true) →
        d.wr = true → d.etype = .fp32 → d.channels = n → d.rows = a.rows →
        Issues t 1 s tag (.red kind (fld w 24 22 + 1) a d) [ia, id] o
    (Runs s t (form 0xC0 (fld w 20 0 == 0 && fld w 24 22 == 0 && fld w 21 21 == 0)) → issues .sum 4 (Sys2Proof.Machine.exec (.redSum t w) s))
    ∧ (Runs s t (form 0xC1 (fld w 20 0 == 0 && fld w 24 22 == 0 && fld w 21 21 == 0)) → issues .sumsq 4 (Sys2Proof.Machine.exec (.redSumsq t w) s))
    ∧ (Runs s t (form 0xC2 (fld w 20 0 == 0 && fld w 24 22 == 0 && fld w 21 21 == 0)) → issues .meanvar 4 (Sys2Proof.Machine.exec (.redMeanvar t w) s))
    ∧ (Runs s t (form 0xC3 (fld w 20 0 == 0 && fld w 24 22 == 0)) →
        issues (if bit w.toNat 21 then .absmax else .max) 4 (Sys2Proof.Machine.exec (.redMax t w) s))
    ∧ (Runs s t (form 0xC4 (fld w 20 0 == 0 && fld w 21 21 == 0)) → issues .topk 16 (Sys2Proof.Machine.exec (.redTopk t w) s))
  )
  ∧
  (
  ∀ (t : Who) (w : Head) (s : State) (a i d : Desc),
    let x := s.thr t.num
    let tag := fld w 49 41
    let s1 := fld w 40 33
    let s2 := fld w 32 25
    let s3 := fld w 24 17
    let s4 := fld w 16 9
    let may (op : TxOp) : Prop := TagOpen s t tag ∧ ∀ j y, x.desc j = some y → kindAllowed s.mem op y = true
    let form (op : Nat) (hub ok : Bool) : Form := tensor op w [] true hub false (if ok then none else some 0)
    let transposes (int4 : Bool) (o : Host.Outcome State Fault Refusal) : Prop :=
      x.desc s1 = some a → x.desc s2 = some d → may (.xpose a d) → a.stype = .none → a.esc = false →
        (int4 = false → a.etype ≠ .int4) → d.wr = true → d.etype = a.etype → d.stype = .none → d.esc = false → d.channels = a.size 1 →
        d.size 1 = a.channels → (∀ k, k < 3 → d.size (k + 2) = a.size (k + 2)) → Issues t 1 s tag (.xpose a d) [s1, s2] o
    (Runs s t (form 0xC8 false (fld w 16 0 == 0)) → x.desc s1 = some a → x.desc s2 = some i → x.desc s3 = some d → may (.gather a i d) →
        a.ndim = 2 → i.etype = .int32 → i.ndim = 1 → d.wr = true → d.ndim = 2 → d.size 1 = i.channels → d.channels = a.channels →
        d.etype = a.etype → d.stype = a.stype → d.block = a.block → d.esc = a.esc →
        Issues t 1 s tag (.gather a i d) [s1, s2, s3] (Sys2Proof.Machine.exec (.gather t w) s))
    ∧ (Runs s t (form 0xC9 false (fld w 6 0 == 0 && fld w 16 8 == 0)) → x.desc s1 = some a → x.desc s2 = some i → x.desc s3 = some d →
        may (.scatterAdd a i d none (bit w.toNat 7)) → addType a = true → a.ndim = 2 → a.size 1 = i.channels → i.etype = .int32 → i.ndim = 1 →
        d.wr = true → addType d = true → d.ndim = 2 → d.channels = a.channels →
        Issues t 1 s tag (.scatterAdd a i d none (bit w.toNat 7)) [s1, s2, s3] (Sys2Proof.Machine.exec (.scatterAdd t w) s))
    ∧ (∀ g, Runs s t (form 0xC9 false (fld w 6 0 == 0 && bit w.toNat 8)) → x.desc s1 = some a → x.desc s2 = some i → x.desc s3 = some d →
        x.desc s4 = some g → may (.scatterAdd a i d (some g) (bit w.toNat 7)) → addType a = true → a.ndim = 2 → a.size 1 = i.channels →
        i.etype = .int32 → i.ndim = 1 → d.wr = true → addType d = true → d.ndim = 2 → d.channels = a.channels → addType g = true →
        g.channels = i.channels →
        Issues t 1 s tag (.scatterAdd a i d (some g) (bit w.toNat 7)) [s1, s2, s3, s4] (Sys2Proof.Machine.exec (.scatterAdd t w) s))
    ∧ (Runs s t (form 0xD0 true (fld w 24 0 == 0)) → transposes false (Sys2Proof.Machine.exec (.xposeNet t w) s))
    ∧ (Runs s t (form 0xD1 false (fld w 24 0 == 0)) → transposes true (Sys2Proof.Machine.exec (.xposeStride t w) s))
    ∧ (chosen s t = true → x.pc.toNat + 1 ≤ codeLength s t → 4 ≤ t.c.val →
        TrapsAs t s 0x10 0x0405 (fullWord 0xD0 w).toNat 0 tag (Sys2Proof.Machine.exec (.xposeNet t w) s))
    ∧ (Runs s t (form 0x88 false (fld w 24 0 == 0)) → x.desc s1 = some a → x.desc s2 = some d → may (.dmaCopy a d) → d.wr = true →
        sameShape a d = true → a.overlaps d = false →
        Issues t 1 s tag (.dmaCopy a d) [s1, s2] (Sys2Proof.Machine.exec (.dmaCopy t w) s))
    ∧ (Runs s t (form 0x88 false (fld w 24 0 == 0)) → x.desc s1 = some a → x.desc s2 = some d → TagOpen s t tag → d.wr = true →
        (sameShape a d = false → TrapsAs t s 0x19 0x0409 2 s2 tag (Sys2Proof.Machine.exec (.dmaCopy t w) s))
        ∧ (sameShape a d = true → a.overlaps d = true → TrapsAs t s 0x19 0x0409 3 s2 tag (Sys2Proof.Machine.exec (.dmaCopy t w) s)))
  )

/-- STORE.READ, STORE.WRITE, NET.SEND and NET.RECV issue with the operands their registers name, on the checks of Table STI-3, on a session
that the program serves. LOAD and UNLOAD at issue, for a privileged thread on a hub conductor. LOAD that passes Table STI-6 records its
plan's regions as loading, one a tile; UNLOAD marks every matching region leaving; a plan record outside R225 traps with cause 0x16, one in
a poisoned line is refused, and a plan that matches no region is refused with its layer. Clauses that rest on a choice of the model: log
entries 12, 93. -/
def Obligations.MovementAndLoadIssue : Prop :=
  (
  ∀ (t : Who) (w : Head) (s : State) (d : Desc),
    let x := s.thr t.num
    let tag := fld w 49 41
    let slot := fld w 40 33
    let r1 := x.reg (fld w 32 27)
    let r2 := x.reg (fld w 26 21)
    let id := r1.toNat % 2 ^ 32
    let form (op : Nat) (ok : Bool) : Form := tensor op w [] true true false (if ok then none else some 0)
    let may (op : TxOp) : Prop := x.desc slot = some d ∧ TagOpen s t tag ∧ ∀ i y, x.desc i = some y → kindAllowed s.mem op y = true
    (∀ o, Runs s t (form 0x89 (fld w 20 0 == 0)) → may (.storeRead d id r2.toNat) → d.wr = true → s.object? id = some o →
        x.program ∈ o.grants → r2.toNat * 4096 + d.imageBytes ≤ o.pages * 4096 →
        Issues t 1 s tag (.storeRead d id r2.toNat) [slot] (Sys2Proof.Machine.exec (.storeRead t w) s))
    ∧ (∀ o, Runs s t (form 0x8A (fld w 20 0 == 0)) → may (.storeWrite d id r2.toNat) → s.object? id = some o → o.openWrite = true →
        x.program ∈ o.grants → (∀ y ∈ s.txs, ∀ e n, y.op ≠ .storeWrite e id n) → r2.toNat = o.writePoint →
        r2.toNat * 4096 + d.imageBytes ≤ o.pages * 4096 →
        Issues t 1 s tag (.storeWrite d id r2.toNat) [slot] (Sys2Proof.Machine.exec (.storeWrite t w) s))
    ∧ (∀ i, Runs s t (form 0x8B (decide (fld w 26 24 < 5) && fld w 22 0 == 0)) → may (.netSend d id (fld w 26 24) (bit w.toNat 23)) →
        s.ownLive? x.program id = some i → sendTypeOk (s.sess i).kind (fld w 26 24) = true →
        Issues t 1 s tag (.netSend d id (fld w 26 24) (bit w.toNat 23)) [slot] (Sys2Proof.Machine.exec (.netSend t w) s))
    ∧ (Runs s t (form 0x8B (decide (fld w 26 24 < 5) && fld w 22 0 == 0)) → x.desc slot = some d → TagOpen s t tag →
        (s.ownLive? x.program id = none ∨ ∃ i, s.ownLive? x.program id = some i ∧ sendTypeOk (s.sess i).kind (fld w 26 24) = false) →
        TrapsAs t s 0x19 0x0409 5 (fld w 32 27) tag (Sys2Proof.Machine.exec (.netSend t w) s))
    ∧ (Runs s t (form 0x8C (fld w 20 0 == 0)) → may (.netRecv d id r2.toNat) → d.wr = true →
        (id = 0xFFFFFFFF ∨ ∃ i, s.ownLive? x.program id = some i) → receiptOk s x.program r2.toNat = true →
        Issues t 1 s tag (.netRecv d id r2.toNat) [slot] (Sys2Proof.Machine.exec (.netRecv t w) s))
  )
  ∧
  (
  ∀ (t : Who) (w : Head) (s : State),
    let x := s.thr t.num
    let tag := fld w 49 41
    let slot := fld w 40 33
    let a := (x.reg (fld w 32 27)).toNat
    let p := parsePlan (s.mem.readN a 64)
    let f := tensor 0x8D w [] true true true (if fld w 26 0 == 0 then none else some 0)
    let g := tensor 0x8E w [] true true true (if fld w 40 33 == 0 && fld w 26 0 == 0 then none else some 0)
    let reads : Prop := scalarOk s x.program a 64 = true ∧ s.mem.poisoned a = false
    let issued (op : TxOp) (slots : List Nat) (u : State) : Prop :=
      u.thr t.num = x.advance 1 ∧ (∀ j, j ≠ t.num → u.thr j = s.thr j) ∧ u.tag t.c.val tag = .pending
        ∧ u.txs = s.txs.filter (fun y => !(y.c == t.c.val && y.tag == tag))
            ++ [{ c := t.c.val, tag := tag, k := t.k.val, pc := x.pc.toNat, op := op, slots := slots }]
        ∧ { u with threads := s.threads, rot := s.rot, pins := s.pins, tags := s.tags, txs := s.txs, arr := s.arr } = s
    (∀ d, Runs s t f → x.desc slot = some d → TagOpen s t tag → reads → Awake s a → loadCheck s x.program p d = none →
        kindAllowed s.mem (.load d p) d = true →
        ∃ u, Sys2Proof.Machine.exec (.load t w) s = .next u ∧ issued (.load d p) [slot] u
          ∧ u.arr.regions = s.arr.regions ++ (List.range p.ntiles).map (fun j => p.region s.modelRoot d (s.arr.nextRegion + j) j)
          ∧ { u.arr with regions := s.arr.regions, nextRegion := s.arr.nextRegion } = s.arr)
    ∧ (Runs s t g → TagOpen s t tag → reads → Awake s a → (∃ r ∈ s.arr.regions, p.matches r = true) →
        ∃ u, Sys2Proof.Machine.exec (.unload t w) s = .next u ∧ issued (.unload ((s.arr.regions.filter p.matches).map Region.id)) [] u
          ∧ { u.arr with regions := s.arr.regions } = s.arr
          ∧ u.arr.regions = s.arr.regions.map (fun r =>
              if r.id ∈ (s.arr.regions.filter p.matches).map Region.id then { r with state := .leaving } else r))
    ∧ (Runs s t g → TagOpen s t tag → reads → (∀ r ∈ s.arr.regions, p.matches r = false) →
        TrapsAs t s 0x19 0x0409 1 p.layer tag (Sys2Proof.Machine.exec (.unload t w) s))
    ∧ (∀ d, Runs s t f → x.desc slot = some d → TagOpen s t tag → scalarOk s x.program a 64 = false →
        TrapsAs t s 0x16 0x0408 a 64 tag (Sys2Proof.Machine.exec (.load t w) s))
    ∧ (∀ d, Runs s t f → x.desc slot = some d → TagOpen s t tag → scalarOk s x.program a 64 = true → s.mem.poisoned a = true →
        ∃ u, Sys2Proof.Machine.exec (.load t w) s = .next u ∧ (u.thr t.num).tra = x.pc ∧ u.txs = s.txs ∧ u.tags = s.tags ∧ u.arr = s.arr)
    ∧ (∀ d n, Runs s t f → x.desc slot = some d → TagOpen s t tag → reads → loadCheck s x.program p d = some n →
        TrapsAs t s 0x19 0x0409 n (if n = 3 then slot else 0) tag (Sys2Proof.Machine.exec (.load t w) s))
  )

/-- SWEEP at issue reads its operands and holds its thread until SWEEP_ENQUEUE lets it into the queue of two: its tag is then PENDING and
the thread passes its four words. The second sweep of a thread's FORECAST enters first. A check of Table STI-8 that fails traps with its
number. ROUTE issues where its operands are those of Table STI-11 and its table lies in a hub bank allocation of the program, with the
layer's instance counts and CAP_FACTOR latched; FORECAST that passes its checks holds its thread for its first sweep. Clauses that rest on a
choice of the model: log entries 15, 16, 125, 137, 138. -/
def Obligations.SweepAndRouteIssue : Prop :=
  (
  ∀ (t : Who) (w : Head) (w1 w2 w3 : Word64) (s : State),
    let x := s.thr t.num
    let tag := fld w 49 41
    let words := [fullWord 0xA0 w, w1, w2, w3]
    let f := tensor 0xA0 w [w1, w2, w3] true true false (sweepBad w w1 w2 w3)
    let slots := sweepOperandSlots w w1 w2 w3
    let checks (din : Desc) : Option (Nat × Nat) :=
      let op := readSweep s t w w1 w2 w3 din
      sweepCheck s op (sweepSlots w w1 w2 w3) (peerMtu s op.sess)
    (∀ din, Runs s t f → (∀ i ∈ slots, (x.desc i).isSome = true) → x.desc (fld w 40 33) = some din → TagOpen s t tag → checks din = none →
        ∃ u, Sys2Proof.Machine.exec (.sweep t w w1 w2 w3) s = .next u
          ∧ u.thr t.num = { x with state := .waiting, held := some ⟨.sweep, words⟩ } ∧ (∀ j, j ≠ t.num → u.thr j = s.thr j)
          ∧ u.arr.sweeps.waiting = s.arr.sweeps.waiting.filter (fun y => y.c * 8 + y.k != t.num)
              ++ [{ c := t.c.val, tag := tag, k := t.k.val, pc := x.pc.toNat, op := .sweep (readSweep s t w w1 w2 w3 din), slots := slots }]
          ∧ u.txs = s.txs ∧ u.tags = s.tags ∧ { u with threads := s.threads, rot := s.rot, pins := s.pins, arr := s.arr } = s)
    ∧ (∀ din n i, Runs s t f → (∀ i ∈ slots, (x.desc i).isSome = true) → x.desc (fld w 40 33) = some din → TagOpen s t tag →
        checks din = some (n, i) → n ≠ 10 → TrapsAs t s 0x19 0x0409 n i tag (Sys2Proof.Machine.exec (.sweep t w w1 w2 w3) s))
    ∧ (∀ op y, s.arr.sweeps.queue.length < 2 → s.test.holdIssue = false → s.secondOf t.num = none → queueWinner s = some t.num →
        x.held = some ⟨.sweep, words⟩ → s.heldSweep t.num = some y → y.op = .sweep op →
        ∃ u, Sys2Proof.Machine.exec (.sweepEnqueue t) s = .next u
          ∧ u.thr t.num = { x.advance 4 with state := .ready, held := none } ∧ (∀ j, j ≠ t.num → u.thr j = s.thr j)
          ∧ u.arr.sweeps.queue = s.arr.sweeps.queue ++ [y.num]
          ∧ (∀ c g, g < 512 → y.tag < 512 → u.tag c g = if c = y.c ∧ g = y.tag then .pending else s.tag c g)
          ∧ y ∈ u.txs ∧ { u with threads := s.threads, rot := s.rot, pins := s.pins, arr := s.arr, tags := s.tags, txs := s.txs } = s)
    ∧ (∀ n, s.arr.sweeps.queue.length < 2 → s.test.holdIssue = false → s.secondOf t.num = some n → queueWinner s = some t.num →
        ∃ u, Sys2Proof.Machine.exec (.sweepEnqueue t) s = .next u ∧ u.arr.sweeps.queue = s.arr.sweeps.queue ++ [n]
          ∧ u.arr.sweeps.seconds = takeOut s.arr.sweeps.seconds n ∧ { u with pins := s.pins, arr := s.arr } = s)
    ∧ (2 ≤ s.arr.sweeps.queue.length → ∃ u, Sys2Proof.Machine.exec (.sweepEnqueue t) s = .next u ∧ { u with pins := s.pins } = s)
  )
  ∧
  (
  ∀ (t : Who) (w : Head) (w1 : Word64) (s : State) (d1 d2 d3 d4 d5 : Desc),
    let x := s.thr t.num
    let tag := fld w 49 41
    let k := xf w1 47 45 + 1
    let layer := xf w1 63 48
    let table := (x.reg (xf w1 44 39)).toNat
    let slots := [fld w 40 33, fld w 32 25, fld w 24 17, fld w 16 9]
    let held : Prop := x.desc (fld w 40 33) = some d1 ∧ x.desc (fld w 32 25) = some d2 ∧ x.desc (fld w 24 17) = some d3
      ∧ x.desc (fld w 16 9) = some d4
    let op : RouteOp :=
      { dl := d1, dp := d2, dg := d3, di := d4, dc := d5, sigmoid := bit w.toNat 0, layer := layer, k := k, table := table
        tokMask := regOpt s t (xf w1 38 33), instances := (List.range d1.channels).map (instanceCount s layer)
        capFactor := s.policy 0x000A0204 8 0 }
    let fo : ForecastOp :=
      { din := d1, dc := d2, dh := d3, dsc := d4, alayer := layer, blayer := xf w1 47 32, actBase := (x.reg (xf w1 31 26)).toNat
        fidelity := bit w1.toNat 25, first := bit w1.toNat 24 }
    let out (d : Desc) (ty : EType) : Prop := d.etype = ty ∧ d.channels = k * d1.rows ∧ d.wr = true
    (Runs s t (tensor 0xD8 w [w1] true true false (if xf w1 32 0 == 0 then none else some 1)) → held → x.desc (fld w 8 1) = some d5 →
        TagOpen s t tag → (∀ i y, x.desc i = some y → kindAllowed s.mem (.route op) y = true) →
        d1.etype = .fp32 → d1.channels ≤ 256 → d1.ndim = 2 → d1.rows ≤ 256 → d2.etype = .int32 → d2.channels = d1.rows →
        out d3 .fp32 → out d4 .int32 → out d5 .int32 → layerExperts (layerRegions s layer) = d1.channels →
        hubAlloc s x.program table (64 + 216 * d1.channels + 4 * k * d1.rows) = true →
        Issues t 2 s tag (.route op) (slots ++ [fld w 8 1]) (Sys2Proof.Machine.exec (.route t w w1) s))
    ∧ (Runs s t (tensor 0xD9 w [w1] true true false (if fld w 8 0 == 0 then (if xf w1 23 0 == 0 then none else some 1) else some 0)) →
        held → TagOpen s t tag → forecastCheck s w w1 fo = none →
        ∃ u, Sys2Proof.Machine.exec (.forecast t w w1) s = .next u
          ∧ u.thr t.num = { x with state := .waiting, held := some ⟨.sweep, [fullWord 0xD9 w, w1]⟩ } ∧ (∀ j, j ≠ t.num → u.thr j = s.thr j)
          ∧ u.arr.sweeps.waiting = s.arr.sweeps.waiting.filter (fun y => y.c * 8 + y.k != t.num)
              ++ [{ c := t.c.val, tag := tag, k := t.k.val, pc := x.pc.toNat, op := .forecast fo, slots := slots }]
          ∧ u.txs = s.txs ∧ u.tags = s.tags ∧ { u with threads := s.threads, rot := s.rot, pins := s.pins, arr := s.arr } = s)
  )

/-- SESS.TOKENIZE, DETOKENIZE, SAMPLE, BIND, KVMAP and CLOSE issue with their operands, of the types of Table STI-14, and the address of
their handles; an operand of another type is refused as check 1, a slot field that is no operand must be 0 (cause 0x11), and a written
operand needs WR. Clauses that rest on a choice of the model: log entry 144. -/
def Obligations.SessionInstructionIssue : Prop :=
  ∀ (t : Who) (w : Head) (s : State) (a d : Desc),
    let x := s.thr t.num
    let tag := fld w 49 41
    let ia := fld w 40 33
    let id := fld w 32 25
    let h := (x.reg (fld w 24 19)).toNat
    let form (op : Nat) (ok : Bool) : Form := tensor op w [] true true false (if ok then none else some 0)
    let may (op : TxOp) : Prop := TagOpen s t tag ∧ ∀ i y, x.desc i = some y → kindAllowed s.mem op y = true
    let both : Prop := x.desc ia = some a ∧ x.desc id = some d ∧ d.wr = true
    (Runs s t (form 0xE0 (fld w 18 0 == 0)) → x.desc ia = some a → x.desc id = some d → TagOpen s t tag → a.etype ≠ .int8 →
        TrapsAs t s 0x19 0x0409 1 ia tag (Sys2Proof.Machine.exec (.sessTokenize t w) s))
    ∧ (Runs s t (form 0xE0 (fld w 18 0 == 0)) → both → a.etype = .int8 → d.etype = .int32 → may (.tokenize a d h) →
        Issues t 1 s tag (.tokenize a d h) [ia, id] (Sys2Proof.Machine.exec (.sessTokenize t w) s))
    ∧ (Runs s t (form 0xE1 (fld w 18 0 == 0)) → both → a.etype = .int32 → d.etype = .int8 → may (.detokenize a d h) →
        Issues t 1 s tag (.detokenize a d h) [ia, id] (Sys2Proof.Machine.exec (.sessDetokenize t w) s))
    ∧ (Runs s t (form 0xE2 (fld w 17 0 == 0)) → both → a.etype = .fp32 → d.etype = .int32 → may (.sample a d h (bit w.toNat 18)) →
        Issues t 1 s tag (.sample a d h (bit w.toNat 18)) [ia, id] (Sys2Proof.Machine.exec (.sessSample t w) s))
    ∧ (Runs s t (form 0xE3 (fld w 6 0 == 0 && fld w 17 8 == 0 && id == 0)) → bit w.toNat 18 = true → x.desc ia = some a → a.etype = .fp32 →
        may (.bind (some a) 0 (bit w.toNat 7) h) → Issues t 1 s tag (.bind (some a) 0 (bit w.toNat 7) h) [ia] (Sys2Proof.Machine.exec (.sessBind t w) s))
    ∧ (Runs s t (form 0xE3 (fld w 6 0 == 0 && ia == 0 && id == 0)) → bit w.toNat 18 = false → TagOpen s t tag →
        Issues t 1 s tag (.bind none (fld w 17 8) (bit w.toNat 7) h) [] (Sys2Proof.Machine.exec (.sessBind t w) s))
    ∧ (Runs s t (form 0xE4 (fld w 18 16 == 0 && ia == 0)) → x.desc id = some d → d.wr = true → d.etype = .int32 → may (.kvmap d (fld w 15 0) h) →
        Issues t 1 s tag (.kvmap d (fld w 15 0) h) [id] (Sys2Proof.Machine.exec (.sessKvmap t w) s))
    ∧ (Runs s t (form 0xE5 (fld w 18 8 == 0 && decide (0x10 ≤ fld w 7 0) && decide (fld w 7 0 ≤ 0x16) && ia == 0 && id == 0)) → TagOpen s t tag →
        Issues t 1 s tag (.sessClose (fld w 7 0) h) [] (Sys2Proof.Machine.exec (.sessClose t w) s))
    ∧ (chosen s t = true → x.pc.toNat + 1 ≤ codeLength s t → t.c.val < 4 → insideLoop s t 1 = true → fld w 55 54 = 0 → fld w 18 0 = 0 →
        ia ≠ 0 → TrapsAs t s 0x11 0x0405 (fullWord 0xE5 w).toNat 0 tag (Sys2Proof.Machine.exec (.sessClose t w) s))

/-- TENSOR_OP_COMPLETE of the vector, reduction, gather, scatter and transpose instructions: what each writes, its end, and its fault.
DMA_COPY_DONE, STORE_READ_DONE, STORE_WRITE_DONE and SWEEP_DONE. A copy writes its image element for element; one that comes to a page not
yet staged keeps the bytes before it, waits for it and counts one soft fault. A store read fills the destination's image and an
unrecoverable page faults it with STO_UNRECOVERABLE, the object and its unit; a store write moves the object's write point past its units,
and into SPILL only with the spills allowed; a sweep that has sent every tile leaves PENDING. Clauses that rest on a choice of the model:
log entries 7, 28, 33, 40, 152. -/
def Obligations.TransactionEnds : Prop :=
  (
  ∀ (c : Fin 20) (tag : Fin 512) (s : State) (x : Tx), s.tx? c.val tag.val = some x →
    let ends (sources : List Desc) (r : Result) : Prop := Ends x sources r s (Sys2Proof.Machine.exec (.tensorOpComplete c tag {}) s)
    (∀ fn bc a b d, x.op = .vbin fn bc a b d → ends [a, b] (vbinResult s.mem fn bc a b d))
    ∧ (∀ fn a d, x.op = .vun fn a d → ends [a] (vunResult s.mem fn a d))
    ∧ (∀ e r g a d, x.op = .vcvt e r g a d → ends [a] (vcvtResult s.mem e r g a d))
    ∧ (∀ a b, x.op = .vscale a b → ends [a, b] (vscaleResult s.mem a b))
    ∧ (∀ v d, x.op = .vfill v d → ends [] (vfillResult v d))
    ∧ (∀ kind k a d, x.op = .red kind k a d → ends [a] (redResult s.mem kind k a d))
    ∧ (∀ a i d, x.op = .gather a i d → ends [a, i] (gatherResult x.c x.k s.mem a i d))
    ∧ (∀ a i d g skip, x.op = .scatterAdd a i d g skip → ends ([a, i] ++ g.toList ++ [d]) (scatterResult x.c x.k s.mem a i d g skip))
    ∧ (∀ a d, x.op = .xpose a d → ends [a] (xposeResult s.mem a d))
    ∧ (∀ a d h, x.op = .detokenize a d h → poisonAt s.mem (handleAddrs h a.rows) = none → ∃ ws, ends [a] { writes := ws }
        ∧ ∀ e ∈ ws, ∃ p, p < d.rows ∧ (e ∈ d.padWrites p ∨ ∃ c i, c < d.channels ∧ i < d.etype.bits / 8 ∧ e.1 = d.elemAddr p c + i))
  )
  ∧
  (
  ∀ (c : Fin 20) (tag : Fin 512) (s : State) (x : Tx), s.tx? c.val tag.val = some x →
    (∀ a d, x.op = .dmaCopy a d → unstagedAt s a (a.imageAddrs.drop x.moved) = none →
        Ends x [a] (dmaResult s.mem a d x) s (Sys2Proof.Machine.exec (.dmaCopyDone c tag {}) s))
    ∧ (∀ a d i, x.op = .dmaCopy a d → unstagedAt s a (a.imageAddrs.drop x.moved) = some i → x.soft = false →
        poisonAt s.mem ((a.imageAddrs.take (x.moved + i)).drop x.moved) = none → (∀ f ∈ s.kv.fetches, x.num ∉ f.waiting) →
        ∃ u, Sys2Proof.Machine.exec (.dmaCopyDone c tag {}) s = .next u ∧ u.tags = s.tags ∧ u.threads = s.threads
          ∧ (∀ b, u.mem.read b =
              (s.mem.write (imageWritesFrom d x.moved (((imageBytes s.mem a).take (x.moved + i)).drop x.moved))).read b)
          ∧ u.tx? c.val tag.val = some { x with moved := x.moved + i, soft := true }
          ∧ (∃ f ∈ u.kv.fetches, f.key = nthD 0 (a.imageAddrs.drop x.moved) i / 65536 ∧ x.num ∈ f.waiting)
          ∧ u.word (0x00090004 + x.c * 0x400) = s.word (0x00090004 + x.c * 0x400) + 1)
    ∧ (∀ d id rf o, x.op = .storeRead d id rf → s.object? id = some o →
        Ends x [] { writes := imageWrites d (objectBytes s o (rf * 4096) d.imageBytes) } s (Sys2Proof.Machine.exec (.storeReadDone c tag [] none) s))
    ∧ (∀ d id rf o r, x.op = .storeRead d id rf → s.object? id = some o → r.step = 6 → rf ≤ r.page →
        r.page < rf + ceilDiv d.imageBytes 4096 → r.page < o.writePoint →
        ∃ u, Sys2Proof.Machine.exec (.storeReadDone c tag [r] none) s = .next u ∧ Leaves x.c x.tag .faulted s u ∧ u.threads = s.threads
          ∧ (∀ b, ¬ (recordAreaOk s x.c = true ∧ s.recordBase x.c + 32 * x.tag ≤ b ∧ b < s.recordBase x.c + 32 * x.tag + 32) →
              u.mem.read b = s.mem.read b)
          ∧ (recordAreaOk s x.c = true → s.mem.isCode (s.recordBase x.c + 32 * x.tag) = false →
              s.mem.isCode (s.recordBase x.c + 32 * x.tag + 1) = false →
              u.mem.readLe (s.recordBase x.c + 32 * x.tag) 2 = 0x0605))
    ∧ (∀ d id rf o, x.op = .storeWrite d id rf → firstWrite s x id = true → unstagedPage s d = none → firstPoison s.mem [d] = none →
        x.fault = none → s.object? id = some o → (o.region = 3 → s.storeState = 2 ∧ 65536 ≤ s.store.credit) →
        ∃ u, Sys2Proof.Machine.exec (.storeWriteDone c tag none none) s = .next u ∧ Leaves x.c x.tag .done s u
          ∧ u.threads = s.threads ∧ (∀ b, u.mem.read b = s.mem.read b)
          ∧ (∀ i, i < (imageBytes s.mem d).length → look 0#8 u.store.data (id * 2 ^ 40 + rf * 4096 + i) = nthD 0#8 (imageBytes s.mem d) i)
          ∧ (∃ y ∈ u.store.objects, y.id = id ∧ y.writePoint = rf + ((imageBytes s.mem d).length + 4095) / 4096))
    ∧ (∀ d id rf o, x.op = .storeWrite d id rf → firstWrite s x id = true → unstagedPage s d = none → s.object? id = some o → o.region = 3 →
        (s.storeState ≠ 2 ∨ s.store.credit < 65536) →
        ∃ u, Sys2Proof.Machine.exec (.storeWriteDone c tag none none) s = .next u ∧ Leaves x.c x.tag .faulted s u
          ∧ u.store = s.store ∧ (recordAreaOk s x.c = true → s.mem.isCode (s.recordBase x.c + 32 * x.tag) = false →
              s.mem.isCode (s.recordBase x.c + 32 * x.tag + 1) = false →
              u.mem.readLe (s.recordBase x.c + 32 * x.tag) 2 = 0x0608))
    ∧ (∀ op w, x.op = .sweep op → s.sweepOf x.num = some op → s.workOf x.num = some w → w.todo = [] →
        sweepEnds s x.num op w = true → sweepPoison s.mem op (w.withShares s op) = none →
        ∃ u, Sys2Proof.Machine.exec (.sweepDone c tag {}) s = .next u ∧ Leaves x.c x.tag .done s u ∧ u.threads = s.threads)
    ∧ (∀ op w a, x.op = .sweep op → s.sweepOf x.num = some op → s.workOf x.num = some w → w.todo = [] →
        sweepEnds s x.num op w = true → sweepPoison s.mem op (w.withShares s op) = some a →
        ∃ u, Sys2Proof.Machine.exec (.sweepDone c tag {}) s = .next u ∧ Leaves x.c x.tag .faulted s u ∧ u.threads = s.threads
          ∧ (x.num, 0) ∈ u.arr.replays)
  )

/-- What the vector instructions compute: VBIN's and VUN's functions (R264), and the fault of out-of-range indices (R130). -/
def Obligations.VectorFunctions : Prop :=
  (∀ (m : Mem) (fn bc : Nat) (a b d : Desc) (p c : Nat), p < a.rows → c < a.channels →
      let v := vbinOther m bc b p c
      (nthD [] ((List.range a.rows).map (fun i => (List.range a.channels).map (fun j => vbinFn fn (a.value m i j) (vbinOther m bc b i j)))) p)[c]?
        = some (vbinFn fn (a.value m p c) v)
      ∧ (bc = 0 → v = b.value m p c) ∧ (bc = 1 → v = b.value m 0 c) ∧ (bc = 2 → v = b.value m p 0) ∧ (bc = 3 → v = b.value m 0 0)
      ∧ (vbinResult m fn bc a b d).fault = none)
  ∧ (∀ a b : F32, vbinFn 0 a b = fAdd a b ∧ vbinFn 1 a b = fSub a b ∧ vbinFn 2 a b = fMul a b ∧ vbinFn 3 a b = fMax a b
      ∧ vbinFn 4 a b = fMin a b ∧ vbinFn 5 a b = fDiv a b)
  ∧ (∀ a : F32, vunFn 5 a = fDiv fOne a ∧ vunFn 6 a = fDiv fOne (fSqrt a) ∧ vunFn 7 a = fAbs a ∧ vunFn 8 a = fNeg a)
  ∧ (∀ (c k : Nat) (m : Mem) (src idx dst : Desc),
      let out (i : Nat) : Prop := ¬ (0 ≤ idx.int m 0 i ∧ idx.int m 0 i < src.size 1)
      ((gatherResult c k m src idx dst).fault = none ↔ ∀ i, i < idx.channels → ¬ out i)
      ∧ (∀ e i0 i1, (gatherResult c k m src idx dst).fault = some (e, i0, i1) →
          e = 0x0206 ∧ i0 < idx.channels ∧ out i0 ∧ (∀ i, i < i0 → ¬ out i) ∧ 0 < i1 ∧ i1 ≤ idx.channels))

/-- SWEEP_START takes the queue's head into the array, which passes its sweep on to Finish, and drives its words but for a free number of
the last; a fidelity sweep whose A-macros need a recalibration holds the array. SWEEP_FINISH_HOLD_FREE gives a deferred sweep the hold
space; once its inputs may be read, its Finish holds the values and writes destination 0 and the statistics. SWEEP_ROW_SCALE forms a row's
scale once from the held values. OUTPUT_TILE_SEND hands tiles over as one frame on the PEER session and counts the stream's frame. Clauses
that rest on a choice of the model: log entries 111, 122, 134, 135, 140. -/
def Obligations.SweepPipeline : Prop :=
  (∀ (s : State) (num : Nat) (rest : List Nat) (op : SweepOp),
    s.arr.sweeps.stalled = false → s.test.holdIssue = false → s.arr.sweeps.queue = num :: rest → s.sweepOf num = some op →
    regionsReady s op = true → sweepsRun s = true →
      (op.fidelity = false → s.bat.step.any TokenStep.headroom = false →
        ∃ u, Sys2Proof.Machine.exec (.sweepStart) s = .next u ∧ u.arr.sweeps.queue = rest ∧ u.arr.sweeps.array = some num
          ∧ u.arr.sweeps.finishing = s.arr.sweeps.finishing ++ s.arr.sweeps.array.toList ∧ u.arr.sweeps.stalled = false
          ∧ (∃ w ∈ u.arr.sweeps.work, w.num = num ∧ w.todo.length ≤ s.drawn)
          ∧ u.threads = s.threads ∧ u.tags = s.tags ∧ u.txs = s.txs ∧ u.mem.cells = s.mem.cells)
      ∧ (op.fidelity = true → (∃ n ∈ sweepMacros s op, stale s n = true) → s.test.slice = none → s.pow.breeze = [] →
        (∀ n w, s.arr.sweeps.array = some n → s.workOf n = some w → w.todo = []) →
        ∃ u, Sys2Proof.Machine.exec (.sweepStart) s = .next u ∧ u.arr.sweeps.queue = rest ∧ u.arr.sweeps.array = some num
          ∧ u.arr.sweeps.stalled = true ∧ u.arr.sweeps.work = s.arr.sweeps.work ∧ u.word 0x000A010C = s.word 0x000A010C + 1
          ∧ u.threads = s.threads ∧ u.tags = s.tags ∧ u.txs = s.txs ∧ u.mem = s.mem))
  ∧ (∀ (c : Fin 20) (tag : Fin 512) (s : State) (op : SweepOp) (w : SweepWork),
    let num := c.val * 512 + tag.val
    let full := w.withShares s op
    let finishes (u : State) : Prop :=
      (∀ b, u.mem.read b = (s.mem.write (allRows (firstRow s.mem op) (finalRows s.mem op full)).1).read b)
        ∧ ∃ v ∈ u.arr.sweeps.work, v.num = num ∧ v.held = some (finalRows s.mem op full)
    s.sweepOf num = some op → s.workOf num = some w →
      (op.qrow = true → s.arr.sweeps.hold = none → (∀ n ∈ s.arr.sweeps.before num, ∀ o, s.sweepOf n = some o → o.qrow = false) →
        ∃ u, Sys2Proof.Machine.exec (.sweepFinishHoldFree c tag) s = .next u ∧ u.arr.sweeps.hold = some num
          ∧ u.threads = s.threads ∧ u.tags = s.tags ∧ u.txs = s.txs
          ∧ (w.todo = [] → (w.held.isSome = true ∨ finishReads_ s num op = false) →
              { u with pins := s.pins, arr := { u.arr with sweeps := { u.arr.sweeps with hold := none } } } = s)
          ∧ (w.todo = [] → w.held = none → finishReads_ s num op = true → finishes u))
      ∧ (∀ row d, op.qrow = true → op.d1 = some d → s.arr.sweeps.hold = some num →
          (∃ e ∈ w.rows, e.1 = row) → (∀ e ∈ s.arr.sweeps.rowScales, ¬ (e.1 = num ∧ e.2.1 = row)) →
        (w.held.isSome = true → ∃ u, Sys2Proof.Machine.exec (.sweepRowScale c tag row) s = .next u
          ∧ u.arr.sweeps.rowScales = s.arr.sweeps.rowScales ++ [(num, row, d.stype.value (rowScaleCode d (finalRow s.mem op w row)))]
          ∧ { u with pins := s.pins, arr := { u.arr with sweeps := { u.arr.sweeps with rowScales := s.arr.sweeps.rowScales } } } = s)
        ∧ (w.held = none → w.todo = [] → finishReads_ s num op = true →
          ∃ u, Sys2Proof.Machine.exec (.sweepRowScale c tag row) s = .next u ∧ finishes u
          ∧ u.arr.sweeps.rowScales = s.arr.sweeps.rowScales ++ [(num, row, d.stype.value (rowScaleCode d (finishedRow s.mem op full row)))]
          ∧ u.threads = s.threads ∧ u.tags = s.tags ∧ u.txs = s.txs))
      ∧ (∀ token0 vec0 ntile i, op.send ≠ 0 → w.todo = [] →
          (if op.qrow then w.held.isNone else finishHeld s num op) = false → frameOk op token0 vec0 ntile = true →
          (∀ j, j < ntile → tileSent s num token0 (vec0 + j) = false) → openSlot s op.sess = some i →
          let frame := look 0 s.front.frames op.stream
          let body := frameBytes s.mem op full s.epoch s.myRank s.front.attempt frame token0 vec0 ntile
          let out := cut (s.sess i).room (s.sess i).txNext typPeer body false
          (s.sess i).state ≠ .free → (s.sess i).txNext + out.length ≤ 0xFFFFFFFE →
        ∃ u, Sys2Proof.Machine.exec (.outputTileSend c tag token0 vec0 ntile) s = .next u
          ∧ u.arr.sweeps.sentTiles = s.arr.sweeps.sentTiles ++ [(num, token0, vec0, ntile)]
          ∧ look 0 u.front.frames op.stream = frame + 1
          ∧ u.sess i = { s.sess i with out := (s.sess i).out ++ out, txNext := (s.sess i).txNext + out.length }
          ∧ (∀ j, j ≠ i → u.sess j = s.sess j)
          ∧ { u with pins := s.pins, arr := s.arr, front := s.front, net := s.net } = s))

/-- NET_SEND_DONE hands the session a message cut into datagrams and its tag is DONE; NET_RECV_DONE writes the first message received, with
its receipt, and its tag is DONE; on a session that is closed, both are FAULTED with SES_CLOSED. Clauses that rest on a choice of the model:
log entries 37, 145. -/
def Obligations.SendsAndReceives : Prop :=
  ∀ (c : Fin 20) (tag : Fin 512) (s : State) (x : Tx), s.tx? c.val tag.val = some x →
    (∀ d h typ last i, x.op = .netSend d h typ last → x.fault = none → firstPoison s.mem [d] = none → firstSend s x h = true →
        openSlot s h = some i → (s.sess i).state ≠ .free →
        sealedBytes s + copyBytes (cut (s.sess i).room 0 (sendType typ) (imageBytes s.mem d) last) ≤ s.field 0x00060018 31 28 * 2 ^ 30 →
        let out := cut (s.sess i).room (s.sess i).txNext (sendType typ) (imageBytes s.mem d) last
        (s.sess i).txNext + out.length ≤ 0xFFFFFFFE →
        ∃ u, Sys2Proof.Machine.exec (.netSendDone c tag) s = .next u ∧ Leaves x.c x.tag .done s u ∧ u.threads = s.threads
          ∧ (∀ b, u.mem.read b = s.mem.read b)
          ∧ u.sess i = { s.sess i with out := (s.sess i).out ++ out, txNext := (s.sess i).txNext + out.length }
          ∧ ∀ j, j ≠ i → u.sess j = s.sess j)
    ∧ (∀ d h typ last, x.op = .netSend d h typ last → firstSend s x h = true → openSlot s h = none →
        ∃ u, Sys2Proof.Machine.exec (.netSendDone c tag) s = .next u ∧ Leaves x.c x.tag .faulted s u ∧ u.threads = s.threads ∧ u.net = s.net
          ∧ (RecordAwake s x.c → u.ev = s.ev.record (atSession 0x0802 h h 0) s.clk.half (s.field 0x000C0014 15 0)))
    ∧ (∀ d h a i m rest, x.op = .netRecv d h a → x.fault = none → h ≠ 0xFFFFFFFF → (receivesOf s h).head? = some x →
        openSlot s h = some i → (s.sess i).inbox = m :: rest →
        let got := m.payload.take d.imageBytes
        ∃ u, Sys2Proof.Machine.exec (.netRecvDone c tag) s = .next u ∧ Leaves x.c x.tag .done s u ∧ u.threads = s.threads
          ∧ (∀ b, u.mem.read b =
              (s.mem.write (imageWrites d got ++ run a (receiptBytes s (s.handle i) m got.length))).read b)
          ∧ u.sess i = { s.sess i with inbox := rest } ∧ ∀ j, j ≠ i → u.sess j = s.sess j)
    ∧ (∀ d h a, x.op = .netRecv d h a → h ≠ 0xFFFFFFFF → (receivesOf s h).head? = some x → openSlot s h = none →
        ∃ u, Sys2Proof.Machine.exec (.netRecvDone c tag) s = .next u ∧ Leaves x.c x.tag .faulted s u ∧ u.threads = s.threads ∧ u.net = s.net)

/-- LOAD_COMPLETE and UNLOAD_COMPLETE. A LOAD whose checks pass makes its plan's regions resident and is DONE; a failed check, or poison in
a table or in the weights, leaves it FAULTED with none of its regions in the map. UNLOAD_COMPLETE frees the leaving regions once no queued
sweep uses their layers. Clauses that rest on a choice of the model: log entries 7, 18, 91, 93, 96. -/
def Obligations.LoadCompletions : Prop :=
  ∀ (c : Fin 20) (tag : Fin 512) (s : State) (x : Tx), s.tx? c.val tag.val = some x →
    (∀ d p, x.op = .load d p → (∀ r ∈ s.arr.regions, p.mine r = true → r.written = false) → touchesUntested s p = false →
      unstagedPage s d = none → RecordAwake s x.c →
      let clean := (tableAddrs s.mem d p).find? s.mem.poisoned = none
      let failed (u : State) : Prop :=
        Sys2Proof.Machine.exec (.loadComplete c tag) s = .next u ∧ Leaves x.c x.tag .faulted s u ∧ u.threads = s.threads
          ∧ u.arr.regions = s.arr.regions.filter (fun r => !p.mine r) ∧ u.arr.pairs = s.arr.pairs
      (clean → keepRefusal s.mem d p = none → scaleBlocksOk d p = true → sideShort s d p = none → firstPoison s.mem [d] = none →
          remapsPending (writeLoad x d p s) p = false →
          ∃ u, Sys2Proof.Machine.exec (.loadComplete c tag) s = .next u ∧ Leaves x.c x.tag .done s u ∧ u.threads = s.threads
            ∧ u.arr.regions = (writeLoad x d p s).arr.regions.map (fun r => if p.mine r then { r with state := .resident } else r)
            ∧ u.mem = (writeLoad x d p s).mem)
      ∧ (∀ a, (tableAddrs s.mem d p).find? s.mem.poisoned = some a → ∃ u, failed u)
      ∧ (∀ e q j, clean → keepRefusal s.mem d p = some (e, q, j) → ∃ u, failed u
            ∧ u.ev = s.ev.record (atPair e (j * 48 + p.lead) q j) s.clk.half (s.field 0x000C0014 15 0))
      ∧ (clean → keepRefusal s.mem d p = none → scaleBlocksOk d p = false → ∃ u, failed u
            ∧ u.ev = s.ev.record (atPair 0x0305 (p.tile0 * 48 + p.lead) 0 p.tile0) s.clk.half (s.field 0x000C0014 15 0))
      ∧ (∀ j, clean → keepRefusal s.mem d p = none → scaleBlocksOk d p = true → sideShort s d p = some j → ∃ u, failed u
            ∧ u.ev = s.ev.record (atPair 0x0205 (j * 48 + p.lead) j 0) s.clk.half (s.field 0x000C0014 15 0)))
    ∧ (∀ ids, x.op = .unload ids → (∀ r ∈ s.arr.regions, r.id ∈ ids → layerInUse s r.layer = false) →
        ∃ u, Sys2Proof.Machine.exec (.unloadComplete c tag) s = .next u ∧ Leaves x.c x.tag .done s u ∧ u.threads = s.threads ∧ u.mem = s.mem
          ∧ u.arr.regions = s.arr.regions.filter (fun r => !ids.contains r.id))

/-- REFRESH_DUE and REFRESH_DEADLINE bring the clock to seven eighths of the row's period and to 64 steps before its deadline, by the step
count of its stack, and mark the row due and under refresh; REFRESH_ROW_DONE restores the levels sensed and notes the step of a due row's
refresh, and where the checksum of those levels disagrees raises ARR_ACELL_CHECKSUM and queues the row for reload; the periods of the four
bands are 8, 4, 2 and 1 ms. ROW_RELOAD_DONE takes the row off the queue with its D cells, A cells, parity and checksums written again from
the row's copy, and counts no column where the A cells agreed with it; REFRESH_BAND_FALL lowers the band by one 10 ms after the first cool
reading. A band follows its temperature by Table CAL-8. Clauses that rest on a choice of the model: log entries 1, 17, 122, 130. -/
def Obligations.RefreshAndReload : Prop :=
  (
  ∀ (p : PairId) (row : Nat) (sensed : List (Nat × Nat)) (s : State), upkeepOk s p row = true →
    let n := p.num
    let q := s.pair n
    let restored := restoreRow row sensed { q with due := q.due.filter (fun r => r ≠ row), refreshing := q.refreshing.filter (fun r => r ≠ row)
                                                   refreshed := put 0 q.refreshed row (s.domainSteps p.stack) }
    (refreshPeriod 0 = 15200000 ∧ refreshPeriod 1 = 7600000 ∧ refreshPeriod 2 = 3800000 ∧ refreshPeriod 3 = 1900000)
    ∧ (row ∉ q.due → ∃ u, Sys2Proof.Machine.exec (.refreshDue p row) s = .next u ∧ OnePair n s u ∧ u.pair n = { q with due := q.due ++ [row] }
        ∧ u.now = Nat.max s.now (s.stepTime p.stack (nextDeadline q row - refreshPeriod q.band / 8)))
    ∧ (row ∈ q.due → ∃ u, Sys2Proof.Machine.exec (.refreshDeadline p row) s = .next u ∧ OnePair n s u
        ∧ u.pair n = { q with refreshing := if row ∈ q.refreshing then q.refreshing else q.refreshing ++ [row] }
        ∧ u.now = Nat.max s.now (s.stepTime p.stack (nextDeadline q row - 64)))
    ∧ (row ∈ q.due → rowChecksum restored row = restored.checksum row →
        ∃ u, Sys2Proof.Machine.exec (.refreshRowDone p ⟨row, sensed⟩) s = .next u ∧ OnePair n s u ∧ u.now = s.now ∧ u.pair n = restored)
    ∧ (row ∈ q.due → rowChecksum restored row ≠ restored.checksum row → q.recal = none →
        ∃ u, Sys2Proof.Machine.exec (.refreshRowDone p ⟨row, sensed⟩) s = .next u ∧ u.threads = s.threads ∧ u.mem = s.mem ∧ u.csr = s.csr
          ∧ row ∈ (u.pair n).reloads ∧ row ∉ (u.pair n).due ∧ (∀ m, m ≠ n → u.pair m = s.pair m)
          ∧ u.ev = s.ev.record (atPair 0x0106 n 0 0) s.clk.half (s.field 0x000C0014 15 0))
  )
  ∧
  (
  (∀ (p : PairId) (row : Nat) (s : State), upkeepOk s p row = true → row ∈ (s.pair p.num).reloads →
      ∃ u, Sys2Proof.Machine.exec (.rowReloadDone p row) s = .next u ∧ row ∉ (u.pair p.num).reloads ∧ u.threads = s.threads ∧ u.mem = s.mem
        ∧ u.tags = s.tags ∧ (∀ m, m ≠ p.num → u.pair m = s.pair m) ∧ (u.pair p.num).d = (reloadRow p.num row (s.pair p.num)).d
        ∧ (wrongCells p.num row (s.pair p.num) = [] → (u.pair p.num).a = (reloadRow p.num row (s.pair p.num)).a
            ∧ (u.pair p.num).parity = (reloadRow p.num row (s.pair p.num)).parity
            ∧ (u.pair p.num).cksum = (reloadRow p.num row (s.pair p.num)).cksum ∧ (u.pair p.num).wv = (s.pair p.num).wv))
  ∧ (∀ (p : PairId) (s : State) (t0 : Nat), upkeepOk s p 0 = true → (s.pair p.num).coolSince = some t0 →
      ∃ u, Sys2Proof.Machine.exec (.refreshBandFall p) s = .next u ∧ OnePair p.num s u ∧ u.now = Nat.max s.now (t0 + 10 * msHalves)
        ∧ (u.pair p.num).band = (s.pair p.num).band - 1
        ∧ (u.pair p.num).coolSince =
            (if coolFor ((s.pair p.num).band - 1) (s.tile p.tile).temp then some (Nat.max s.now (t0 + 10 * msHalves)) else none))
  ∧ (∀ t : Int, (bandOfTemp t = 0 ↔ t ≤ 4 * 70) ∧ (bandOfTemp t = 1 ↔ 4 * 70 < t ∧ t ≤ 4 * 90)
      ∧ (bandOfTemp t = 2 ↔ 4 * 90 < t ∧ t ≤ 4 * 105) ∧ (bandOfTemp t = 3 ↔ 4 * 105 < t))
  )

/-- RECAL_AGE_DUE and FORCED_RECAL at their ages, IDLE_WINDOW, RECAL_PASS_DONE and RECAL_RETRY. A pass that succeeds on every column sets
T_CAL to the tile's temperature and CAL_AGE to 0; a pass that fails keeps every trim and is due again no sooner than 1 ms later. Clauses
that rest on a choice of the model: log entries 30, 31, 140. -/
def Obligations.Recalibration : Prop :=
  ∀ (p : PairId) (s : State), upkeepOk s p 0 = true →
    let n := p.num
    let q := s.pair n
    let found (v : State) : List (Nat × Int × Int × Bool) :=
      ((List.range 256).filter (fun c => !lost n (v.pair n) c)).map (fun c => (c, passColumn v n c (aGroups v n)))
    let passed (tr : Nat) : State := if tr = 5 then someWords s else s
    (∀ t, holdsA s n = true → q.calAt = some t → q.recalDue = none →
        ∃ u, Sys2Proof.Machine.exec (.recalAgeDue p) s = .next u ∧ OnePair n s u ∧ u.pair n = { q with recalDue := some 1 }
          ∧ u.now = Nat.max s.now (t + s.field 0x000A0100 20 10 * msHalves / 2))
    ∧ (∀ t, holdsA s n = true → q.calAt = some t → q.recal = none →
        ∃ u, Sys2Proof.Machine.exec (.forcedRecal p) s = .next u ∧ OnePair n s u
          ∧ u.pair n = (if q.reloads = [] then { q with recal := some 5, recalDue := none } else { q with recalDue := some 5 })
          ∧ u.now = Nat.max s.now (Nat.max (t + s.field 0x000A0100 5 0 * sHalves) q.retryAt))
    ∧ (∀ tr t, s.arr.pairs = [(n, q)] → arrayIdle s = true → q.recalDue = some tr → dueNow s n tr = some t → q.recal = none →
        ∃ u, Sys2Proof.Machine.exec .idleWindow s = .next u ∧ OnePair n s u
          ∧ u.pair n = (if passMay s n then { q with recal := some t, recalDue := none } else { q with recalDue := some t }))
    ∧ (∀ tr, q.recal = some tr → (∀ x ∈ found (passed tr), x.2.2.2 = false) → s.arr.sweeps.stalled = false →
        ∃ u, Sys2Proof.Machine.exec (.recalPassDone p) s = .next u ∧ (tr ≠ 5 → OnePair n s { u with free := s.free })
          ∧ (u.pair n).tCal = (s.tile p.tile).temp ∧ (u.pair n).calAt = some s.now ∧ (u.pair n).recal = none ∧ (u.pair n).recalDue = none)
    ∧ (∀ tr, q.recal = some tr → (∃ x ∈ found (passed tr), x.2.2.2 = true) →
        ∃ u, Sys2Proof.Machine.exec (.recalPassDone p) s = .next u ∧ u.threads = s.threads ∧ u.mem = (passed tr).mem
          ∧ (u.pair n).tCal = q.tCal ∧ (u.pair n).calAt = q.calAt ∧ (u.pair n).recal = none ∧ (u.pair n).recalDue = some 6
          ∧ (u.pair n).retryAt = s.now + msHalves)
    ∧ (q.recalDue = some 6 → q.recal = none → stalledOn (reach q.retryAt s) n = true →
        ∃ u, Sys2Proof.Machine.exec (.recalRetry p) s = .next u ∧ OnePair n s u ∧ u.pair n = { q with recal := some 0, recalDue := none }
          ∧ u.now = Nat.max s.now q.retryAt)

/-- REMAP_FETCH_DONE and REPAIR_MAP_SWITCH. The spare takes the column's rows from their copies and its own trim; one that fails trim is
spent. At the switch, which the array's sweep passes first, the spare serves the column, whose trim word takes STATE 2 and SPARE, a spare
that served it before is spent, REMAPS counts, ARR_REMAP is raised and the health record takes an entry. Clauses that rest on a choice of
the model: log entries 30, 31, 132. -/
def Obligations.Remaps : Prop :=
  ∀ (p : PairId) (col : Nat) (s : State) (r : Remap), upkeepOk s p 0 = true →
    let n := p.num
    let v := arrayPasses s
    ((s.pair n).remaps.find? (fun x => x.column == col && !x.fetched) = some r → holdsA s n = true →
        let s1 := onPair n (copyColumn col r.spare) s
        (∀ a b, trimSpare s1 n r.spare = some (a, b) →
          ∃ u, Sys2Proof.Machine.exec (.remapFetchDone p col) s = .next u ∧ u.threads = s.threads ∧ u.mem = s.mem ∧ (∀ m, m ≠ n → u.pair m = s.pair m)
            ∧ (u.pair n).trim (256 + r.spare) = { gain := a.toNat, offset := b, state := 1, base := a.toNat }
            ∧ (u.pair n).d = (copyColumn col r.spare (s.pair n)).d ∧ (u.pair n).a = (copyColumn col r.spare (s.pair n)).a
            ∧ (∀ x ∈ (u.pair n).remaps, x.column = col → x.fetched = true))
        ∧ (trimSpare s1 n r.spare = none →
          ∃ u, Sys2Proof.Machine.exec (.remapFetchDone p col) s = .next u ∧ u.threads = s.threads ∧ u.mem = s.mem
            ∧ (look {} (u.pair n).spares r.spare).spent = true))
    ∧ ((v.pair n).remaps.find? (fun x => x.column == col && x.fetched) = some r →
        let q := v.pair n
        ∃ u, Sys2Proof.Machine.exec (.repairMapSwitch p col) s = .next u ∧ u.threads = v.threads ∧ u.mem = v.mem ∧ (∀ m, m ≠ n → u.pair m = v.pair m)
          ∧ ((u.pair n).trim (physical n q col)).state = 2 ∧ ((u.pair n).trim (physical n q col)).spare = r.spare
          ∧ (look {} (u.pair n).spares r.spare).inUse = true ∧ (look {} (u.pair n).spares r.spare).column = r.column
          ∧ (∀ x ∈ (u.pair n).remaps, x.column ≠ r.column)
          ∧ (256 ≤ physical n q col → physical n q col ≠ 256 + r.spare → (look {} (u.pair n).spares (physical n q col - 256)).spent = true)
          ∧ u.field 0x000A0108 31 20 = Nat.min 4095 (v.field 0x000A0108 31 20 + 1)
          ∧ u.test.health.seq = v.test.health.seq + 1
          ∧ u.ev = v.ev.record (atPair 0x010B n 0 0) v.clk.half (v.field 0x000C0014 15 0))

/-- TOKEN_STEP_FORM. A formed step with a latched poison, parity or mask error runs again while its re-executions number fewer than 2, its
latches cleared and ATTEMPT raised; one without latched errors ends, each open session's position moved on by its tokens, or by 1 in decode;
and a step forms from the queue whose oldest session has waited longest, its decode sessions up to the batch limit and its prefill chunks
within the budget. Clauses that rest on a choice of the model: log entries 32, 126. -/
def Obligations.TokenSteps : Prop :=
  (∀ (s : State) (st : TokenStep), s.bat.step = some st → s.arr.replays.any (fun r => decide (r.2 ≤ 2)) = true → st.retries < 2 →
      Sys2Proof.Machine.exec .tokenStepForm s = .next (settle
        { s with bat := { s.bat with step := some { st with retries := st.retries + 1 } }, arr := { s.arr with replays := [] }
                 front := { s.front with attempt := (s.front.attempt + 1) % 256, frames := [] } }))
  ∧ (∀ (s : State) (st : TokenStep), s.bat.step = some st → s.arr.replays = [] → s.arr.joining = [] → s.bat.leaving = [] →
      s.bat.held = true → s.bat.load.isSome = true → (st.sessions.map Prod.fst).Nodup →
      ∃ u, Sys2Proof.Machine.exec .tokenStepForm s = .next u ∧ u.bat.step = none ∧ u.mem = s.mem ∧ u.threads = s.threads ∧ u.csr = s.csr
        ∧ (∀ e ∈ st.sessions, (s.sess e.1).state = .opened →
            u.sess e.1 = { s.sess e.1 with pos := (s.sess e.1).pos + Nat.max 1 e.2, pending := (s.sess e.1).pending - e.2
                                           lastActive := s.ao, since := s.now })
        ∧ (∀ i, i ∉ st.sessions.map Prod.fst → u.sess i = s.sess i))
  ∧ (∀ (s : State) (q : Nat × Bool), s.bat.step = none → s.arr.replays = [] → s.arr.joining = [] → s.bat.leaving = [] →
      s.bat.load.isSome = true → s.bat.leaveOut = none → s.bat.held = false → s.pow.limit = false → s.bat.model.isSome = true →
      (∀ a ∈ s.front.adoptions, (a.back && a.home) = false) → (∀ e ∈ s.arr.forecast, e.2.next = none) → s.fstate = 0 → nextQueue s = some q →
      ∃ u, Sys2Proof.Machine.exec .tokenStepForm s = .next u ∧ { u with bat := s.bat, pins := s.pins } = s
        ∧ u.bat.step = some { district := q.1, fidelity := q.2, sessions := stepSessions s q, number := 0 }
        ∧ (∀ x ∈ u.bat.slots, x.district = some q.1 → x.stepped = s.now) ∧ u.bat.inForce = policyWords s)
  ∧ (∀ (s : State) (q : Nat × Bool),
      ((stepSessions s q).filter (fun e => e.2 == 0)).length ≤ s.policy 0x000A0208 16 8
      ∧ sumOf ((stepSessions s q).map Prod.snd) ≤ s.field 0x00060020 31 16
      ∧ (∀ e ∈ stepSessions s q, e.2 ≤ s.field 0x00060020 15 0)
      ∧ (∀ e ∈ stepSessions s q, ∃ x, (e.1, x) ∈ s.net.sessions ∧ x.ready = true ∧ x.district = q.1 ∧ x.fidelity = q.2))
  ∧ (∀ (s : State) (q r : Nat × Bool) (e f : Nat × Session), nextQueue s = some q → r ∈ openQueues s →
      (queueOf s q).head? = some e → (queueOf s r).head? = some f → e.2.since ≤ f.2.since)

/-- SWITCH_AGE_EXPIRY and DWELL_EXPIRY bring the clock to their times, and a load begins for the first candidate in an eligible slot;
DISTRICT_LOAD_START empties its slot once no formed step runs on it and gives a district without a staged copy its staging pages;
DISTRICT_LOAD_DONE, its regions trimmed, makes the district resident with its image staged, counts the switch and raises CON_DISTRICT_LOAD
with its source and microseconds, and for an aged district CON_DISTRICT_AGE. Clauses that rest on a choice of the model: log entries 98,
126. -/
def Obligations.Districts : Prop :=
  (∀ (d : Nat) (s : State), readyIn s d ≠ [] → residentDistrict s d = false → s.bat.load = none → s.bat.model.isSome = true →
      let t := Nat.max s.now (oldestWait s d + s.policy 0x000A0200 15 0 * msHalves)
      let s1 := { s with clk := { s.clk with half := t }, bat := { s.bat with aged := if crowded s d then s.bat.aged else addOnce s.bat.aged d } }
      d ∈ candidates s1
      ∧ (∀ c rest i, candidates s1 = c :: rest → slotFor s1 = some i →
          Sys2Proof.Machine.exec (.switchAgeExpiry d) s = .next (settle
            { s1 with bat := { s1.bat with load := some { district := c, slot := i, aged := (s1.bat.aged.contains c && agedDistrict s1 c) || !crowded s1 c }
                                           aged := takeOut s1.bat.aged c } })))
  ∧ (∀ (k : Fin 2) (s : State) (x : DistrictSlot), s.bat.slots[k.val]? = some x → x.district.isSome = true → s.bat.load = none →
      s.bat.model.isSome = true →
      let s1 := { s with clk := { s.clk with half := Nat.max s.now (x.since + s.policy 0x000A0204 31 16 * msHalves) } }
      slotEligible s1 x = true
      ∧ (candidates s1 = [] → Sys2Proof.Machine.exec (.dwellExpiry k) s = .next (settle s1))
      ∧ (∀ c rest i, candidates s1 = c :: rest → slotFor s1 = some i →
          Sys2Proof.Machine.exec (.dwellExpiry k) s = .next (settle
            { s1 with bat := { s1.bat with load := some { district := c, slot := i, aged := (s1.bat.aged.contains c && agedDistrict s1 c) || !crowded s1 c }
                                           aged := takeOut s1.bat.aged c } })))
  ∧ (∀ (s : State) (l : DistrictLoad) (m : Nat × Nat × Nat), s.bat.load = some l → l.start = none → s.bat.model = some m → s.bat.step = none →
      ∃ u, Sys2Proof.Machine.exec .districtLoadStart s = .next u ∧ { u with bat := s.bat, kv := s.kv, pins := s.pins } = s
        ∧ u.bat.load = some { l with start := some s.now, staged := s.bat.staged.contains l.district }
        ∧ (l.slot < s.bat.slots.length → (u.bat.slots[l.slot]?).bind DistrictSlot.district = none)
        ∧ l.district ∈ u.bat.staged
        ∧ (sumOf (u.bat.staged.map (districtPages s)) ≤ s.mem.stageCur * 16384 ∨ u.bat.staged = [l.district])
        ∧ ((∀ e ∈ s.kv.images, e.1 ≠ l.district) → ∀ pg ∈ look [] u.kv.images l.district, pg ∈ u.kv.unstaged))
  ∧ (∀ (s : State) (l : DistrictLoad) (t : Nat), s.bat.load = some l → l.start = some t → l.slot < s.bat.slots.length →
      districtTrimmed s l.district = true →
      let e1 := s.ev.record { code := 0x030D, info0 := if l.staged then 0 else 1, info1 := (s.now - t) / usHalves } s.clk.half
        (s.field 0x000C0014 15 0)
      ∃ v, Sys2Proof.Machine.exec .districtLoadDone s = .next (settle (tryLoad v))
        ∧ { v with bat := s.bat, csr := s.csr, ev := s.ev, mem := s.mem, kv := s.kv } = s ∧ v.bat.load = none
        ∧ (∃ y, v.bat.slots[l.slot]? = some y ∧ y.district = some l.district ∧ y.since = s.now ∧ y.stepped = 0)
        ∧ (∀ pg ∈ look [] s.kv.images l.district, pg ∉ v.kv.unstaged)
        ∧ (∀ j, j ≠ l.slot → v.bat.slots[j]? = s.bat.slots[j]?)
        ∧ (∀ a, v.word a = if a = 0x000A021C then s.word a + 1 else s.word a)
        ∧ v.ev = if l.aged then e1.record { code := 0x030E } s.clk.half (s.field 0x000C0014 15 0) else e1)

/-- An expert whose share is at or above HOT_RATIO/2 times the mean wants one mirror less than its share in means, rounded up, and at most
MIRROR_MAX. MIRROR_WINDOW_END puts each layer's grants in place, marks those given up to leave, and opens a new window; MIRROR_LOAD_DONE
lets a mirror join at the next boundary, or at once with CON_MIRROR when no step is formed (log entry 32). THETA_RETUNE. Before AUDIT_WINDOW
audits nothing changes; after them the layer's window is cleared, its threshold moved down by delta where the misses exceed five quarters of
what TARGET allows, up where they fall below half, and held otherwise; it applies from the next token step. A miss rate above eight times
the target raises CON_FORECAST_MISS (its detail: log entry 146), a threshold at its limit CON_THETA_LIMIT. No other layer's forecast
changes. Clauses that rest on a choice of the model: log entries 32, 96, 126, 146. -/
def Obligations.MirrorsAndThresholds : Prop :=
  (
  (∀ hot most total e a : Nat, 0 < a → 0 < total →
      wantedMirrors hot most total e a = if hot * total ≤ 2 * a * e then Nat.min most ((a * e + total - 1) / total - 1) else 0)
  ∧ (∀ (s : State) (m : Nat × Nat × Nat), s.bat.model = some m →
      let s1 := { s with clk := { s.clk with half := Nat.max s.now (s.bat.windowAt + s.policy 0x000A020C 7 0 * sHalves) } }
      ∃ u, Sys2Proof.Machine.exec .mirrorWindowEnd s = .next u ∧ { u with bat := s.bat, clk := s.clk, ev := s.ev, pins := s.pins } = s
        ∧ u.now = s1.now ∧ u.bat.demand = [] ∧ u.bat.windowAt = s1.now ∧ u.bat.step = s.bat.step ∧ u.bat.slots = s.bat.slots
        ∧ (∀ e ∈ s.bat.experts, (∀ x ∈ (grantLayer s1 m.1 e.1 e.2).held, x ∈ u.bat.mirrors)
            ∧ (∀ y ∈ (grantLayer s1 m.1 e.1 e.2).leaving, y ∈ u.bat.leaving))
        ∧ ((∀ e ∈ s.bat.experts, (grantLayer s1 m.1 e.1 e.2).short = false) → u.ev = s.ev))
  ∧ (∀ (layer e i : Nat) (s : State) (x : Mirror), x ∈ s.bat.mirrors → x.layer = layer → x.expert = e → x.inst = i → x.resident = false →
      s.arr.regions.any (fun r => r.state != .resident && r.isMirror s.modelRoot (layer, e, i)) = false →
      ∃ u, Sys2Proof.Machine.exec (.mirrorLoadDone layer e i) s = .next u ∧ u.mem = s.mem ∧ u.threads = s.threads
        ∧ (∀ y ∈ u.bat.mirrors, y.layer = layer → y.expert = e → y.inst = i → y.resident = true)
        ∧ (s.bat.step.isSome = true → (layer, e, i) ∈ u.arr.joining ∧ u.ev = s.ev)
        ∧ (s.bat.step = none → { u.arr with joining := s.arr.joining } = s.arr ∧ u.ev = s.ev.record { code := 0x0309 } s.clk.half (s.field 0x000C0014 15 0)))
  )
  ∧
  (
  ∀ (layer : Nat) (s : State),
    let f0 := look {} s.arr.forecast layer
    let f := { f0 with theta := f0.next.getD f0.theta }
    let target := s.policy 0x000A020C 31 16
    let down : Prop := f.sumA ≠ 0 ∧ 5 * target * f.sumA < 4 * 65536 * f.sumM
    let up : Prop := f.sumA ≠ 0 ∧ ¬ 5 * target * f.sumA < 4 * 65536 * f.sumM ∧ 2 * 65536 * f.sumM < target * f.sumA
    let missed : Prop := 8 * target * f.sumA < 65536 * f.sumM
    let told (r : Raise) : EventLog := s.ev.record r s.clk.half (s.field 0x000C0014 15 0)
    let changed (theta : Nat) (u : State) : Prop :=
      Sys2Proof.Machine.exec (.thetaRetune layer) s = .next u
        ∧ (∀ k, k ≠ layer → look {} u.arr.forecast k = look {} s.arr.forecast k)
        ∧ { u with arr := { u.arr with forecast := s.arr.forecast }, ev := s.ev, pins := s.pins } = s
        ∧ look {} u.arr.forecast layer =
            { f0 with sumA := 0, sumM := 0, sumK := 0, audits := 0
                      theta := if s.bat.step.isSome then f0.theta else theta
                      next := if s.bat.step.isSome then some theta else none }
    (f.audits < s.policy 0x000A020C 15 8 → Sys2Proof.Machine.exec (.thetaRetune layer) s = .next (settle s))
    ∧ (s.policy 0x000A020C 15 8 ≤ f.audits →
        (down → ∃ u, changed (moveTheta f false).1 u ∧ (¬ missed → (moveTheta f false).2 = false → u.ev = s.ev)
          ∧ (missed → (moveTheta f false).2 = false → u.ev = told (missRaise layer f.sumA f.sumM))
          ∧ (¬ missed → (moveTheta f false).2 = true → u.ev = told { code := 0x030C, info0 := layer }))
        ∧ (up → ∃ u, changed (moveTheta f true).1 u ∧ ((moveTheta f true).2 = false → u.ev = s.ev)
          ∧ ((moveTheta f true).2 = true → u.ev = told { code := 0x030C, info0 := layer }))
        ∧ (¬ down → ¬ up → ∃ u, changed f.theta u ∧ (¬ missed → u.ev = s.ev)))
  )

/-- ALLOC_CREATE and ALLOC_RELEASE. A range of no granule multiple, or a kind that cannot be created, answers STATUS 3; a range outside its
kind's memory or over a live allocation answers 1; no free handle answers 4; otherwise a handle of no live allocation answers with STATUS 0
and its granules read 0. A release of no allocation answers 1, of a handle that a descriptor names 2 with MEM_ALLOC_BUSY, and otherwise 0:
the allocation is gone and no other. -/
def Obligations.Allocations : Prop :=
  (∀ (kind : BitVec 4) (program : BitVec 8) (s : State),
      let a := (s.word 0x00080200).toNat * 256
      let n := (s.word 0x00080204).toNat * 4096
      let g := if kind = 1 ∨ kind = 2 ∨ kind = 7 then 4096 else if kind = 3 ∨ kind = 4 ∨ kind = 5 then 65536 else 0
      let free := ∀ x ∈ s.mem.allocs, x.base + x.size ≤ a ∨ a + n ≤ x.base
      let answers (st : Nat) : Prop :=
        ∃ u, Sys2Proof.Machine.exec (.allocCreate kind program) s = .next u ∧ { u with csr := s.csr, pins := s.pins } = s
          ∧ ∀ b, u.word b = if b = 0x0008020C then BitVec.ofNat 32 (st * 2 ^ 28) else s.word b
      (g = 0 ∨ n = 0 ∨ a % g ≠ 0 ∨ n % g ≠ 0 → answers 3)
      ∧ (g ≠ 0 → n ≠ 0 → a % g = 0 → n % g = 0 → (kindRange s kind.toNat a n = false ∨ ¬ free) → answers 1)
      ∧ (g ≠ 0 → n ≠ 0 → a % g = 0 → n % g = 0 → kindRange s kind.toNat a n = true → free → s.mem.allocs.length < 65535 →
          ∃ u h, Sys2Proof.Machine.exec (.allocCreate kind program) s = .next u
            ∧ { u with csr := s.csr, pins := s.pins, mem := s.mem, free := s.free } = s ∧ 1 ≤ h ∧ h ≤ 65535 ∧ s.mem.alloc? h = none
            ∧ u.mem.allocs = s.mem.allocs ++ [⟨h, kind.toNat, program.toNat, a, n⟩]
            ∧ (∀ b, u.word b = if b = 0x0008020C then BitVec.ofNat 32 h else s.word b)
            ∧ (kind = 1 ∨ kind = 2 ∨ kind = 3 → ∀ b, a ≤ b → b < a + n → u.mem.read b = 0)))
  ∧ (∀ (handle : BitVec 16) (s : State),
      let h := handle.toNat
      let answer (st b : Nat) (u : State) : Prop := u.word b = if b = 0x0008020C then BitVec.ofNat 32 (st * 2 ^ 28) else s.word b
      (s.mem.alloc? h = none → ∃ u, Sys2Proof.Machine.exec (.allocRelease handle) s = .next u ∧ { u with csr := s.csr, pins := s.pins } = s ∧ ∀ b, answer 1 b u)
      ∧ ((s.mem.alloc? h).isSome = true → named s h = true →
          ∃ u, Sys2Proof.Machine.exec (.allocRelease handle) s = .next u ∧ { u with csr := s.csr, ev := s.ev, pins := s.pins } = s ∧ (∀ b, answer 2 b u)
            ∧ u.ev = s.ev.record { code := 0x0507 } s.clk.half (s.field 0x000C0014 15 0))
      ∧ ((s.mem.alloc? h).isSome = true → named s h = false →
          ∃ u, Sys2Proof.Machine.exec (.allocRelease handle) s = .next u ∧ u.threads = s.threads ∧ u.programs = s.programs ∧ u.mem.cells = s.mem.cells
            ∧ u.mem.allocs = s.mem.allocs.filter (fun x => x.handle != h) ∧ (∀ b, answer 0 b u)))

/-- BANK_STATE_REQUEST, BANK_TRANSITION_DONE and BANK_OWNER_WRITE. OFF is refused with MEM_ALLOC_BUSY while the bank holds a live
allocation, and an owner write unless the bank holds none and the stages are idle; a request that reverses a transition waits for it; OFF
loses the bank's contents and no other byte. HOTSPOT_CHECK and HOT_CHANNEL_CHECK: a queue above four times the mean counts, with MEM_HOTSPOT
and STO_HOT_CHANNEL. PARTITION_REQUEST is held for the next cold start, with an entry in the health record, where scratch keeps its 4 GiB,
and is ignored else; I3C may not write it. The 256 lines of a DRAM page lie on 256 different pseudo-channels. Clauses that rest on a choice
of the model: log entries 48, 69, 147, 148. -/
def Obligations.BanksAndHotSpots : Prop :=
  (
  ∀ (b : BankId) (s : State),
    let n := b.num
    let x := look {} s.mem.banks n
    let bad : State := { s with ev := s.ev.record (atBank 0x0507 n 0 0) s.clk.half (s.field 0x000C0014 15 0) }
    let gives (c : Instr) (y : Bank) : Prop :=
      ∃ u, Sys2Proof.Machine.exec c s = .next u ∧ { u with mem := { u.mem with banks := s.mem.banks }, pins := s.pins } = s
        ∧ ∀ m, look {} u.mem.banks m = if m = n then y else look {} s.mem.banks m
    Sys2Proof.Machine.exec (.bankStateRequest b 3) s = .next (settle s)
    ∧ (bankAllocs s n ≠ 0 → Sys2Proof.Machine.exec (.bankStateRequest b 2) s = .next (settle bad))
    ∧ (∀ (v : BitVec 2) (st : BankState), bankStateOf v.toNat = some st → (st = .off → bankAllocs s n = 0) →
        (x.moving = none → gives (.bankStateRequest b v) { x with request := st, moving := if x.current = st then none else some st })
        ∧ (∀ m, x.moving = some m → gives (.bankStateRequest b v) { x with request := st, reverse := if m = st then none else some st }))
    ∧ (∀ st, x.moving = some st → st ≠ .off →
        gives (.bankTransitionDone b) { x with current := st, reverse := none, moving := if x.reverse = some st then none else x.reverse })
    ∧ (x.moving = some .off → ∃ u, Sys2Proof.Machine.exec (.bankTransitionDone b) s = .next u
        ∧ (look {} u.mem.banks n).current = .off ∧ (∀ m, m ≠ n → look {} u.mem.banks m = look {} s.mem.banks m)
        ∧ u.mem.allocs = s.mem.allocs ∧ u.threads = s.threads ∧ u.csr = s.csr
        ∧ ∀ a, u.mem.read a = if (bankRange n).1 ≤ a ∧ a < (bankRange n).1 + (bankRange n).2 then 0 else s.mem.read a)
    ∧ (∀ o : BitVec 8, bankAllocs s n = 0 → s.arr.sweeps.array = none → s.arr.sweeps.finishing = [] →
        gives (.bankOwnerWrite b o) { x with owner := some o.toNat })
    ∧ (∀ o : BitVec 8, bankAllocs s n ≠ 0 → Sys2Proof.Machine.exec (.bankOwnerWrite b o) s = .next (settle bad))
  )
  ∧
  (
  (∀ (queues : List Nat) (s : State),
      let hot (q : Nat) : Prop := 4 * queues.sum < q * queues.length
      ((∀ q ∈ queues, ¬ hot q) → Sys2Proof.Machine.exec (.hotspotCheck queues) s = .next (settle s)
          ∧ Sys2Proof.Machine.exec (.hotChannelCheck queues) s = .next (settle s))
      ∧ (∀ q ∈ queues, hot q →
          (∃ u, Sys2Proof.Machine.exec (.hotspotCheck queues) s = .next u ∧ { u with csr := s.csr, ev := s.ev, pins := s.pins } = s
            ∧ (∀ a, u.word a = if a = 0x00080024 then s.word a + BitVec.ofNat 32 (queues.filter (fun y => decide (4 * queues.sum < y * queues.length))).length
                else s.word a)
            ∧ u.ev = s.ev.record { code := 0x0508 } s.clk.half (s.field 0x000C0014 15 0))
          ∧ Sys2Proof.Machine.exec (.hotChannelCheck queues) s = .next (settle
              { s with ev := s.ev.record { code := 0x060A } s.clk.half (s.field 0x000C0014 15 0) })))
  ∧ (∀ (i : Iface) (stage kv : BitVec 8) (s : State),
      let fits : Prop := 4 * (stage.toNat + kv.toNat + s.mem.withheld.length) + 1 + 16 ≤ 1024
      (i = .i3c ∨ ¬ fits → Sys2Proof.Machine.exec (.partitionRequest i stage kv) s = .next (settle s))
      ∧ (i ≠ .i3c → fits → Sys2Proof.Machine.exec (.partitionRequest i stage kv) s = .next (settle
          { s with mem := { s.mem with partRequest := some (stage.toNat, kv.toNat) }
                   test := { s.test with health := { s.test.health with
                     entries := s.test.health.entries ++ [⟨8, [stage.toNat, kv.toNat]⟩], seq := s.test.health.seq + 1
                     batches := s.test.health.batches ++ [healthHeader s 4 1 0] } } })))
  ∧ (∀ (m : Mem) (n page i j : Nat), m.hashDraw = some n → i < 256 → j < 256 → m.pci (page * 65536 + 256 * i) = m.pci (page * 65536 + 256 * j) → i = j)
  )

/-- SOFT_FAULT_FETCH_DONE and KV_SPILL_DONE. A fetched page whose header agrees and whose read recovers takes a free DRAM page, holding its
spilled image and zeros after it, and its slot is free; a read that does not recover ends the fetch, drops the session's KV and raises
MEM_KV_LOST among the events of the loss; a spilled page's image up to its watermark goes to a slot, its entry names the slot, its DRAM page
is free and SPILLS counts; a page with a poisoned line is lost and goes nowhere. Clauses that rest on a choice of the model: log entries 35,
39, 114. -/
def Obligations.KvPages : Prop :=
  (∀ (key readStep page : Nat) (s : State) (f : Fetch), 2 ^ 32 ≤ key → s.inFlight? key = some f →
      let k := kvKey ((key - 2 ^ 32) / 2 ^ 20) ((key - 2 ^ 32) % 2 ^ 20)
      let e := s.pte k
      e.state = 3 → 1 ≤ readStep → readStep ≤ 2 → takePage s = some page →
      s.field 0x00060024 7 0 * s.kvPages ≤ 100 * (s.kvPages - (s.kv.used.length + 1)) →
      (look [] s.kv.slots e.loc).length ≤ 65536 →
      ∃ u, Sys2Proof.Machine.exec (.softFaultFetchDone key readStep true) s = .next u
        ∧ u.pte k = { e with state := 1, loc := page } ∧ (∀ j, j ≠ k → u.pte j = s.pte j)
        ∧ u.kv.used = s.kv.used ++ [page] ∧ look [] u.kv.slots e.loc = [] ∧ u.kv.fetches = s.kv.fetches.filter (fun g => g.key != key)
        ∧ u.threads = s.threads ∧ u.net = s.net ∧ u.tags = s.tags
        ∧ (∀ b, s.mem.isCode b = false → u.mem.read b =
            if 65536 * page ≤ b ∧ b < 65536 * page + 65536 then nthD 0#8 (look [] s.kv.slots e.loc) (b - 65536 * page) else s.mem.read b))
  ∧ (∀ (key : Nat) (ok : Bool) (s : State) (f : Fetch), 2 ^ 32 ≤ key → s.inFlight? key = some f →
      let i := (key - 2 ^ 32) / 2 ^ 20
      (s.pte (kvKey i ((key - 2 ^ 32) % 2 ^ 20))).state = 3 →
      ∃ u, Sys2Proof.Machine.exec (.softFaultFetchDone key 6 ok) s = .next u ∧ u.threads = s.threads
        ∧ (∀ g ∈ u.kv.fetches, g.key ≠ f.key) ∧ (∀ x ∈ u.kv.ptes, x.1 / 2 ^ 20 ≠ i) ∧ (u.sess i).pos = 0 ∧ (u.sess i).tokens = [])
  ∧ (∀ (i n j : Nat) (s : State), n < 2 ^ 20 →
      let k := kvKey i n
      let e := s.pte k
      k ∈ s.store.spilling → e.state = 1 → inStep s i = false → jobReads s i = false → spillRefused s = false →
      poisonAt s.mem (span (pageAddr e.loc) (watermark e.fill)) = none →
      s.store.head = some j → s.store.logSlots < s.store.bandSlots →
      let slot := j * s.store.bandSlots + s.store.logSlots
      ∃ u, Sys2Proof.Machine.exec (.kvSpillDone i n) s = .next u ∧ u.mem = s.mem ∧ u.threads = s.threads ∧ u.net = s.net
        ∧ u.pte k = { e with state := 2, loc := slot } ∧ (∀ j, j ≠ k → u.pte j = s.pte j)
        ∧ look [] u.kv.slots slot = s.mem.readN (65536 * e.loc) (64 + 264 * e.fill) ∧ u.kv.used = takeOut s.kv.used e.loc
        ∧ u.store.spilling = takeOut s.store.spilling k ∧ u.store.logSlots = s.store.logSlots + 1
        ∧ ∀ a, u.word a = if a = 0x0006003C then s.word a + 1 else s.word a)
  ∧ (∀ (i n l : Nat) (s : State), n < 2 ^ 20 →
      let e := s.pte (kvKey i n)
      kvKey i n ∈ s.store.spilling → e.state = 1 → inStep s i = false → jobReads s i = false →
      poisonAt s.mem (span (pageAddr e.loc) (watermark e.fill)) = some l →
      ∃ u, Sys2Proof.Machine.exec (.kvSpillDone i n) s = .next u ∧ u.threads = s.threads ∧ (∀ j, look [] u.kv.slots j = [] ∨ look [] u.kv.slots j = look [] s.kv.slots j)
        ∧ (∀ x ∈ u.kv.ptes, x.1 / 2 ^ 20 ≠ i) ∧ (u.sess i).pos = 0 ∧ (u.sess i).tokens = [])

/-- ATT_DOORBELL, ATTENTION_JOB_START and ATTENTION_JOB_DONE. A job that finds 16 waiting, or that breaks a limit when it starts, is refused
with STATUS 4 and MEM_ATT_REFUSED; a queued job has STATUS 0, a running one 1; a job with all its pages ends with its outputs, its counts
and STATUS 2, or 3 with the number of sessions that got none. No job starts in the limit state. Clauses that rest on a choice of the model:
log entries 113, 149. -/
def Obligations.AttentionJobs : Prop :=
  ∀ (s : State) (o : BitVec 19),
    let a := hubBase + 6 * 0x2000000 + 64 * o.toNat
    let waiting := (s.kv.jobs.filter (fun j => !j.running)).length
    let writes (b : Nat) (v : Byte) (u : State) : Prop := ∀ c, u.mem.read c = if c = b then v else s.mem.read c
    Awake s a → (∀ i, i < 64 → s.mem.isCode (a + i) = false) → (s.mem.limited (granule a) = true → a + 64 ≤ granule a + s.mem.mark (granule a)) →
    (waiting < 16 → ∃ u, Sys2Proof.Machine.exec (.attDoorbell o) s = .next u ∧ u.kv = { s.kv with jobs := s.kv.jobs ++ [{ offset := o.toNat }] }
        ∧ writes (a + 7) 0 u ∧ u.ev = s.ev ∧ u.csr = s.csr ∧ u.threads = s.threads)
    ∧ (16 ≤ waiting → ∃ u, Sys2Proof.Machine.exec (.attDoorbell o) s = .next u ∧ u.kv = s.kv ∧ writes (a + 7) 4 u ∧ u.csr = s.csr
        ∧ u.ev = s.ev.record { code := 0x050B } s.clk.half (s.field 0x000C0014 15 0))
    ∧ (s.pow.limit = true → Sys2Proof.Machine.exec .attentionJobStart s = .next (settle s))
    ∧ (∀ j r, s.pow.limit = false → s.kv.jobs = j :: r → j.running = false → j.offset = o.toNat →
        (∀ b ∈ recordReads s o.toNat, Awake s b) → poisonAt s.mem (recordReads s o.toNat) = none →
        (jobOk s (readJob s.mem o.toNat) = false →
          ∃ u, Sys2Proof.Machine.exec .attentionJobStart s = .next u ∧ u.kv = { s.kv with jobs := r } ∧ writes (a + 7) 4 u
            ∧ u.ev = s.ev.record { code := 0x050B } s.clk.half (s.field 0x000C0014 15 0))
        ∧ (jobOk s (readJob s.mem o.toNat) = true → (∀ k, (s.pte k).state ≤ 1) →
          ∃ u, Sys2Proof.Machine.exec .attentionJobStart s = .next u ∧ u.kv = { s.kv with jobs := { j with running := true, lost := [] } :: r } ∧ writes (a + 7) 1 u
            ∧ u.ev = s.ev))
    ∧ (∀ jb, s.kv.jobs = [jb] → jb.running = true → jb.offset = o.toNat → (∀ f ∈ s.kv.fetches, o.toNat ∉ f.jobs) →
        let j := readJob s.mem o.toNat
        let xs := jobSessions s.mem j.sess j.nsess
        (∀ x ∈ xs, (jobSession s j jb.lost x).1.isSome = true ∧ (jobSession s j jb.lost x).2 = none) →
        ∃ u, Sys2Proof.Machine.exec (.attentionJobDone o) s = .next u ∧ u.kv = { s.kv with jobs := [] } ∧ u.threads = s.threads
          ∧ u.mem.read (a + 7) = 2 ∧ u.mem.readLe (a + 48) 4 = jb.soft % 2 ^ 32 ∧ u.mem.readLe (a + 52) 2 = 0)

/-- ZQ_SHORT, PATROL_READ, PATROL_OVERDUE, RELOCATION_DONE, NAND_OP_FAIL, SPILL_CREDIT_HOURLY, STATIC_LEVELLING and SPILL_GC. A patrolled
page notes its block's time, and a step-2 read that corrects more than MARGIN_BITS queues the block; a late block is reported once; a
relocation puts a spare into the band table, returns the erased block to the spares and ends with its cause; a grown-bad block is replaced
by a spare of its channel; the allowance grows by the hour's addition and never passes 168 of them; levelling swaps the least worn MODEL
band for a free worn one; and a band without live slots is erased for one of the allowance and 32 block erases. Clauses that rest on a
choice of the model: log entries 3, 39, 40, 97, 99. -/
def Obligations.StoreUpkeep : Prop :=
  (∀ s : State, let t := Nat.max s.now (s.store.zqAt + 100 * msHalves)
      Sys2Proof.Machine.exec .zqShort s = .next (settle { s with clk := { s.clk with half := t }, store := { s.store with zqAt := t } }))
  ∧ (∀ (region : Nat) (r : PageRead) (s : State), region ∈ [1, 2, 4] → s.store.holdsPage region r.page = true →
      let p := s.store.placeOf region r.page
      let k := readStepAt s p.block r.step
      ∃ u, Sys2Proof.Machine.exec (.patrolRead region r) s = .next u ∧ look 0 u.store.patrols p.block = s.now
        ∧ p.block ∉ u.store.late ∧ u.mem = s.mem ∧ u.threads = s.threads ∧ u.kv = s.kv
        ∧ look 0 u.store.reads p.block = look 0 s.store.reads p.block + 1
        ∧ (s.field 0x0007000C 27 12 * 1000 ≤ look 0 s.store.reads p.block + 1 ∨ 3 ≤ k ∨ (r.step = 2 ∧ s.field 0x00070008 21 14 < r.corrected) →
            ∃ cause, (p.block, cause) ∈ u.store.relocating)
        ∧ (∀ a, u.word a = if (a = 0x00070018 ∧ 2 ≤ k) ∨ (a = 0x0007001C ∧ 3 ≤ k) ∨ (a = 0x00070020 ∧ 5 ≤ k)
              ∨ (a = 0x00070024 ∧ 6 ≤ k) then s.word a + 1 else s.word a))
  ∧ (∀ (region : Nat) (r : PageRead) (s : State), region ∉ [1, 2, 4] ∨ s.store.holdsPage region r.page = false →
      Sys2Proof.Machine.exec (.patrolRead region r) s = .next (settle s))
  ∧ (∀ (region band channel : Nat) (s : State),
      let k := band * 32 + channel
      (k ∈ s.store.late ∨ patrolled s region band = false ∨ 32 ≤ channel → Sys2Proof.Machine.exec (.patrolOverdue region band channel) s = .next (settle s))
      ∧ (k ∉ s.store.late → patrolled s region band = true → channel < 32 →
          let t := Nat.max s.now (look 0 s.store.patrols k + s.field 0x0007000C 31 28 * 86400 * sHalves)
          Sys2Proof.Machine.exec (.patrolOverdue region band channel) s = .next (settle
            { s with clk := { s.clk with half := t }, store := { s.store with late := s.store.late ++ [k] }
                     ev := s.ev.record { code := 0x060B } t (s.field 0x000C0014 15 0) })))
  ∧ (∀ (band channel cause : Nat) (reads : List PageRead) (s : State),
      let k := band * 32 + channel
      let v := countRows band channel reads s
      s.store.relocating.find? (fun e => e.1 == k) = some (k, cause) →
      (look [] s.store.spares channel = [] → Sys2Proof.Machine.exec (.relocationDone band ⟨channel, reads⟩) s = .next (settle v))
      ∧ (∀ b rest, look [] s.store.spares channel = b :: rest →
          ∃ u, Sys2Proof.Machine.exec (.relocationDone band ⟨channel, reads⟩) s = .next u ∧ { u with csr := s.csr, store := s.store, ev := s.ev, pins := s.pins } = s
            ∧ (∀ e ∈ u.store.relocating, e.1 ≠ k) ∧ look 0 u.store.reads k = 0 ∧ u.store.blockOf band channel = b
            ∧ look [] u.store.spares channel = rest ++ [s.store.blockOf band channel]
            ∧ look 0 u.store.erases ((s.store.blockOf band channel).key channel) = look 0 s.store.erases ((s.store.blockOf band channel).key channel) + 1
            ∧ (u.word 0x00070014).toNat = Nat.min (2 ^ 32 - 1) ((s.word 0x00070014).toNat + 1)
            ∧ u.field 0x00070028 15 0 = (s.field 0x00070028 15 0 + 1) % 65536
            ∧ u.ev = v.ev.record { code := 0x0607, info0 := cause } s.clk.half (s.field 0x000C0014 15 0)))
  ∧ (∀ (band channel region : Nat) (reads : List PageRead) (s : State), channel < 32 → (band, region) ∈ s.store.bands →
      let b := s.store.blockOf band channel
      let v := countRows band channel reads s
      let told (u : State) : Prop :=
        u.ev = v.ev.record ⟨0x0606, 0, 0, 5, channel + b.ce * 32 + b.lun * 128, 0⟩ s.clk.half (s.field 0x000C0014 15 0)
      ∃ u, Sys2Proof.Machine.exec (.nandOpFail band ⟨channel, reads⟩) s = .next u
        ∧ { u with csr := s.csr, store := s.store, ev := s.ev, pins := s.pins
                   kv := if look [] s.store.spares channel = [] ∧ look 0 s.store.bands band = 3 then s.kv else u.kv } = s
        ∧ u.store.bad = s.store.bad ++ [(channel, b)] ∧ u.field 0x00070028 31 16 = Nat.min 65535 (s.field 0x00070028 31 16 + 1)
        ∧ (∀ n rest, look [] s.store.spares channel = n :: rest → u.store.bands = s.store.bands ∧ u.store.blockOf band channel = n
            ∧ look [] u.store.spares channel = rest ∧ u.field (0x00070100 + 4 * channel) 20 0 = rest.length % 2 ^ 21
            ∧ (s.store.channelBlocks channel ≤ 400 * rest.length → told u))
        ∧ (look [] s.store.spares channel = [] → u.store.bands = s.store.bands.filter (fun e => e.1 != band)
            ∧ (s.store.channelBlocks channel = 0 → told u)))
  ∧ (∀ s : State,
      let a := hourlyCredit s
      ∃ u, Sys2Proof.Machine.exec .spillCreditHourly s = .next u ∧ { u with csr := s.csr, store := s.store, clk := s.clk, pins := s.pins } = s
        ∧ u.now = Nat.max s.now (s.store.hourAt + 3600 * sHalves) ∧ u.store.hourAt = u.now ∧ u.store.hours = s.store.hours + 1
        ∧ u.store.credit = min (s.store.credit + a) (168 * a)
        ∧ (u.word 0x00070010).toNat = Nat.min (2 ^ 32 - 1) (u.store.credit / 65536).toNat)
  ∧ (∀ (s : State) (x y p b : Nat), s.store.geometry = some (x, y, p, b) →
      let d : Int := 320 * (Nat.max 1 (43830 - s.store.hours) : Nat)
      let n : Int := 65536 * (9 * b * p - 10 * (s.word 0x00070014).toNat)
      d * hourlyCredit s ≤ n ∧ n < d * (hourlyCredit s + 1))
  ∧ (∀ (s : State) (m j low high : Nat),
      let v := (Config.freeReads s.free).foldl (fun u r => countRead 4 r.page r.step u) (skipFree 1 s)
      let idle := (List.range (s.store.regionBands 3).length).filter (fun i => !bandLive s i && s.store.head != some i)
      let worn := nthD 0 (s.store.regionBands 3) j
      let swapped := s.store.bands.map (fun e => if e.1 = m then (worn, e.2) else if e.1 = worn then (m, e.2) else e)
      let wear := s.store.wear
      (sortBy wear (s.store.bands.map Prod.fst)).head? = some low → (sortBy wear (s.store.bands.map Prod.fst)).getLast? = some high →
      (sortBy wear (s.store.regionBands 4)).head? = some m → (sortBy s.store.spillWear idle).getLast? = some j →
      (32 * 500 < wear high - wear low → wear m < s.store.spillWear j →
          ∃ u, Sys2Proof.Machine.exec .staticLevelling s = .next u ∧ { u with csr := s.csr, store := s.store, ev := s.ev, pins := s.pins, free := s.free } = s
            ∧ u.store.bands = swapped ∧ j ∈ u.store.written ∧ u.store.data = s.store.data ∧ u.store.objects = s.store.objects
            ∧ (j ∉ s.store.written → u.store.erases = s.store.erases ∧ u.csr = v.csr))
      ∧ (wear high - wear low ≤ 32 * 500 → Sys2Proof.Machine.exec .staticLevelling s = .next (settle v)))
  ∧ (∀ (s : State) (b : Nat), s.store.written = [b] → s.store.head ≠ some b → bandLive s b = false →
      let band := nthD 0 (s.store.regionBands 3) b
      ∃ u, Sys2Proof.Machine.exec .spillGc s = .next u ∧ { u with csr := s.csr, store := s.store, ev := s.ev, pins := s.pins, free := s.free } = s
        ∧ u.store.written = [] ∧ u.store.credit = s.store.credit - 65536
        ∧ u.store.erases = (List.range 32).foldl (fun l c => change 0 l ((s.store.blockOf band c).key c) (· + 1)) s.store.erases
        ∧ (∀ c, c < 32 → look 0 u.store.reads (band * 32 + c) = 0)
        ∧ (u.word 0x00070014).toNat = Nat.min (2 ^ 32 - 1) ((s.word 0x00070014).toNat + 32))
  ∧ (∀ (s s1 : State) (n new k : Nat) (bs : List Byte), s.kv.slots.find? (fun e => e.1 == n) = some (n, bs) → takeLogSlot s = some (new, s1) →
      look [] (moveSlot n s).kv.slots new = bs ∧ ((s.pte k).state = 2 → (s.pte k).loc = n → (moveSlot n s).pte k = { s.pte k with loc := new })
        ∧ ((s.pte k).loc ≠ n → (moveSlot n s).pte k = s.pte k))

/-- LINK_TRAINED, LINK_LOSS, TRAINING_RESTART and FEC_WINDOW. Training brings the link up with the addresses that the fields give: a static
IPv6 address is tentative until duplicate address detection ends, the other modes solicit a router, and an IPv4 address is in use at once; a
loss takes the link down with its alert; a window counts its codewords and reports a bit error ratio above 5 × 10^−4 or an uncorrectable
codeword. Clauses that rest on a choice of the model: log entries 60, 129, 156. -/
def Obligations.Link : Prop :=
  (∀ (swapped : Bool) (s : State), s.boot.railsGood = true → s.pow.refclk = true → s.linkUp = false → s.field 0x00050010 28 28 = 0 →
      s.boot.step ≠ 7 →
      let static6 := s.field 0x00050010 31 30 = 1
      let v4 := s.field 0x00050010 29 29 = 1
      ∃ u, Sys2Proof.Machine.exec (.linkTrained swapped) s = .next u ∧ u.linkUp = true
        ∧ u.word 0x00050000 = (if swapped then 0xC0000000#32 else 0x80000000#32)
        ∧ u.ev = s.ev.record { code := 0x0701 } s.clk.half (s.field 0x000C0014 15 0)
        ∧ (static6 → u.net.tentative = [quadWord s 0x00050020] ∧ u.net.gw6 = quadWord s 0x00050030
            ∧ u.net.wire = s.net.wire ++ [.solicit (quadWord s 0x00050020)])
        ∧ (¬ static6 → u.net.tentative = [] ∧ u.net.gw6 = s.net.gw6
            ∧ u.net.wire = if 2 ≤ s.field 0x00050010 31 30 then s.net.wire ++ [.routerSolicit] else s.net.wire)
        ∧ (v4 → u.field 0x00050010 27 27 = 1 ∧ u.net.v4 = (s.word 0x00050040).toNat ∧ u.net.gw4 = (s.word 0x00050044).toNat)
        ∧ (¬ v4 → u.field 0x00050010 27 27 = 0 ∧ u.net.v4 = 0)
        ∧ u.net.sessions = s.net.sessions ∧ u.mem = s.mem ∧ u.threads = s.threads)
  ∧ (∀ s : State, s.linkUp = true →
      ∃ u, Sys2Proof.Machine.exec .linkLoss s = .next u ∧ { u with csr := s.csr, ev := s.ev, pins := s.pins } = s ∧ u.linkUp = false
        ∧ (∀ a, u.word a = if a = 0x00050000 then 0 else s.word a)
        ∧ u.ev = s.ev.record { code := 0x0702 } s.clk.half (s.field 0x000C0014 15 0) ∧ u.ev.alert.getLsbD 7 = true)
  ∧ (∀ s : State, s.boot.railsGood = true → s.linkUp = false →
      Sys2Proof.Machine.exec .trainingRestart s = .next (settle { s with net := { s.net with restarts := s.net.restarts + 1 } }))
  ∧ (∀ (corrected bad errors bits : Nat) (s : State), s.linkUp = true →
      ∃ u, Sys2Proof.Machine.exec (.fecWindow corrected bad errors bits) s = .next u ∧ { u with csr := s.csr, ev := s.ev, pins := s.pins } = s
        ∧ (∀ a, u.word a = if a = 0x00050050 then s.word a + BitVec.ofNat 32 corrected else if a = 0x00050054 then s.word a + BitVec.ofNat 32 bad else s.word a)
        ∧ u.ev = if 5 * bits < 10000 * errors ∨ bad ≠ 0 then s.ev.record { code := 0x0703 } s.clk.half (s.field 0x000C0014 15 0) else s.ev)

/-- FRAME_RECEIVE, ICMP_ECHO, NEIGHBOUR_DISCOVERY, ARP, DAD_DONE and PACKET_TOO_BIG, with the link up. PAUSE and PFC are counted; what is
not for the port is dropped and counted; echoes of up to 1,024 bytes are answered, at most 1,000 in a second; neighbours are learned and
asked for addresses are answered; an address is used once detection ends without a conflict, which is an alert otherwise; and a path MTU
only falls, never below 1,280. Clauses that rest on a choice of the model: log entries 60, 156. -/
def Obligations.FramesAndNeighbours : Prop :=
  (∀ (f : Frame) (s : State), s.linkUp = true →
      let pause := f.fcsOk = true ∧ (f.proto = .pause ∨ f.proto = .pfc)
      let good := f.fcsOk = true ∧ tagOk s f = true ∧ protocolOk s f = true ∧ f.packetLen ≤ s.field 0x0005000C 13 0
      ∃ u, Sys2Proof.Machine.exec (.frameReceive f) s = .next u ∧ { u with csr := s.csr, pins := s.pins } = s
        ∧ ∀ a, u.word a = if (pause ∧ a = 0x0005005C) ∨ (¬ pause ∧ ¬ good ∧ a = 0x00050058) then s.word a + 1 else s.word a)
  ∧ (∀ (src len : Nat) (s : State), s.linkUp = true →
      let times := recent s.now sHalves s.net.echoes
      (len ≤ 1024 → times.length < 1000 → Sys2Proof.Machine.exec (.icmpEcho src len) s = .next (settle
          { s with net := { s.net with echoes := times ++ [s.now], wire := s.net.wire ++ [.echo src len] } }))
      ∧ (1024 < len ∨ 1000 ≤ times.length → Sys2Proof.Machine.exec (.icmpEcho src len) s = .next (settle (bump 0x00050058 1 s))))
  ∧ (∀ (src mac target : Nat) (s : State), s.linkUp = true →
      let learnt (l : List (Nat × Nat)) : List (Nat × Nat) := ((src, mac) :: l.filter (fun e => e.1 != src)).take 1024
      let asked := (target = s.net.v6 ∧ s.field 0x00050010 28 28 = 1) ∨ (target = linkLocal ∧ s.net.mode6 ≠ 0)
      let asked4 := s.net.v4 = target ∧ s.field 0x00050010 27 27 = 1
      Sys2Proof.Machine.exec (.neighbourDiscovery (.na src mac)) s = .next (settle { s with net := { s.net with nd := learnt s.net.nd } })
      ∧ Sys2Proof.Machine.exec (.neighbourDiscovery (.rs src mac)) s = .next (settle { s with net := { s.net with nd := learnt s.net.nd } })
      ∧ (asked → Sys2Proof.Machine.exec (.neighbourDiscovery (.ns src mac target)) s = .next (settle
          { s with net := { s.net with nd := learnt s.net.nd, wire := s.net.wire ++ [.advertise src target] } }))
      ∧ (¬ asked → Sys2Proof.Machine.exec (.neighbourDiscovery (.ns src mac target)) s = .next (settle
          { s with net := { s.net with nd := learnt s.net.nd } }))
      ∧ Sys2Proof.Machine.exec (.arp (.reply src mac)) s = .next (settle { s with net := { s.net with arp := learnt s.net.arp } })
      ∧ (asked4 → Sys2Proof.Machine.exec (.arp (.request src mac target)) s = .next (settle
          { s with net := { s.net with arp := learnt s.net.arp, wire := s.net.wire ++ [.arpReply src target] } }))
      ∧ (¬ asked4 → Sys2Proof.Machine.exec (.arp (.request src mac target)) s = .next (settle
          { s with net := { s.net with arp := learnt s.net.arp } }))
      ∧ (∀ hi len mtu, s.net.mode6 = 2 → ∃ u, Sys2Proof.Machine.exec (.neighbourDiscovery (.ra src mac hi len mtu)) s = .next u
          ∧ u.net.raMtu = mtu ∧ u.net.gw6 = src ∧ u.net.nd = learnt s.net.nd ∧ u.net.sessions = s.net.sessions
          ∧ (len = 64 → hi % 2 ^ 64 * 2 ^ 64 + Config.interfaceId.toNat ≠ s.net.v6 → hi % 2 ^ 64 * 2 ^ 64 + Config.interfaceId.toNat ∈ u.net.tentative)))
  ∧ (∀ (a : Nat) (s : State), s.linkUp = true → a ∈ s.net.tentative →
      (∃ u, Sys2Proof.Machine.exec (.dadDone a false) s = .next u ∧ u.net = { s.net with tentative := takeOut s.net.tentative a } ∧ u.csr = s.csr
          ∧ u.ev = s.ev.record { code := 0x0704 } s.clk.half (s.field 0x000C0014 15 0))
      ∧ (s.boot.step ≠ 7 → ∃ u, Sys2Proof.Machine.exec (.dadDone a true) s = .next u ∧ u.field 0x00050010 28 28 = 1
          ∧ u.net = { s.net with tentative := takeOut s.net.tentative a, v6 := a } ∧ (∀ b, b ≠ 0x00050010 → u.word b = s.word b)
          ∧ u.ev = if 2 ≤ s.net.mode6 then s.ev.record { code := 0x0705 } s.clk.half (s.field 0x000C0014 15 0) else s.ev))
  ∧ (∀ (peer port mtu : Nat) (s : State), s.net.sessions.Pairwise (fun x y => x.1 < y.1) →
      ∃ u, Sys2Proof.Machine.exec (.packetTooBig peer port mtu) s = .next u ∧ u.mem = s.mem ∧ u.threads = s.threads ∧ u.csr = s.csr
        ∧ ∀ i, u.sess i = { s.sess i with pmtu :=
            if (s.sess i).state ≠ .free ∧ (s.sess i).addr = peer ∧ (s.sess i).port = port then Nat.min (s.sess i).pmtu (Nat.max 1280 mtu)
            else (s.sess i).pmtu })

/-- The next whole message of an open client session: an authentic datagram of one message at RX_NEXT, from the peer's address, that
acknowledges nothing new; nothing of the session's is in flight or generating. Each request and control has its effect (R368, R374, R376):
APPEND and GENERATE hand their bytes to the program, GENERATE starts generation, RESET gives the context up first, SET_SAMPLER and SET_STOPS
set their fields, CANCEL ends a generation, PING is echoed, and CLOSE begins a close with status 0x0010. -/
def Obligations.ClientMessages : Prop :=
  ∀ (d : Datagram) (i : Nat) (s : State),
    let x := s.sess i
    let n := d.payload.length
    let arrives : Prop := wellShaped s d = true ∧ d.flags = 0xC000#16 ∧ s.live? d.handle.toNat = some i ∧ x.keyed = true ∧ x.state = .opened
      ∧ x.kind = 0 ∧ x.claim = none ∧ x.parts = [] ∧ x.out = [] ∧ x.ackOwed = 0 ∧ d.seq = x.rxNext ∧ d.seq < x.rxLimit ∧ d.tagOk = true
      ∧ d.srcAddr = x.addr ∧ d.srcPort = x.port ∧ d.ce = false ∧ d.ack = x.txUna ∧ x.txUna ≤ x.txNext ∧ x.txNext < 0xFFFFFF00
      ∧ n ≤ s.field 0x0006000C 15 0 * 1024 ∧ 76 + 32 ≤ x.pmtu - 20 ∧ s.boot.shutdown = 0
    let request (op : Nat) : Prop := d.typ = 3 ∧ 16 ≤ n ∧ beAt d.payload 0 1 = op ∧ beAt d.payload 1 3 = 0 ∧ beAt d.payload 12 4 = 0
    let control (op : Nat) : Prop := d.typ = 5 ∧ beAt d.payload 0 1 = op
    let gives (c : Instr) (p : Session → Prop) : Prop :=
      ∃ u, Sys2Proof.Machine.exec c s = .next u ∧ p (u.sess i) ∧ (u.sess i).rxNext = d.seq + 1 ∧ (u.sess i).parts = [] ∧ (u.sess i).ackOwed = 1
        ∧ (∀ j, j ≠ i → u.sess j = s.sess j) ∧ u.mem = s.mem ∧ u.threads = s.threads ∧ u.csr = s.csr ∧ u.ev = s.ev
    let queued (y : Session) : Prop :=
      y.reqId = beAt d.payload 8 4 ∧ y.inbox = x.inbox ++ [{ typ := 3, seq := d.seq, last := false, payload := d.payload }]
        ∧ y.maxNew = if beAt d.payload 4 4 = 0 then x.maxNew else beAt d.payload 4 4
    let status (y : Session) (code : Nat) (detail : List Byte) : Prop :=
      y.out = [{ seq := x.txNext, typ := 5, flags := 0xC000, payload := 0x81#8 :: (beBytes 2 code ++ (detail ++ List.replicate 12 0#8).take 12) }]
    arrives →
    (request 1 → gives (.append d) (fun y => queued y ∧ y.text = x.text + (n - 16) ∧ y.generating = x.generating ∧ y.pos = x.pos))
    ∧ (request 2 → x.generating = false →
        gives (.generate d) (fun y => queued y ∧ y.text = x.text + (n - 16) ∧ y.generating = true ∧ y.generated = 0 ∧ y.force = true ∧ y.pos = x.pos))
    ∧ (request 3 → x.generating = false →
        gives (.reset d) (fun y => queued y ∧ y.text = n - 16 ∧ y.pos = 0 ∧ y.tokens = [] ∧ y.pending = 0 ∧ y.generating = false))
    ∧ (control 1 → n = 21 →
        let f (k : Nat) : F32 := BitVec.ofNat 32 (beAt d.payload k 4)
        let ok := inRangeF 0 0x40800000 false (f 1) && inRangeF 0 0x3F800000 true (f 5) && inRangeF 0x3F800000 0x40000000 false (f 9)
          && decide (beAt d.payload 13 2 ≤ 1024) && decide (beAt d.payload 15 2 ≤ 4096) && decide (1 ≤ beAt d.payload 17 4)
          && decide (beAt d.payload 17 4 ≤ x.maxctx)
        gives (.setSampler d) (fun y =>
          (ok = true → y.temperature = f 1 ∧ y.topP = f 5 ∧ y.repPenalty = f 9 ∧ y.topK = beAt d.payload 13 2
            ∧ y.repWindow = beAt d.payload 15 2 ∧ y.maxNew = beAt d.payload 17 4 ∧ y.out = [])
          ∧ (ok = false → y.temperature = x.temperature ∧ y.topP = x.topP ∧ y.maxNew = x.maxNew ∧ status y 1 [])))
    ∧ (control 2 → n = 51 → beAt d.payload 17 1 ≤ 16 → beAt d.payload 18 1 ≤ 16 →
        gives (.setStops d) (fun y => y.stopTok = [beAt d.payload 1 4, beAt d.payload 5 4, beAt d.payload 9 4, beAt d.payload 13 4]
          ∧ y.stopStr = [(d.payload.drop 19).take (beAt d.payload 17 1), (d.payload.drop 35).take (beAt d.payload 18 1)]))
    ∧ (control 3 → gives (.cancel d) (fun y => y.generating = false ∧ (x.generating = false → y.out = [])
        ∧ (x.generating = true → x.fresh.length + x.hold.length ≤ 1024 → ∃ e ∈ y.out, e.typ = 4 ∧ bit e.flags 13 = true)))
    ∧ (control 4 → n = 9 → gives (.ping d) (fun y => status y 0 (d.payload.drop 1)))
    ∧ (d.typ = 6 → s.txs = [] → gives (.close d) (fun y => y.state = .closing ∧ y.closeStatus = 0x10
        ∧ y.out = [{ seq := x.txNext, typ := 6, flags := 0xC000, payload := [0#8, 0x10#8] }]))

/-- ACK_ONLY and the receive checks of Table NET-7: a datagram of the wrong shape, of no live session or past the advertised window is
dropped and counted, one that fails authentication is counted with NET_AUTH_FAIL, and none of these changes a session. An authentic
acknowledgement removes what ACK and SACK name, moves TX_UNA and takes the peer's window. A datagram's header is 32 bytes, its handle
big-endian. Clauses that rest on a choice of the model: log entries 9, 37. -/
def Obligations.ReceiveChecks : Prop :=
  (∀ d : Datagram, (Datagram.header d).length = 32 ∧ (Datagram.header d).take 2 = [BitVec.ofNat 8 d.version, BitVec.ofNat 8 d.typ]
      ∧ ((Datagram.header d).drop 4).take 4 = beBytes 4 d.handle.toNat)
  ∧
  ∀ (d : Datagram) (s : State), d.flags.getLsbD 12 = true →
    (wellShaped s d = false ∨ s.live? d.handle.toNat = none →
      ∃ u, Sys2Proof.Machine.exec (.ackOnly d) s = .next u ∧ { u with csr := s.csr, pins := s.pins } = s
        ∧ ∀ a, u.word a = if a = 0x00060034 then s.word a + 1 else s.word a)
    ∧ (∀ i, s.live? d.handle.toNat = some i → wellShaped s d = true → (s.sess i).keyed = true → d.flags.getLsbD 9 = false → d.seq ≠ 0xFFFFFFFF →
        (d.tagOk = false →
          ∃ u, Sys2Proof.Machine.exec (.ackOnly d) s = .next u ∧ { u with csr := s.csr, ev := s.ev, pins := s.pins } = s
            ∧ (∀ a, u.word a = if a = 0x00060030 then s.word a + 1 else s.word a)
            ∧ u.ev = s.ev.record { code := 0x0706 } s.clk.half (s.field 0x000C0014 15 0))
        ∧ (d.tagOk = true → (s.sess i).state = .opened → (s.sess i).claim = none → (s.sess i).txUna ≤ d.ack → d.ack ≤ (s.sess i).txNext →
          ∃ u, Sys2Proof.Machine.exec (.ackOnly d) s = .next u ∧ u.mem = s.mem ∧ u.threads = s.threads ∧ (∀ j, j ≠ i → u.sess j = s.sess j)
            ∧ (u.sess i).txUna = d.ack ∧ (u.sess i).peerWindow = d.window ∧ (u.sess i).lastActive = s.ao ∧ (u.sess i).inbox = (s.sess i).inbox
            ∧ (∀ e ∈ (u.sess i).out, e.sends = 0 ∨ acked d.ack d.sack e.seq = false)
            ∧ ∀ e ∈ (s.sess i).out, e.sends = 0 ∨ acked d.ack d.sack e.seq = false → ∃ f ∈ (u.sess i).out, f.seq = e.seq ∧ f.payload = e.payload))

/-- ACK_DELAY_EXPIRY, RTO_EXPIRY, ZERO_WINDOW_PROBE, IDLE_TIMEOUT and PACED_TRANSMIT. An owed acknowledgement is queued at its delay; the
oldest datagram in flight is due again at its timer, and the tries' end closes with status 0x0012 and SES_UNREACHABLE; a closed window is
probed; an idle session closes with status 0x0011; and the pacer sends level 0 first and holds the wire for the packet's time. Every
datagram of a session is marked ECT(0) and carries its session's DSCP. Clauses that rest on a choice of the model: log entries 37, 38, 119.
-/
def Obligations.SessionTimers : Prop :=
  ∀ (i : Nat) (s : State),
    let x := s.sess i
    let others (u : State) : Prop := (∀ j, j ≠ i → u.sess j = s.sess j) ∧ u.mem = s.mem ∧ u.threads = s.threads
    (x.state ≠ .free → x.ackOwed ≠ 0 → x.ackNext < 0xFFFFFFFF →
      ∃ u p, Sys2Proof.Machine.exec (.ackDelayExpiry i) s = .next u ∧ others u ∧ (u.sess i).ackOwed = 0 ∧ (u.sess i).ackNext = x.ackNext + 1
        ∧ u.now = Nat.max s.now (x.ackSince + s.field 0x00060014 11 0 * usHalves)
        ∧ u.net.ctl = s.net.ctl ++ [p] ∧ p.ack = x.rxNext ∧ p.seq = x.ackNext ∧ p.payload = [] ∧ p.addr = x.addr ∧ p.port = x.port
        ∧ p.dscp = x.dscp s ∧ p.ecn = 2)
    ∧ (∀ d r, x.inFlight = d :: r → x.state = .opened →
        let t := Nat.max s.now (d.sentAt + rto s x)
        (x.kind = 1 ∨ x.expiries + 1 < s.field 0x00060014 15 12 →
          ∃ u, Sys2Proof.Machine.exec (.rtoExpiry i) s = .next u ∧ others u ∧ u.now = t ∧ (u.sess i).expiries = x.expiries + 1
            ∧ (u.sess i).out = x.out.map (fun e => if e.seq = d.seq then { e with due := true } else e) ∧ u.ev = s.ev)
        ∧ (x.kind ≠ 1 → s.field 0x00060014 15 12 ≤ x.expiries + 1 → s.txs = [] →
          ∃ u, Sys2Proof.Machine.exec (.rtoExpiry i) s = .next u ∧ others u ∧ u.now = t ∧ (u.sess i).state = .closing ∧ (u.sess i).closeStatus = 0x12
            ∧ u.ev = s.ev.record (atSession 0x0803 (s.handle i) 0 0) t (s.field 0x000C0014 15 0)))
    ∧ (∀ d, x.state ≠ .free → x.peerWindow = 0 → x.out.find? Dgram.due = some d →
        ∃ u p, Sys2Proof.Machine.exec (.zeroWindowProbe i) s = .next u ∧ others u ∧ u.now = Nat.max s.now x.probeAt
          ∧ (u.sess i).probeAt = u.now + 10 * msHalves ∧ u.net.wire = s.net.wire ++ [.pelet p]
          ∧ (d.sealed = none → p.seq = d.seq ∧ p.payload = d.payload))
    ∧ (x.state = .opened → x.generating = false → x.pending = 0 → s.txs = [] →
        ∃ u, Sys2Proof.Machine.exec (.idleTimeout i) s = .next u ∧ others u ∧ (u.sess i).state = .closing ∧ (u.sess i).closeStatus = 0x11
          ∧ u.now = Nat.max s.now (x.lastActive * 152 + x.idleS * sHalves))
    ∧ (∀ p rest, s.net.ctl = p :: rest →
        Sys2Proof.Machine.exec .pacedTransmit s = .next (settle { s with
          clk := { s.clk with half := Nat.max s.now s.net.pacedAt }
          net := { s.net with ctl := rest, wire := s.net.wire ++ [.pelet p]
                              pacedAt := Nat.max s.now s.net.pacedAt + ((p.payload.length + 80) * 8 * 19 + (5 * Nat.max 1 (s.field 0x0006001C 9 0) - 1)) /
                                (5 * Nat.max 1 (s.field 0x0006001C 9 0)) } }))
    ∧ (∀ d, s.net.ctl = [] → s.net.sessions = [(i, x)] → nextDgram x = some d →
        ∃ u p, Sys2Proof.Machine.exec .pacedTransmit s = .next u ∧ u.mem = s.mem ∧ u.threads = s.threads
          ∧ u.now = Nat.max (Nat.max s.now s.net.pacedAt) x.nextSend ∧ u.net.wire = s.net.wire ++ [.pelet p]
          ∧ (d.sealed = none → p.seq = d.seq ∧ p.payload = d.payload ∧ p.dscp = x.dscp s ∧ p.ecn = 2
              ∧ p.handle = if x.kind = 1 then x.peerHandle else s.handle i)
          ∧ (∀ e ∈ (u.sess i).out, e.seq = d.seq → e.due = false ∧ e.sentAt = u.now))

/-- OPEN, HANDSHAKE_DONE, HANDSHAKE_TIMEOUT, ACCEPT, OPEN_RESEND, OPENER_TIMEOUT and OPEN_REFUSAL. A module that is not yet personalised, or
retired, stays silent; an OPEN that an answered session sent within 10 s gets its ACCEPT again; a refusal counts with SES_OPEN_REFUSED and
leaves no state; an admitted OPEN waits for Chevik, and its handshake gives it the free slot, its keys and an ACCEPT of 1,170 bytes with
this module's report; a slot left in handshake for 10 s is released; the opener's side opens with a CONFIRM and a report that verify, sends
its OPEN again and gives up after 10 s or with a refusal that echoes its nonce. A released slot's generation moves on. Clauses that rest on
a choice of the model: log entries 9, 107, 154. -/
def Obligations.Opening : Prop :=
  (∀ (src port : Nat) (p : List Byte) (v : OpenVerdict) (s : State),
      let refusal (st retry : Nat) : Packet := { level := 0, addr := src, port := port, typ := 6, flags := 0x0200, handle := 0, seq := 0, ack := 0
                                                 sack := 0, window := 0, payload := beBytes 2 st ++ beBytes 2 retry ++ (p.drop 16).take 32
                                                 dscp := dscpOf s (beAt p 0 1) (bit (beAt p 1 1) 0) }
      (s.sec.fuses.groups = 0 ∨ 4 ≤ s.sec.fuses.groups → Sys2Proof.Machine.exec (.openReq src port p v) s = .next (settle s))
      ∧ (1 ≤ s.sec.fuses.groups → s.sec.fuses.groups ≤ 3 →
          (∀ i, answered s src port p = some i → Sys2Proof.Machine.exec (.openReq src port p v) s = .next (settle
              { s with net := { s.net with ctl := s.net.ctl ++ (s.sess i).accepted.toList } }))
          ∧ (answered s src port p = none → (∀ e ∈ s.net.hs, e.addr = src → e.port = port → e.payload ≠ p) →
              (∀ st retry, openRefusal? s src port p v = some (st, retry) → st ≠ 5 →
                ∃ u, Sys2Proof.Machine.exec (.openReq src port p v) s = .next u ∧ u.net = { s.net with ctl := s.net.ctl ++ [refusal st retry] }
                  ∧ { u with net := s.net, csr := s.csr, ev := s.ev, pins := s.pins } = s
                  ∧ (∀ a, u.word a = if a = 0x0006002C then s.word a + 1 else s.word a)
                  ∧ u.ev = s.ev.record { code := 0x0801 } s.clk.half (s.field 0x000C0014 15 0))
              ∧ (openRefusal? s src port p v = none → s.net.hs.length < freeSlots s →
                ∃ u, Sys2Proof.Machine.exec (.openReq src port p v) s = .next u ∧ { u with net := { u.net with hs := s.net.hs }, pins := s.pins } = s
                  ∧ ∀ e : HsEntry, e ∈ u.net.hs ↔ e ∈ s.net.hs ∨ e = ⟨s.ao, src, port, p⟩))))
  ∧ (∀ (src port : Nat) (p : List Byte) (v : OpenVerdict) (s : State),
      (s.sec.entropyBad = true → openRefusal? s src port p v = some (5, 1000))
      ∧ (s.sec.entropyBad = false → openFieldsOk p = false → openRefusal? s src port p v = some (1, 0))
      ∧ (s.sec.entropyBad = false → openFieldsOk p = true → s.boot.shutdown = 0 →
          (beAt p 0 1 = 2 → mgmtAdmits s p v = false → openRefusal? s src port p v = some (2, 0))
          ∧ (beAt p 0 1 = 1 → frontAdmits s src port p v = false → openRefusal? s src port p v = some (2, 0))
          ∧ (beAt p 0 1 = 0 → s.bat.model = none → openRefusal? s src port p v = some (7, 1000))))
  ∧ (∀ (s : State) (e : HsEntry) (rest : List HsEntry) (i : Nat), s.net.hs = e :: rest → freeSlot s = some i → beAt e.payload 0 1 ≠ 1 →
      ∃ u, Sys2Proof.Machine.exec .handshakeDone s = .next u ∧ u.net.hs = rest ∧ u.mem = s.mem ∧ u.threads = s.threads
        ∧ (u.sess i).state = .handshake ∧ (u.sess i).gen = (s.slotHist i).gen ∧ (u.sess i).addr = e.addr ∧ (u.sess i).port = e.port
        ∧ (u.sess i).maxctx = beAt e.payload 4 4 ∧ (u.sess i).openReq = e.payload ∧ (u.sess i).kind = beAt e.payload 0 1
        ∧ (∀ j, j ≠ i → u.sess j = s.sess j) ∧ (u.sess i).keyed = true
        ∧ (let body := acceptBody s (u.sess i) (i * 4096 + (s.slotHist i).gen) (beBytes 74 s.drawn)
          ((u.sess i).key, (u.sess i).nb) = sessionKeys (transcript e.payload body) (beBytes 74 s.drawn) ((e.payload.drop 48).take 133)
          ∧ ∃ p, (u.sess i).accepted = some p ∧ u.net.ctl = s.net.ctl ++ [p] ∧ p.typ = 2 ∧ p.flags = 0x0200 ∧ p.seq = 0 ∧ p.ack = 1
            ∧ p.addr = e.addr ∧ p.port = e.port ∧ p.handle = i * 4096 + (s.slotHist i).gen ∧ p.payload.take body.length = body
            ∧ (48 ≤ e.payload.length → p.payload.length = 1170))
        ∧ ∀ a, u.word a = if a = 0x00060028 then s.word a + 1 else s.word a)
  ∧ (∀ (i : Nat) (s : State), (s.sess i).state = .handshake →
      let x := s.sess i
      let late := Nat.max s.now (x.openedAt + 10 * sHalves)
      let released (t : Nat) (c : Instr) : Prop := ∃ u, Sys2Proof.Machine.exec c s = .next u ∧ u.now = t ∧ (u.sess i).state = .free
        ∧ (u.slotHist i).gen = (if 0xFFE ≤ x.gen then 1 else x.gen + 1) ∧ (u.slotHist i).freedAt = some t
        ∧ (∀ j, j ≠ i → u.sess j = s.sess j) ∧ u.mem = s.mem ∧ u.threads = s.threads ∧ (∀ e ∈ u.kv.ptes, e.1 / 2 ^ 20 ≠ i)
      (x.opener = false → released late (.handshakeTimeout i))
      ∧ (x.opener = true → released late (.openerTimeout i))
      ∧ (x.opener = true → ∃ u, Sys2Proof.Machine.exec (.openResend i) s = .next u ∧ u.now = Nat.max s.now (x.openedAt + s.rtoMin * (2 ^ (x.resends + 1) - 1))
          ∧ u.sess i = { x with resends := x.resends + 1 } ∧ u.net.ctl = s.net.ctl ++ [openPacket s x] ∧ (∀ j, j ≠ i → u.sess j = s.sess j))
      ∧ (x.opener = true → s.net.sessions = [(i, x)] → ∀ status retry,
          released s.now (.openRefusal x.addr x.port status retry (beNat (openNonce x.openReq))))
      ∧ (∀ d : Datagram, x.opener = true → s.live? d.handle.toNat = some i → d.typ = 2 → beAt d.payload 0 2 = 0 →
          (∃ en, s.front.entries[x.rank]? = some en ∧ reportFits s (acceptReport d.payload) (openNonce x.openReq) en.akHash = true) →
          (∃ u, Sys2Proof.Machine.exec (.accept d true true) s = .next u ∧ (u.sess i).state = .opened ∧ (u.sess i).keyed = true
            ∧ ((u.sess i).key, (u.sess i).nb) = sessionKeys (transcript x.openReq (d.payload.take (162 + beAt d.payload 160 2))) (beBytes 74 x.eph)
                ((d.payload.drop 24).take 133)
            ∧ (u.sess i).peerHandle = beAt d.payload 4 4 ∧ (u.sess i).pmtu = beAt d.payload 18 2 ∧ (u.sess i).peerWindow = d.window
            ∧ look 0 u.front.heard x.rank = s.now ∧ (∀ j, j ≠ i → u.sess j = s.sess j) ∧ u.mem = s.mem ∧ u.csr = s.csr)
          ∧ ∀ ok, Sys2Proof.Machine.exec (.accept d false ok) s = .next (settle s)))

/-- On an open MGMT session each operation is logged and answered, and has its effect: registers are read and written; an install is begun,
written at its object's write point and committed to a package; a model is loaded, its default district staged, or unloaded; the store is
formatted, its band table and spares laid out; logs and sessions are read; firmware goes into the inactive slots, marked TRY; a shutdown
begins its drain; the front's epoch is set and a front is dissolved. Refusals carry CAPACITY 4, BUSY 5 and BAD_PARAMS 1, and leave the rest
alone. Clauses that rest on a choice of the model: log entries 9, 77 to 90, 98, 151. -/
def Obligations.ManagementOperations : Prop :=
  ∀ (h : Word32) (i : Nat) (s : State), Admin h i s →
    let gives (c : Instr) (op status : Nat) (data : List Byte) (x : State) : Prop :=
      Sys2Proof.Machine.exec c s = .next (settle (sendReply i op status data x))
    (∀ (op status : Nat) (data : List Byte), op < 65536 → status < 65536 → data.length ≤ 64 →
        sendReply i op status data s = setSess i { s.sess i with txNext := (s.sess i).txNext + 1, out := (s.sess i).out ++
          [{ seq := (s.sess i).txNext, typ := 8, flags := 0xC000, payload := beBytes 2 op ++ beBytes 2 status ++ List.replicate 12 0 ++ data }] } s)
    ∧ (∀ a : Word32, gives (.mgmtReadCsr h a) 1 0 (beBytes 4 (readCsr .mgmt a.toNat (taken i 1 s)).1.toNat) (readCsr .mgmt a.toNat (taken i 1 s)).2)
    ∧ (∀ a v : Word32, deniedWrite .mgmt a.toNat v = true → gives (.mgmtWriteCsr h a v) 2 1 [] (writeCsr .mgmt a.toNat v (taken i 2 s)))
    ∧ (∀ a v : Word32, deniedWrite .mgmt a.toNat v = false → badPartition s a.toNat v = false → a ≠ 0x108 →
        Sys2Proof.Machine.exec (.mgmtWriteCsr h a v) s = .next (settle (writeCsr .mgmt a.toNat v (sendReply i 2 0 [] (taken i 2 s)))))
    ∧ (∀ v : Word32, deniedWrite .mgmt 0x108 v = false →
        Sys2Proof.Machine.exec (.mgmtWriteCsr h 0x108 v) s = .next (settle (writeCsr .mgmt 0x108 v (replyNow i 2 0 [] (taken i 2 s)))))
    ∧ (s.store.install.isSome = true → ∀ files, gives (.mgmtInstallBegin h files) 3 5 [] (taken i 3 s))
    ∧ (∀ files : List (Nat × Nat), s.store.install = none → s.storeState = 2 → files ≠ [] → (files.map Prod.fst).Nodup →
        (∀ f ∈ files, s.object? f.1 = none ∧ f.1 < 2 ^ 32) →
        (modelPages s < nextModelPage s + sumOf (files.map Prod.snd) → gives (.mgmtInstallBegin h files) 3 4 [] (taken i 3 s))
        ∧ (nextModelPage s + sumOf (files.map Prod.snd) ≤ modelPages s →
            let cleared := prepareBands (modelBands s (nextModelPage s) (sumOf (files.map Prod.snd))) (taken i 3 s)
            gives (.mgmtInstallBegin h files) 3 0 [] { cleared with free := s.free + 1, store := { cleared.store with
              objects := s.store.objects ++ packageObjects s.drawn (nextModelPage s) files, install := some (files.map Prod.fst) } }))
    ∧ (∀ (id : Nat) (data : List Byte) (o : StoreObj) (l : List Nat), s.object? id = some o → s.store.install = some l → id ∈ l → s.storeState = 2 →
        (o.writePoint + (data.length + 4095) / 4096 ≤ o.pages → ∃ u, Sys2Proof.Machine.exec (.mgmtInstallData h id data) s = .next u
            ∧ u.object? id = some { o with writePoint := o.writePoint + (data.length + 4095) / 4096 }
            ∧ (∀ k, k < data.length → look 0 u.store.data (id * 2 ^ 40 + o.writePoint * 4096 + k) = nthD 0 data k)
            ∧ u.mem = s.mem ∧ u.threads = s.threads ∧ u.sec = s.sec)
        ∧ (o.pages < o.writePoint + (data.length + 4095) / 4096 → gives (.mgmtInstallData h id data) 4 1 [] (taken i 4 s)))
    ∧ (∀ (m : SignedObj) (files : List PkgFile) (root svn model : Nat) (ids : List Nat), s.store.install = some ids →
        (filesMatch s ids files = false → ∃ u, Sys2Proof.Machine.exec (.mgmtInstallCommit h m files root svn model) s = .next u
            ∧ u.store.install = none ∧ (∀ o ∈ u.store.objects, o.id ∉ ids) ∧ u.store.packages = s.store.packages
            ∧ u.ev = s.ev.record { code := 0x0A09 } s.clk.half (s.field 0x000C0014 15 0))
        ∧ (filesMatch s ids files = true → root = merkleRoot (files.map PkgFile.digest) →
            signedCheck s m (fun k => k == 1 || k == 2) model = none → s.sec.fuses.pkgMin ≤ svn →
            ∃ u p, Sys2Proof.Machine.exec (.mgmtInstallCommit h m files root svn model) s = .next u ∧ u.store.install = none
              ∧ u.store.packages = p :: s.store.packages ∧ p.root = root ∧ p.svn = svn ∧ p.model = model ∧ p.objects = ids
              ∧ (∀ o ∈ u.store.objects, o.id ∈ ids → o.openWrite = false ∧ o.pkg = root) ∧ u.ev = s.ev ∧ u.mem = s.mem))
    ∧ (s.bootState ≠ 8 → ∀ auto root, gives (.mgmtLoadModel h true auto root) 6 5 [] (taken i 6 s))
    ∧ (∀ (root : Nat) (p : Package), s.bootState = 8 → s.store.packages.find? (fun p => p.root == root) = some p → s.storeState = 2 →
        loadable s p = true → s.bat.model = none →
        ∃ u, Sys2Proof.Machine.exec (.mgmtLoadModel h true false root) s = .next u ∧ u.bat.model = some (p.root, p.svn, p.deleg)
          ∧ (u.bat.slots.head?).bind DistrictSlot.district = some (Config.defaultDistrict p.root) ∧ u.field 0x00000100 21 21 = 1
          ∧ Config.defaultDistrict p.root ∈ u.bat.staged
          ∧ (∀ pg ∈ look [] u.kv.images (Config.defaultDistrict p.root), pg ∉ u.kv.unstaged)
          ∧ (∀ b, b / 65536 ∉ look [] u.kv.images (Config.defaultDistrict p.root) → u.mem.read b = s.mem.read b)
          ∧ u.threads = s.threads ∧ u.store = s.store)
    ∧ ((∀ e ∈ s.net.sessions, e.2.kind ≠ 0) → s.bat.model.isSome = true →
        ∃ u, ∀ root auto, Sys2Proof.Machine.exec (.mgmtLoadModel h false auto root) s = .next u ∧ u.bat.model = none ∧ u.arr.regions = [] ∧ u.field 0x00000100 21 21 = 0
          ∧ u.mem = s.mem ∧ u.threads = s.threads)
    ∧ (s.storeState = 0 ∨ s.store.install.isSome = true → gives (.mgmtFormatStore h) 7 5 [] (taken i 7 s))
    ∧ (s.storeState ∈ [1, 2, 3] → s.store.install = none → (∀ c, c < 32 → s.store.channelBlocks c ≠ 0) →
        ∃ u, Sys2Proof.Machine.exec (.mgmtFormatStore h) s = .next u ∧ u.store.formatted = true ∧ u.store.objects = [] ∧ u.store.packages = []
          ∧ u.store.data = [] ∧ u.store.bands = bandRegions s ∧ u.storeState = (if s.store.failed.isEmpty then 2 else 3)
          ∧ (∀ c, c < 32 → look [] u.store.spares c = ((formatBlocks s c).drop (bandCount s)).take (spareCount s c)
              ∧ ∀ b, b < bandCount s → u.store.blockOf b c = nthD ⟨0, 0, 0⟩ (formatBlocks s c) b)
          ∧ u.word 0x00070014 = 0 ∧ u.sec.fuses = s.sec.fuses ∧ u.mem = s.mem ∧ u.threads = s.threads)
    ∧ (∀ q : Word32, gives (.mgmtReadLog h q) 8 0 (Config.replyLayout 8 (logValues (taken i 8 s) q.toNat)) (taken i 8 s))
    ∧ (∀ (o : SignedObj) (svn : Nat), signedCheck s o (· == 0) 0 = none → s.sec.fuses.fwMin ≤ svn → s.storeState = 2 →
        ∃ u, Sys2Proof.Machine.exec (.mgmtStageFirmware h o svn) s = .next u ∧ u.sec.try_ = some (1 - s.sec.active) ∧ u.sec.active = s.sec.active
          ∧ slotImage u.sec.nor (1 - s.sec.active) = some { svn := svn, digest := Config.sha512 o.bytes }
          ∧ (∀ k, k ≠ 1 - s.sec.active → slotImage u.sec.nor k = slotImage s.sec.nor k) ∧ u.mem = s.mem ∧ u.threads = s.threads
          ∧ (nthD 0 (s.store.regionBands 1) (1 - s.sec.active) ∉ s.store.dirty → u.csr = s.csr))
    ∧ (∀ (o : SignedObj) (svn n : Nat), signedCheck s o (· == 0) 0 = some n →
        gives (.mgmtStageFirmware h o svn) 9 1 (beBytes 1 n) (bump 0x00010060 1 (taken i 9 s)))
    ∧ (∀ restart skip, s.boot.shutdown = 0 → s.bootState = 8 → s.store.install = none →
        ∃ u, Sys2Proof.Machine.exec (.mgmtShutdown h restart skip) s = .next u ∧ u.bootState = 9
          ∧ u.boot = { s.boot with shutdown := 1, restart := restart, skipDownpour := skip, shutBy := s.handle i, shutAt := s.now }
          ∧ u.mem = s.mem ∧ u.threads = s.threads ∧ u.bat = s.bat)
    ∧ (∀ restart skip, s.boot.shutdown = 0 → s.bootState ≠ 8 → gives (.mgmtShutdown h restart skip) 10 5 [] (taken i 10 s))
    ∧ gives (.mgmtSessions h none) 11 0
        (Config.replyLayout 11 ((sessionsWhere (taken i 11 s) (fun x => x.state != .free)).map (sessionValues (taken i 11 s))).flatten) (taken i 11 s)
    ∧ (∀ (c : Word32) (j : Nat), s.live? c.toNat = some j → j ≠ i → (s.sess j).state = .opened → s.txs = [] →
        ∃ u, Sys2Proof.Machine.exec (.mgmtSessions h (some c)) s = .next u ∧ (u.sess j).state = .closing ∧ (u.sess j).closeStatus = 0x14
          ∧ (∀ k, k ≠ i → k ≠ j → u.sess k = s.sess k) ∧ u.mem = s.mem ∧ u.threads = s.threads)
    ∧ (∀ c : Word32, s.live? c.toNat = none → gives (.mgmtSessions h (some c)) 11 1 [] (taken i 11 s))
    ∧ (∀ record, frontRecordOk s record = false → gives (.mgmtFrontConfigure h record) 12 1 []
        { taken i 12 s with ev := s.ev.record { code := 0x0908 } s.clk.half (s.field 0x000C0014 15 0) })
    ∧ (∀ record, frontRecordOk s record = true → beAt record 9 1 + 1 = beAt record 8 1 →
        ∃ u, Sys2Proof.Machine.exec (.mgmtFrontConfigure h record) s = .next u ∧ u.fstate = 1 ∧ u.myRank = beAt record 9 1 ∧ u.field 0x00060100 23 18 = beAt record 8 1
          ∧ u.front.entries = recordEntries record (beAt record 8 1) ∧ u.epoch = 0 ∧ u.word 0x00060108 = BitVec.ofNat 32 (2 ^ beAt record 9 1)
          ∧ (u.word 0x00060114).toNat * 2 ^ 32 + (u.word 0x00060110).toNat = beAt record 0 8 ∧ u.mem = s.mem ∧ u.threads = s.threads)
    ∧ (∀ e : Word32, s.field 0x00060100 23 18 ≠ 0 → (s.fstate = 4 ∨ s.front.restarted = true) →
        gives (.mgmtFrontSetEpoch h e) 12 0 [] { taken i 12 s with front := { s.front with written := some e.toNat } })
    ∧ (∀ e : Word32, s.field 0x00060100 23 18 = 0 ∨ (s.fstate ≠ 4 ∧ s.front.restarted = false) → gives (.mgmtFrontSetEpoch h e) 12 1 [] (taken i 12 s))
    ∧ (s.field 0x00060100 23 18 ≠ 0 → s.txs = [] → s.net.sessions.Pairwise (fun x y => x.1 < y.1) →
        ∃ u, Sys2Proof.Machine.exec (.mgmtFrontDissolve h) s = .next u ∧ u.front = {} ∧ u.fstate = 0 ∧ u.field 0x00060100 23 18 = 0 ∧ u.epoch = 0
          ∧ (∀ j, (s.sess j).kind = 1 → (s.sess j).state = .opened → (u.sess j).state = .closing)
          ∧ (∀ j, (s.sess j).kind = 0 → (s.sess j).state = .suspended → (u.sess j).state = .opened) ∧ u.mem = s.mem ∧ u.threads = s.threads)

/-- Ownership, delegations, minimum versions, life-cycle transitions, debug, entropy and keys. A transfer writes the next owner slot,
revokes the one before, drops delegations, models and every other session, and raises SEC_TRANSFER; a delegation is held among at most 16; a
minimum version only rises, to the version in use; RETURN and SCRAP wipe before they blow their groups and reset; a record that does not
verify is counted and changes nothing; entropy that fails refuses OPENs until a retest passes; a bad key entry releases its session. Clauses
that rest on a choice of the model: log entries 9, 100 to 106. -/
def Obligations.Security : Prop :=
  (∀ (h : Word32) (i : Nat) (s : State), Admin h i s →
    let gives (c : Instr) (op status : Nat) (data : List Byte) (x : State) : Prop :=
      Sys2Proof.Machine.exec c s = .next (settle (sendReply i op status data x))
    let f := s.sec.fuses
    let note (code : Nat) (x : State) : State := { x with ev := s.ev.record { code := code } s.clk.half (s.field 0x000C0014 15 0) }
    (∀ pub, pub.length = 133 → (currentOwner s).isSome = true → f.owners.length < 4 → s.net.sessions = [(i, s.sess i)] → s.txs = [] →
        ∃ u, Sys2Proof.Machine.exec (.mgmtTransferOwnership h pub true) s = .next u
          ∧ u.sec.fuses.owners.length = f.owners.length + 1 ∧ currentOwner u = some f.owners.length ∧ ownerHash u = Config.sha512 pub
          ∧ (∀ k o, k < f.owners.length → u.sec.fuses.owners[k]? = some o → o.revoked = true) ∧ u.sec.delegs = [] ∧ u.bat.model = none
          ∧ (u.sess i).state = .free ∧ u.sec.fuses.groups = f.groups ∧ u.mem = s.mem
          ∧ u.ev = s.ev.record { code := 0x0A04 } s.clk.half (s.field 0x000C0014 15 0))
    ∧ (∀ pub, gives (.mgmtTransferOwnership h pub false) 13 1 [] (taken i 13 s))
    ∧ (∀ o, signedCheck s o (· == 1) 0 = none → delegShaped o = true → (s.sec.delegs.filter (fun d => d.id != (delegOf o).id)).length < 16 →
        gives (.mgmtInstallDelegation h o) 13 0 [] (note 0x0A07 { taken i 13 s with sec := { s.sec with
          delegs := s.sec.delegs.filter (fun d => d.id != (delegOf o).id) ++ [delegOf o] } }))
    ∧ (∀ o n, signedCheck s o (· == 1) 0 = some n → gives (.mgmtInstallDelegation h o) 13 1 (beBytes 1 n) (bump 0x00010060 1 (taken i 13 s)))
    ∧ (∀ id : Word32, (∃ d ∈ s.sec.delegs, d.id = id.toNat) →
        gives (.mgmtRevokeDelegation h id) 13 0 [] (note 0x0A07 { taken i 13 s with sec := { s.sec with
          delegs := s.sec.delegs.filter (fun d => d.id != id.toNat) } }))
    ∧ (∀ id : Word32, (∀ d ∈ s.sec.delegs, d.id ≠ id.toNat) → gives (.mgmtRevokeDelegation h id) 13 1 [] (taken i 13 s))
    ∧ (∀ v, v = (s.word 0x00010014).toNat → v ≤ 128 →
        (f.fwMin < v → gives (.mgmtRaiseFwMinSvn h) 14 0 [] (note 0x0A08 { taken i 14 s with sec := { s.sec with fuses := { f with fwMin := v } } }))
        ∧ (v ≤ f.fwMin → gives (.mgmtRaiseFwMinSvn h) 14 0 [] (taken i 14 s)))
    ∧ (∀ v, ((s.programs.filter (fun p => !p.firmware)).map Program.svn).min? = some v → f.svcMin < v → v ≤ 128 →
        gives (.mgmtRaiseSvcMinSvn h) 14 0 [] (note 0x0A08 { taken i 14 s with sec := { s.sec with fuses := { f with svcMin := v } } }))
    ∧ (∀ m, s.bat.model = some m → f.pkgMin < m.2.1 → m.2.1 ≤ 128 →
        gives (.mgmtRaisePkgMinSvn h) 14 0 [] (note 0x0A08 { taken i 14 s with sec := { s.sec with fuses := { f with pkgMin := m.2.1 } } }))
    ∧ (s.bat.model = none → gives (.mgmtRaisePkgMinSvn h) 14 1 [] (taken i 14 s))
    ∧ (∀ o, unlockCheck s o = none → beAt (sigMessage o.bytes) 12 1 = 0xF0 →
        gives (.mgmtUnlockRecord h o) 15 0 [] { taken i 15 s with sec := { s.sec with fuses :=
          { f with revoke := f.revoke ||| BitVec.ofNat 8 (2 ^ beAt (sigMessage o.bytes) 13 1) } } })
    ∧ (∀ o, unlockCheck s o = none → beAt (sigMessage o.bytes) 12 1 = 3 → beAt (sigMessage o.bytes) 16 64 ≠ ownerHash s →
        gives (.mgmtUnlockRecord h o) 15 1 [] (note 0x0A06 (taken i 15 s)))
    ∧ (f.groups = 2 →
        (∃ u, Sys2Proof.Machine.exec (.mgmtScrap h) s = .next u ∧ u.sec.fuses.groups = 4 ∧ u.sec.fuses.secretA = 3 ∧ u.sec.fuses.secretB = 3
          ∧ u.sec.fuses.owners.length = f.owners.length ∧ (∀ o ∈ u.sec.fuses.owners, o.revoked = true) ∧ u.threads = [] ∧ u.bat.model = none
          ∧ u.arr.regions = [] ∧ u.field 0x00000100 27 24 = 9)
        ∧ (∀ o, unlockCheck s o = none → beAt (sigMessage o.bytes) 12 1 = 3 → beAt (sigMessage o.bytes) 16 64 = ownerHash s →
          ∃ u, Sys2Proof.Machine.exec (.mgmtUnlockRecord h o) s = .next u ∧ u.sec.fuses.groups = 3 ∧ (∀ o ∈ u.sec.fuses.owners, o.revoked = true)
            ∧ u.threads = [] ∧ u.bat.model = none ∧ u.arr.regions = [] ∧ u.field 0x00000100 27 24 = 9))
    ∧ (f.groups ≠ 2 → gives (.mgmtScrap h) 15 1 [] (note 0x0A06 (taken i 15 s)))
    ∧ gives (.mgmtReadIdentityCert h) 15 0 Config.identityCert (taken i 15 s))
  ∧ (∀ (o : SignedObj) (s : State),
      let lc := s.sec.fuses.groups
      let target := beAt (sigMessage o.bytes) 12 1
      let note (code : Nat) (x : State) : State := { x with ev := s.ev.record { code := code } s.clk.half (s.field 0x000C0014 15 0) }
      let both (x : State) : Prop := Sys2Proof.Machine.exec (.mailboxUnlockRecord o) s = .next (settle x)
        ∧ Sys2Proof.Machine.exec (.mailboxDebugToken o) s = .next (settle x)
      (lc = 2 ∨ 4 ≤ lc → both s)
      ∧ (lc ∈ [0, 1, 3] → ∀ n, n ≤ 5 → unlockCheck s o = some n → both (note 0x0A06 (bump 0x00010060 1 s)))
      ∧ (lc ∈ [0, 1, 3] → unlockCheck s o = some 6 → both (note 0x0A06 s))
      ∧ (lc ∈ [0, 3] → unlockCheck s o = none → target = 0xFF → both (note 0x0A0A { s with sec := { s.sec with debug := true } }))
      ∧ (lc ∈ [0, 1, 3] → unlockCheck s o = none → target = 0xF0 → both { s with sec := { s.sec with fuses :=
          { s.sec.fuses with revoke := s.sec.fuses.revoke ||| BitVec.ofNat 8 (2 ^ beAt (sigMessage o.bytes) 13 1) } } })
      ∧ (lc = 1 → unlockCheck s o = none → target ∈ [1, 4, 0xFF] → both (note 0x0A06 s))
      ∧ (lc = 1 → unlockCheck s o = none → target = 3 →
          ∃ u, both u ∧ u.sec.fuses.groups = 3 ∧ u.threads = [] ∧ u.field 0x00000100 27 24 = 9))
  ∧ (∀ s : State,
      Sys2Proof.Machine.exec .entropyTestFail s = .next (settle { s with sec := { s.sec with entropyBad := true, entropyAt := s.now }
                                                                         ev := s.ev.record { code := 0x0A0B } s.clk.half (s.field 0x000C0014 15 0) })
      ∧ (s.sec.entropyBad = true →
          let t := Nat.max s.now (s.sec.entropyAt + 100 * msHalves)
          Sys2Proof.Machine.exec (.entropyRetest true) s = .next (settle
              { s with clk := { s.clk with half := t }, sec := { s.sec with entropyBad := false } })
          ∧ Sys2Proof.Machine.exec (.entropyRetest false) s = .next (settle
              { s with clk := { s.clk with half := t }, sec := { s.sec with entropyAt := t }
                       ev := s.ev.record { code := 0x0A0B } t (s.field 0x000C0014 15 0) }))
      ∧ (s.sec.entropyBad = false → ∀ ok, Sys2Proof.Machine.exec (.entropyRetest ok) s = .next (settle s))
      ∧ (∀ i, (s.sess i).state ≠ .free → (s.sess i).keyed = true → s.txs = [] →
          ∃ u, Sys2Proof.Machine.exec (.keyEntryError i) s = .next u ∧ (u.sess i).state = .free ∧ (∀ j, j ≠ i → u.sess j = s.sess j)
            ∧ u.net.ctl = s.net.ctl ∧ u.net.wire = s.net.wire ∧ u.mem = s.mem ∧ u.threads = s.threads
            ∧ u.ev = s.ev.record (atSession 0x0A0C (s.handle i) 0 0) s.clk.half (s.field 0x000C0014 15 0)))

/-- Frames, heartbeats and losses. A frame of another epoch is dropped and counted, one of a lower ATTEMPT is discarded, and a frame's rows
stand by token and vector, those of a RESULT frame in its destination too, whose stream ends with its last tile; a heartbeat is sent, and
one received clears a suspicion within 5 ms; a silent member is suspected after its 300 µs and lost after its 5 ms, with their events; a
part that is less than half, or half without the lowest rank, suspends. Clauses that rest on a choice of the model: log entries 111, 135. -/
def Obligations.FrontHeartbeats : Prop :=
  (∀ (f : FusedFrame) (s : State), bit s.front.members f.srcRank = true → look 0 s.front.suspectAt f.srcRank = 0 →
      let hd : State := { s with front := { s.front with heard := put 0 s.front.heard f.srcRank s.now } }
      (f.epoch ≠ s.epoch → Sys2Proof.Machine.exec (.fusedFrameReceive f) s = .next (settle (bump 0x0006011C 1 hd)))
      ∧ (f.epoch = s.epoch → (∀ x ∈ s.arr.streams, x.stream ≠ f.stream) → (f.kind = 1 → Config.resultPlan s.modelRoot f.stream.toNat = none) →
          ∃ u x, Sys2Proof.Machine.exec (.fusedFrameReceive f) s = .next u ∧ u.arr.streams = s.arr.streams ++ [x] ∧ x.stream = f.stream
            ∧ x.attempt = f.attempt ∧ u.csr = s.csr ∧ u.mem = s.mem ∧ u.threads = s.threads
            ∧ ∀ j, j < f.ntile → ∃ rows, (f.token0, f.vec0 + j, f.rowMask, rows) ∈ x.tiles
                ∧ ∀ r, r < 32 → f.rowMask.getLsbD r = true → nthD [] rows r = nthD [] (nthD [] f.tiles j) r)
      ∧ (∀ t slot n d, f.epoch = s.epoch → (∀ x ∈ s.arr.streams, x.stream ≠ f.stream) → f.kind = 1 →
          Config.resultPlan s.modelRoot f.stream.toNat = some (t, slot, n) → (s.thr t).desc slot = some d → d.wr = true → d.etype.code = f.etype →
          ∃ u, Sys2Proof.Machine.exec (.fusedFrameReceive f) s = .next u ∧ u.threads = s.threads ∧ u.tags = s.tags ∧ u.net = s.net
            ∧ (∀ b, u.mem.read b = (s.mem.write (resultWrites f d)).read b)
            ∧ (n ≤ f.ntile → u.arr.streams = s.arr.streams) ∧ (f.ntile < n → ∃ x, u.arr.streams = s.arr.streams ++ [x] ∧ x.tiles.length = f.ntile))
      ∧ (f.epoch = s.epoch → ∀ x, s.arr.streams = [x] → x.stream = f.stream → f.attempt < x.attempt →
          (∀ t slot n, f.kind = 1 → Config.resultPlan s.modelRoot f.stream.toNat = some (t, slot, n) → x.tiles.length < n) →
          Sys2Proof.Machine.exec (.fusedFrameReceive f) s = .next (settle hd)))
  ∧ (∀ (rank : Fin 32) (i : Nat) (s : State), peerSlot s rank.val = some i → (s.sess i).state = .opened → (s.sess i).txNext < 0xFFFFFF00 →
      1280 ≤ (s.sess i).pmtu →
      ∃ u d, Sys2Proof.Machine.exec (.heartbeatSend rank) s = .next u ∧ (u.sess i).out = (s.sess i).out ++ [d] ∧ d.typ = 7
        ∧ beAt d.payload 0 4 = 0xFFFFFFFF ∧ beAt d.payload 4 1 = 1 ∧ leAt d.payload 8 4 = s.epoch
        ∧ u.now = Nat.max s.now (look 0 s.front.sent rank.val + 100 * usHalves) ∧ look 0 u.front.sent rank.val = u.now
        ∧ (∀ j, j ≠ i → u.sess j = s.sess j) ∧ u.mem = s.mem ∧ u.threads = s.threads)
  ∧ (∀ (m : FrontMsg) (s : State), s.fstate = 2 → s.front.restarted = false → bit s.front.members m.rank = true → m.rank < 32 →
      let t := look 0 s.front.suspectAt m.rank
      let live := bit (s.word 0x00060108).toNat m.rank
      ∃ u, Sys2Proof.Machine.exec (.heartbeat m) s = .next u ∧ look 0 u.front.heard m.rank = s.now ∧ u.fstate = 2 ∧ u.front.members = s.front.members
        ∧ (t = 0 ∨ t + 5 * msHalves < s.now → u.csr = s.csr ∧ u.front.suspectAt = s.front.suspectAt)
        ∧ (t ≠ 0 → s.now ≤ t + 5 * msHalves → live = true → look 0 u.front.suspectAt m.rank = 0 ∧ bit (u.word 0x0006010C).toNat m.rank = false)
        ∧ u.mem = s.mem ∧ u.threads = s.threads ∧ u.net = s.net)
  ∧ (∀ (rank : Fin 32) (s : State), watched s rank.val = true →
      let r := rank.val
      (look 0 s.front.suspectAt r = 0 →
        ∃ u, Sys2Proof.Machine.exec (.peerSuspectTimeout rank) s = .next u ∧ u.now = Nat.max s.now (look 0 s.front.heard r + 300 * usHalves)
          ∧ bit (u.word 0x0006010C).toNat r = true ∧ look 0 u.front.suspectAt r = u.now ∧ (∀ a, a ≠ 0x0006010C → u.word a = s.word a)
          ∧ u.ev = s.ev.record ⟨0x0901, 0, 0, 6, r, 0⟩ u.now (s.field 0x000C0014 15 0) ∧ u.mem = s.mem ∧ u.threads = s.threads ∧ u.net = s.net)
      ∧ (look 0 s.front.suspectAt r ≠ 0 → s.fstate ∉ [2, 3] →
          ∃ u, Sys2Proof.Machine.exec (.peerLostTimeout rank) s = .next u ∧ u.now = Nat.max s.now (look 0 s.front.suspectAt r + 5 * msHalves)
            ∧ bit (u.word 0x00060108).toNat r = false ∧ look 0 u.front.suspectAt r = 0 ∧ (∀ a, a ≠ 0x00060108 → u.word a = s.word a)
            ∧ u.ev = s.ev.record ⟨0x0902, 0, 0, 6, r, 0⟩ u.now (s.field 0x000C0014 15 0))
      ∧ (look 0 s.front.suspectAt r ≠ 0 → s.fstate = 2 →
          mayContinue s.front.members (sumOf ((ranksOf s.front.members).map (fun k =>
            if k = s.myRank ∨ (bit (s.word 0x00060108).toNat k = true ∧ k ≠ r) then 2 ^ k else 0))) = false →
          ∃ u, Sys2Proof.Machine.exec (.peerLostTimeout rank) s = .next u ∧ u.fstate = 4 ∧ u.bat.step = none ∧ u.front.proposal = none
            ∧ u.ev.alert.getLsbD 9 = true))
  ∧ (∀ members part : Nat,
      (2 * rankCount part < rankCount members → mayContinue members part = false)
      ∧ (rankCount members < 2 * rankCount part → mayContinue members part = true)
      ∧ (rankCount members = 2 * rankCount part → 0 < rankCount members →
          (mayContinue members part = true ↔ ∀ r, (ranksOf members).head? = some r → bit part r = true)))

/-- Agreement and membership. A proposal that follows the epoch, holds this member and reaches only live ranks is accepted; the
coordinator's proposal commits when every rank has accepted, and a commit accepted before is adopted: epoch, membership, FSTATE active and
the count of epochs; a member excluded suspends; an acceptance times out after 2 ms; a REJOIN of another epoch is refused; a peer is opened
again after 100 ms; the lead's step is formed; formation times out after 60 s; an adopted share becomes resident. Clauses that rest on a
choice of the model: log entries 87 to 89, 108, 109, 158. -/
def Obligations.FrontAgreement : Prop :=
  (∀ (m : FrontMsg) (s : State), bit s.front.members m.rank = true → look 0 s.front.suspectAt m.rank = 0 →
      let hd : State := { s with front := { s.front with heard := put 0 s.front.heard m.rank s.now } }
      let set := m.set.toNat
      let adopted (e : Nat) (u : State) : Prop := u.epoch = e % 2 ^ 32 ∧ u.front.members = set ∧ u.word 0x00060108 = m.set ∧ u.fstate = 2
        ∧ u.front.accepted = none ∧ u.front.proposal = none ∧ u.word 0x00060118 = s.word 0x00060118 + 1
      (s.fstate = 2 → s.front.restarted = false → m.newEpoch = s.epoch + 1 → bit set s.myRank = true →
          (∀ r, r < 32 → bit set r = true → r = s.myRank ∨ bit (s.word 0x00060108).toNat r = true) → s.front.accepted = none →
          mayContinue s.front.members set = true →
          ∃ u, Sys2Proof.Machine.exec (.propose m) s = .next u ∧ u.fstate = 3 ∧ u.front = { hd.front with accepted := some (m.newEpoch, set, s.now) }
            ∧ u.threads = s.threads
            ∧ ∀ i, peerSlot s m.rank = some i → (s.sess i).state = .opened → (s.sess i).txNext < 0xFFFFFF00 → 1280 ≤ (s.sess i).pmtu →
                ∃ d ∈ (u.sess i).out, d.typ = 7 ∧ beAt d.payload 4 1 = 3 ∧ leAt d.payload 20 4 = m.newEpoch % 2 ^ 32)
      ∧ (s.fstate = 2 → m.newEpoch ≠ s.epoch + 1 → s.front.restarted = false → Sys2Proof.Machine.exec (.propose m) s = .next (settle hd))
      ∧ (∀ e acc, s.front.proposal = some (e, set, acc) → m.newEpoch = e → bit set m.rank = true →
          (∀ r, r < 32 → bit set r = true → r ≠ m.rank → bit acc r = true) → s.front.rejoins = [] →
          ∃ u, Sys2Proof.Machine.exec (.frontAccept m) s = .next u ∧ adopted e u)
      ∧ (∀ e acc r, s.front.proposal = some (e, set, acc) → m.newEpoch = e → bit set m.rank = true → r < 32 → bit set r = true → r ≠ m.rank →
          bit acc r = false → Sys2Proof.Machine.exec (.frontAccept m) s = .next (settle
            { hd with front := { hd.front with proposal := some (e, set, withRank acc m.rank) } }))
      ∧ (∀ t, s.front.accepted = some (m.newEpoch, set, t) → bit set s.myRank = true →
          ∃ u, Sys2Proof.Machine.exec (.commit m) s = .next u ∧ adopted m.newEpoch u)
      ∧ (bit set s.myRank = true → s.front.accepted = none → Sys2Proof.Machine.exec (.commit m) s = .next (settle hd))
      ∧ (bit set s.myRank = false → s.epoch < m.newEpoch → s.fstate = 2 →
          ∃ u, Sys2Proof.Machine.exec (.commit m) s = .next u ∧ u.fstate = 4 ∧ u.front.excluded = some set ∧ u.bat.step = none
            ∧ u.ev.alert.getLsbD 9 = true)
      ∧ (s.lead = some s.myRank → s.fstate = 2 ∨ s.fstate = 3 →
          (m.newEpoch ≠ s.epoch → Sys2Proof.Machine.exec (.rejoin m) s = .next (settle
              { hd with ev := s.ev.record ⟨0x0905, 1, 0, 6, m.rank, 0⟩ s.clk.half (s.field 0x000C0014 15 0) }))
          ∧ (m.newEpoch = s.epoch → s.fstate = 3 → ∃ u, Sys2Proof.Machine.exec (.rejoin m) s = .next u ∧ (s.ao, m.rank) ∈ u.front.rejoins
              ∧ (∀ e ∈ s.front.rejoins, e ∈ u.front.rejoins) ∧ u.fstate = 3 ∧ u.net = s.net))
      ∧ (s.fstate = 2 → m.epoch = s.epoch → s.lead = some m.rank → m.rank ≠ s.myRank → s.front.stepNo < m.stepNo →
          ∃ u st, Sys2Proof.Machine.exec (.step m) s = .next u ∧ u.front.stepNo = m.stepNo ∧ u.bat.step = some st ∧ st.number = m.stepNo
            ∧ st.sessions = m.batch.filterMap (fun e => (s.live? e.1.toNat).bind (fun i => if (s.sess i).kind = 0 then some (i, e.2) else none)))
      ∧ (s.fstate = 2 → m.epoch ≠ s.epoch → Sys2Proof.Machine.exec (.step m) s = .next (settle hd)))
  ∧ (∀ (s : State) (e set t : Nat), s.front.accepted = some (e, set, t) →
      (s.fstate = 3 → ∃ u, Sys2Proof.Machine.exec .commitTimeout s = .next u ∧ u.fstate = 4 ∧ u.now = Nat.max s.now (t + 2 * msHalves) ∧ u.bat.step = none)
      ∧ (s.fstate ≠ 3 → Sys2Proof.Machine.exec .commitTimeout s = .next (settle { s with
          clk := { s.clk with half := Nat.max s.now (t + 2 * msHalves) }, front := { s.front with accepted := none, proposal := none } })))
  ∧ (∀ (rank : Fin 32) (s : State) (en : FrontEntry) (i : Nat), s.fstate = 1 → s.myRank < rank.val → rank.val < s.frontSize →
      peerSlot s rank.val = none → s.front.entries[rank.val]? = some en →
      let t := Nat.max s.now (look 0 s.front.openedAt rank.val + 100 * msHalves)
      freeSlot { s with clk := { s.clk with half := t } } = some i →
      ∃ u p, Sys2Proof.Machine.exec (.rejoinOpenRetry rank) s = .next u ∧ u.now = t ∧ (u.sess i).state = .handshake ∧ (u.sess i).opener = true
        ∧ (u.sess i).kind = 1 ∧ (u.sess i).rank = rank.val ∧ (u.sess i).addr = en.addr ∧ look 0 u.front.openedAt rank.val = t
        ∧ u.net.ctl = s.net.ctl ++ [p] ∧ p.typ = 1 ∧ p.addr = en.addr ∧ p.port = en.port ∧ (∀ j, j ≠ i → u.sess j = s.sess j))
  ∧ (∀ s : State, s.fstate = 1 →
      let t := Nat.max s.now (s.front.configuredAt + 60 * sHalves)
      Sys2Proof.Machine.exec .formationTimeout s = .next (settle { s with clk := { s.clk with half := t }
                                                                          ev := s.ev.record { code := 0x0908 } t (s.field 0x000C0014 15 0) }))
  ∧ (∀ (share : Fin 32) (s : State) (a : Adoption), s.front.adoptions.find? (fun x => x.share == share.val) = some a →
      (a.back = true → ∃ u, Sys2Proof.Machine.exec (.adoptionDone share) s = .next u ∧ (∀ b ∈ u.front.adoptions, b.share = share.val → b.home = true)
          ∧ { u with front := { u.front with adoptions := s.front.adoptions }, pins := s.pins } = s)
      ∧ (a.back = false → a.done = false → a.fits = true →
          ∃ u, Sys2Proof.Machine.exec (.adoptionDone share) s = .next u ∧ (∀ b ∈ u.front.adoptions, b.share = share.val → b.done = true)
            ∧ { u with front := { u.front with adoptions := s.front.adoptions }, ev := s.ev, pins := s.pins } = s
            ∧ u.ev = if a.by_ = s.myRank then s.ev.record ⟨0x0906, 0, 0, 6, share.val, 0⟩ s.clk.half (s.field 0x000C0014 15 0) else s.ev)
      ∧ (a.back = false → a.done = true ∨ a.fits = false → Sys2Proof.Machine.exec (.adoptionDone share) s = .next (settle s)))

/-- Caps, telemetry and the Lull. A cap write is clamped and takes effect at the next reading; a reading is kept, its energy counted and the
means of 1 s shown; the Lull moves by the excess over the target in units of LULL_STEP_W, rounded up, between 0 and 56, and follows a higher
pace; at 56 for 1 ms over target the limit state holds. Clauses that rest on a choice of the model: log entries 42, 123. -/
def Obligations.CapsAndLull : Prop :=
  (∀ (v : Word32) (s : State), s.boot.powered = true →
      let written (a : Nat) (c : Instr) : Prop := ∃ u, Sys2Proof.Machine.exec c s = .next u ∧ u.pow = { s.pow with capDue := true }
        ∧ u.field a 31 22 = Nat.min 900 (Nat.max 300 (bits v.toNat 31 22)) ∧ u.field a 21 12 = Nat.min 850 (Nat.max 300 (bits v.toNat 21 12))
        ∧ u.field a 11 0 = s.field a 11 0 ∧ (∀ b, b ≠ a → u.word b = s.word b) ∧ { u with csr := s.csr, pow := s.pow, pins := s.pins } = s
      written 0x00020000 (.capOwnWrite v) ∧ written 0x00020004 (.capBoardWrite v))
  ∧ (∀ (mw : Nat) (s : State), s.boot.powered = true →
      let dt := if s.estimated then 2 else 20
      let last := match s.pow.samples.head? with
        | some x => x.2.2
        | none => 0
      let energy (x : State) : Nat := ((x.word 0x0002001C).toNat * 2 ^ 32 + (x.word 0x00020018).toNat) * 10 ^ 9 + x.pow.energyNano
      let own := Nat.min (s.field 0x00020000 31 22) (s.field 0x00020004 31 22)
      let cw := if s.test.phase = 0 then own else Nat.min 600 own
      ∃ u, Sys2Proof.Machine.exec (.telemetrySample mw) s = .next u ∧ u.now = Nat.max s.now (last + dt * usHalves)
        ∧ u.pow.samples.head? = some (mw, dt, u.now) ∧ u.mem = s.mem ∧ u.threads = s.threads ∧ u.net = s.net
        ∧ energy u % (2 ^ 64 * 10 ^ 9) = (energy s + mw * dt) % (2 ^ 64 * 10 ^ 9)
        ∧ u.field 0x00020014 15 0 = meanWatts u sHalves % 65536 ∧ u.field 0x00020014 31 31 = (if s.estimated then 1 else 0)
        ∧ (s.pow.capDue = true → u.pow.capDue = false ∧ u.field 0x00020008 31 22 = cw
            ∧ u.field 0x00020008 21 12 = Nat.min cw (Nat.min (s.field 0x00020000 21 12) (s.field 0x00020004 21 12)))
        ∧ (s.pow.capDue = false → u.word 0x00020008 = s.word 0x00020008 ∧ u.ev = s.ev))
  ∧ (∀ s : State, s.boot.powered = true →
      let r : State := { s with clk := { s.clk with half := Nat.max s.now (s.pow.lullAt + 50 * usHalves) } }
      let own := (Max.max 0 (Min.min 56 ((s.field 0x00020008 11 6 : Int) + lullStep r))).toNat
      let fix := s.field 0x0002000C 30 25
      let pace := s.field 0x0002000C 31 31 = 1
      ∃ u, Sys2Proof.Machine.exec .lullUpdate s = .next u ∧ u.now = r.now ∧ u.pow.lullAt = r.now
        ∧ u.field 0x00020008 11 6 = (if pace then Nat.max fix own else own) ∧ u.field 0x00020008 31 12 = s.field 0x00020008 31 12
        ∧ u.ev = (if pace ∧ fix < own then s.ev.record { code := 0x0B03 } r.now (s.field 0x000C0014 15 0) else s.ev)
        ∧ u.mem = s.mem ∧ u.threads = s.threads)
  ∧ (∀ s : State, 0 < s.field 0x0002000C 24 20 →
      let x := lullExcess s
      let unit : Int := (x.2 * (s.field 0x0002000C 24 20 * 1000) : Nat)
      (lullStep s - 1) * unit < x.1 ∧ x.1 ≤ lullStep s * unit)
  ∧ (∀ (s : State) (t : Nat), s.pow.maxSince = some t → s.pow.limit = false →
      let now := Nat.max s.now (t + msHalves)
      Sys2Proof.Machine.exec .lullAtMax s = .next (settle { s with clk := { s.clk with half := now }, pow := { s.pow with limit := true }
                                                                   ev := s.ev.record { code := 0x0B02 } now (s.field 0x000C0014 15 0) }))

/-- Power states. A request of Calm from Gale moves to Calm, of Frost goes through Calm, and one that comes during a transition waits; I3C
may not ask; an idle stack goes to Breeze with its idle banks in RETENTION, and the sixteenth takes the module to Breeze; CALM_AFTER and
FROST_AFTER begin their transitions at their times; ready work wakes the module unless the request is Calm or Frost; a transition ends in
its state with POW_STATE. Clauses that rest on a choice of the model: log entries 68, 70. -/
def Obligations.PowerStates : Prop :=
  ∀ s : State, s.boot.powered = true → s.boot.railsGood = true →
    let moves (c : Instr) (t : PowerTarget) (next : Option PowerTarget) : Prop :=
      ∃ u, Sys2Proof.Machine.exec c s = .next u ∧ u.pow.moving = some t ∧ u.pow.next = next ∧ u.field 0x00020024 25 25 = 1 ∧ u.powState = s.powState
        ∧ u.mem = s.mem ∧ u.threads = s.threads
    let waits (c : Instr) (next : Option PowerTarget) : Prop :=
      ∃ u, Sys2Proof.Machine.exec c s = .next u ∧ u.pow = { s.pow with next := next } ∧ u.powState = s.powState ∧ u.mem = s.mem
    (∀ req, ∃ u, Sys2Proof.Machine.exec (.stateReqWrite .i3c req) s = .next u ∧ { u with csr := s.csr, pins := s.pins } = s
        ∧ ∀ a, u.word a = if a = 0x000C0018 then s.word a + 1 else s.word a)
    ∧ (∀ i, i ≠ .i3c →
        (∀ req : BitVec 3, 4 ≤ req.toNat → Sys2Proof.Machine.exec (.stateReqWrite i req) s = .next (settle s))
        ∧ (∃ u, Sys2Proof.Machine.exec (.stateReqWrite i 0) s = .next u ∧ { u with csr := s.csr, pins := s.pins } = s ∧ u.field 0x00020024 31 29 = 0)
        ∧ (s.pow.moving = none → s.powState = 0 → moves (.stateReqWrite i 2) .calm s.pow.next ∧ moves (.stateReqWrite i 3) .calm (some .frost))
        ∧ (s.pow.moving = none → s.powState = 2 → s.pow.refclk = true → moves (.stateReqWrite i 1) .gale s.pow.next)
        ∧ (s.pow.moving = none → s.powState = 3 → moves (.stateReqWrite i 2) .gale (some .calm))
        ∧ (s.pow.moving = some .calm → waits (.stateReqWrite i 1) (some .gale) ∧ waits (.stateReqWrite i 2) none))
    ∧ (s.field 0x00020024 31 29 < 2 → s.pow.moving = none → s.powState = 2 → s.pow.refclk = true → moves .wakeToGale .gale s.pow.next)
    ∧ (2 ≤ s.field 0x00020024 31 29 → Sys2Proof.Machine.exec .wakeToGale s = .next (settle s))
    ∧ (automatic s = true → s.isReady = true → s.powState ≤ 1 → workless s = true → s.field 0x00020028 31 16 ≠ 0 →
        moves .calmAfterExpiry .calm s.pow.next
        ∧ ∀ u, Sys2Proof.Machine.exec .calmAfterExpiry s = .next u → u.now = Nat.max s.now (s.pow.idleAt + s.field 0x00020028 31 16 * msHalves))
    ∧ (automatic s = true → s.powState = 2 → s.field 0x00020028 15 0 ≠ 0 → imageSize s ≤ s.mem.stageCur * 2 ^ 30 →
        moves .frostAfterExpiry .frost s.pow.next
        ∧ ∀ u, Sys2Proof.Machine.exec .frostAfterExpiry s = .next u → u.now = Nat.max s.now (s.pow.calmAt + s.field 0x00020028 15 0 * sHalves))
    ∧ (∀ die : Fin 17, die.val < 16 → s.powState ≤ 1 → s.pow.moving = none → die.val ∉ s.pow.breeze → s.arr.sweeps.order = [] → s.test.slice = none →
        (∀ k, k < 8 → (s.thr ((4 + die.val) * 8 + k)).state ≠ .ready) →
        ∃ u, Sys2Proof.Machine.exec (.breezeIdle die) s = .next u ∧ u.pow.breeze = s.pow.breeze ++ [die.val] ∧ u.threads = s.threads
          ∧ (∀ j, j < 16 → (look {} u.mem.banks (8 + 16 * die.val + j)).current =
              if (look {} s.mem.banks (8 + 16 * die.val + j)).current = .on ∧ (look {} s.mem.banks (8 + 16 * die.val + j)).moving = none then .retention
              else (look {} s.mem.banks (8 + 16 * die.val + j)).current)
          ∧ (∀ b, b < 8 + 16 * die.val ∨ 24 + 16 * die.val ≤ b → look {} u.mem.banks b = look {} s.mem.banks b)
          ∧ (s.pow.breeze.length = 15 → u.powState = 1) ∧ (s.pow.breeze.length ≠ 15 → u.powState = s.powState))
    ∧ (s.pow.moving = some .calm → s.pow.next = none → s.powState ≠ 2 → s.arr.sweeps.order = [] →
        ∃ u, Sys2Proof.Machine.exec .powerTransitionDone s = .next u ∧ u.powState = 2 ∧ u.pow.moving = none ∧ u.field 0x00020024 25 25 = 0
          ∧ u.pow.calmAt = s.now ∧ u.ev = s.ev.record { code := 0x0B08 } s.clk.half (s.field 0x000C0014 15 0) ∧ u.threads = s.threads ∧ u.mem = s.mem)
    ∧ (s.pow.moving = some .frost → s.pow.next = none →
        ∃ u, Sys2Proof.Machine.exec .powerTransitionDone s = .next u ∧ u.powState = 3 ∧ u.pow.moving = none ∧ u.boot.arrays = false
          ∧ (∀ r ∈ u.arr.regions, r.state = .loading) ∧ u.mem = s.mem)
    ∧ (s.pow.moving = some .calm → s.pow.next = some .gale →
        ∃ u, Sys2Proof.Machine.exec .powerTransitionDone s = .next u ∧ u.powState = s.powState ∧ u.pow.moving = none ∧ u.pow.next = none
          ∧ u.arr = s.arr ∧ u.ev = s.ev)

/-- Rails and clocks. An age trim rises one step at a time, no sooner than 24 h after the last, within 16 steps and 0.72 V; a rail fault
turns every rail but VAO off, and its restart comes 1 s later; the loss of the reference holds token steps and takes the link down, its
holdover ends in Calm and its return lets steps form; a droop stretches its domain's period to level 1 or 2, and each release takes one
level off after 200 ns. Clauses that rest on a choice of the model: log entries 63, 67. -/
def Obligations.RailsAndClocks : Prop :=
  (∀ (rail : Fin 33) (s : State), s.boot.railsGood = true →
      let r := rail.val
      let a := 0x00020100 + 4 * r
      let trim := s.field a 21 17
      let last := look 0 s.pow.raised r
      let t := if last = 0 then s.now else Nat.max s.now (last - 1 + 86400 * sHalves)
      (trim < 16 → (Config.railSet r).toNat + trim + 1 ≤ 288 →
        ∃ u, Sys2Proof.Machine.exec (.ageTrimCheck rail true) s = .next u ∧ u.field a 21 17 = trim + 1 ∧ (∀ b, b ≠ a → u.word b = s.word b)
          ∧ u.now = t ∧ look 0 u.pow.raised r = t + 1 ∧ u.test.health.entries = s.test.health.entries ++ [⟨6, [r, trim + 1]⟩]
          ∧ u.ev = s.ev.record ⟨0x0B06, 0, 0, 7, r, 0⟩ t (s.field 0x000C0014 15 0) ∧ u.mem = s.mem ∧ u.threads = s.threads)
      ∧ (trim = 16 ∨ 288 < (Config.railSet r).toNat + trim + 1 →
          Sys2Proof.Machine.exec (.ageTrimCheck rail true) s = .next (settle { s with clk := { s.clk with half := t }, ev := s.ev.record ⟨0x0B07, 0, 0, 7, r, 0⟩ t (s.field 0x000C0014 15 0) }))
      ∧ Sys2Proof.Machine.exec (.ageTrimCheck rail false) s = .next (settle s)
      ∧ ((recent s.now (3600 * sHalves) (look [] s.boot.recoveries 6)) = [] →
          ∃ u, Sys2Proof.Machine.exec (.railFault rail) s = .next u ∧ u.boot.railsGood = false ∧ u.boot.arrays = false ∧ u.boot.railAt = some s.now
            ∧ u.bootState = 0 ∧ u.threads = [] ∧ u.net.sessions = [] ∧ u.pins.powerGood = false ∧ u.ev.alert.getLsbD 11 = true)
      ∧ ((recent s.now (3600 * sHalves) (look [] s.boot.recoveries 6)) ≠ [] →
          ∃ u, Sys2Proof.Machine.exec (.railFault rail) s = .next u ∧ u.bootState = 10 ∧ u.boot.hold = 6 ∧ u.boot.railsGood = false
            ∧ u.pins.alertN = false ∧ u.threads = []))
  ∧ (∀ (s : State) (t : Nat) (i : FwImage), s.boot.railAt = some t → s.boot.image = some i → s.pins.resetN = true →
      ∃ u, Sys2Proof.Machine.exec .railFaultRestart s = .next u ∧ u.now = Nat.max s.now (t + sHalves) ∧ u.bootState = 2 ∧ u.boot.step = 2
        ∧ u.boot.railAt = none ∧ u.field 0x00000100 27 24 = 6 ∧ u.field 0x00000110 31 24 = Nat.min 255 (s.field 0x00000110 31 24 + 1)
        ∧ u.ev = s.ev.record { code := 0x0D07, info0 := 6 } u.now (s.field 0x000C0014 15 0))
  ∧ (∀ s : State, s.boot.railsGood = true →
      (s.pow.refclk = true → ∃ u, Sys2Proof.Machine.exec .refclkLoss s = .next u ∧ u.pow.refclk = false ∧ u.pow.lostAt = s.now ∧ u.bat.held = true
          ∧ u.linkUp = false ∧ u.field 0x00040000 31 30 = 1 ∧ u.ev.alert.getLsbD 11 = true ∧ u.net = s.net ∧ u.mem = s.mem ∧ u.threads = s.threads)
      ∧ (s.pow.refclk = false → s.field 0x00040000 30 30 = 1 → s.pow.moving = none → s.powState = 0 →
          ∃ u, Sys2Proof.Machine.exec .holdoverExpiry s = .next u ∧ u.now = Nat.max s.now (s.pow.lostAt + 100 * msHalves)
            ∧ u.word 0x00040000 = 0 ∧ u.pow.moving = some .calm ∧ u.field 0x00020024 25 25 = 1)
      ∧ (s.pow.refclk = false → ∃ u, Sys2Proof.Machine.exec .refclkReturn s = .next u ∧ u.pow = { s.pow with refclk := true }
          ∧ u.bat = { s.bat with held := false } ∧ (∀ a, u.word a = if a = 0x00040000 then 0x8003FFFF#32 else s.word a)
          ∧ { u with csr := s.csr, pow := s.pow, bat := s.bat, pins := s.pins } = s)
      ∧ (∀ d : Fin 17,
          let l := look 0 s.clk.stretch d.val
          let src (code info : Nat) : Raise := if d.val = 16 then ⟨code, info, 0, 0, 0, 0⟩ else ⟨code, info, 0, 2, d.val, 0⟩
          let stretched (c : Instr) (level a : Nat) : Prop := ∃ u, Sys2Proof.Machine.exec c s = .next u ∧ look 0 u.clk.stretch d.val = level
            ∧ (∀ e, e ≠ d.val → look 0 u.clk.stretch e = look 0 s.clk.stretch e) ∧ (∀ b, u.word b = if b = a then s.word b + 1 else s.word b)
            ∧ u.ev = s.ev.record (src 0x0B04 (s.word a + 1).toNat) s.clk.half (s.field 0x000C0014 15 0)
            ∧ u.now = s.now ∧ u.mem = s.mem ∧ u.threads = s.threads
          (l = 0 → stretched (.droopLevel1 d) 1 0x00040008)
          ∧ (l < 2 → stretched (.droopLevel2 d) 2 0x0004000C)
          ∧ (l ≠ 0 → ∃ u, Sys2Proof.Machine.exec (.droopRelease d) s = .next u ∧ look 0 u.clk.stretch d.val = l - 1 ∧ u.csr = s.csr ∧ u.ev = s.ev
              ∧ u.now = Nat.max s.now (look 0 s.pow.droopAt d.val + 760)
              ∧ (∀ e, e ≠ d.val → look 0 u.clk.stretch e = look 0 s.clk.stretch e))))

/-- Heat. Every set of readings below 115 °C is taken: readings of working sensors are kept, those out of range or far from all their
neighbours exclude their sensors, and each die shows the highest of its working sensors, in the nearest quarter degree, a midway value
rounded up. The ratio of every die is 8 times the degrees above 100 °C, from 0 to 56, at its 50 µs, and a stack keeps its Lull ratio of the
64-step frame under way, in which exactly that many steps are bubbles. A second reading of 115 °C or more from the same sensor turns every
rail but VAO off with THERM_TRIP_N low. Clauses that rest on a choice of the model: log entries 74, 123. -/
def Obligations.Heat : Prop :=
  (∀ (rs : List Reading) (s : State), s.boot.railsGood = true → (∀ r ∈ rs, quarters r.milli < 460) →
      ∃ u, Sys2Proof.Machine.exec (.tempSensorRead rs []) s = .next u ∧ u.now = Nat.max s.now (s.pow.sensedAt + 10 * usHalves) ∧ u.pow.sensedAt = u.now
        ∧ u.pow.temps = (takeReadings rs s).pow.temps ∧ u.pow.excluded = s.pow.excluded ++ newlyBad (takeReadings rs s).pow rs
        ∧ (∀ d, d < 17 → u.field (0x00030100 + 4 * d) 31 22 = toBits 10 ((dieTj u d).getD 0))
        ∧ u.boot = s.boot ∧ u.mem = s.mem ∧ u.threads = s.threads)
  ∧ (∀ (m : Int) (s : State), s.boot.railsGood = true → s.boot.arrays = true → s.pow.temps = [] → s.pow.excluded = [] → s.pow.hot = [] → s.pow.comparators = [] →
      s.arr.regions = [] → s.arr.sweeps.array = none → quarters m ≤ 420 → -512 ≤ quarters m →
      ∃ u, Sys2Proof.Machine.exec (.tempSensorRead [{ sensor := .tile 0, milli := m, inRange := true }] []) s = .next u
        ∧ look none u.pow.temps 0 = some (quarters m) ∧ (u.tile 0).temp = quarters m ∧ signed 10 (u.field 0x00030100 31 22) = quarters m
        ∧ u.pow.excluded = [] ∧ u.now = Nat.max s.now (s.pow.sensedAt + 10 * usHalves) ∧ u.ev = s.ev ∧ u.mem = s.mem ∧ u.threads = s.threads)
  ∧ (∀ m : Int, 64 * quarters m ≤ m + 32 ∧ m + 32 < 64 * quarters m + 64)
  ∧ (∀ (m : Int) (s : State), s.boot.railsGood = true → s.boot.arrays = false → s.pow.temps = [] → s.pow.excluded = [] → s.pow.hot = [] →
      ∃ u, Sys2Proof.Machine.exec (.tempSensorRead [{ sensor := .hub 0, milli := m, inRange := false }] []) s = .next u
        ∧ u.pow.excluded = [10304] ∧ u.pow.temps = [] ∧ u.field 0x00030140 15 8 = 1
        ∧ u.ev = s.ev.record ⟨0x0B0D, 0, 0, 0, 0, 0⟩ u.now (s.field 0x000C0014 15 0))
  ∧ (∀ (m : Int) (s : State), s.boot.railsGood = true → s.boot.arrays = false → s.pow.temps = [] → s.pow.excluded = [] → 10304 ∈ s.pow.hot →
      460 ≤ quarters m → quarters m < 512 →
      ∃ u, Sys2Proof.Machine.exec (.tempSensorRead [{ sensor := .hub 0, milli := m, inRange := true }] []) s = .next u
        ∧ u.boot.railsGood = false ∧ u.boot.tripHeld = true ∧ u.pins.thermTripN = false ∧ u.boot.tripAt = some u.now ∧ u.threads = []
        ∧ u.ev.alert.getLsbD 11 = true)
  ∧ (∀ s : State, s.boot.railsGood = true →
      ∃ u, Sys2Proof.Machine.exec .thermalRatioUpdate s = .next u ∧ u.now = Nat.max s.now (s.pow.thermAt + 50 * usHalves) ∧ u.pow.thermAt = u.now
        ∧ (∀ d, d < 17 → (u.field (0x00030100 + 4 * d) 21 16 : Int) =
            Max.max 0 (Min.min 56 (2 * signed 10 (s.field (0x00030100 + 4 * d) 31 22) - 800))
            ∧ u.field (0x00030100 + 4 * d) 31 22 = s.field (0x00030100 + 4 * d) 31 22)
        ∧ (∀ d, d < 16 → u.pow.lulls.find? (fun e => e.1 == d) =
            some (d, u.domainSteps d / 64, lullRatio { s with clk := u.clk } d))
        ∧ ((∀ d, d < 17 → signed 10 (s.field (0x00030100 + 4 * d) 31 22) ≤ 400) → u.ev = s.ev) ∧ u.mem = s.mem ∧ u.threads = s.threads)
  ∧ (∀ l ≤ 56, ∀ d < 16, ((List.range 64).filter (bubble l d)).length = l)

/-- Drizzle. A slice starts at its rate where its window is open and waits where it is not; a forced slice holds the issue of new sweeps
after FORCE_MS and 200 ms after the last; a slice without findings moves the rotation on, and the last of a pass counts the pass; a
converter that fails baroBad marks its pair, raises TST_CONVERTER_FAIL, logs its failure and counts the slice; a pass not complete in 6 h is
late. Clauses that rest on a choice of the model: log entries 44, 73. -/
def Obligations.Drizzle : Prop :=
  (∀ s : State, drizzleOn s = true → s.test.slice = none → s.test.groups = [] → s.test.next < passSlices → s.pow.breeze = [] →
      let t := Nat.max s.now (s.test.sliceAt + sHalves / Nat.max 1 (s.field 0x000B0000 30 24))
      (windowOpen s s.test.next = true → Sys2Proof.Machine.exec .drizzleSlice s = .next (settle { s with
          clk := { s.clk with half := t }, test := { s.test with slice := some { index := s.test.next }, waitAt := none, sliceAt := t } }))
      ∧ (windowOpen s s.test.next = false → Sys2Proof.Machine.exec .drizzleSlice s = .next (settle { s with
          clk := { s.clk with half := t }, test := { s.test with waitAt := some (s.test.waitAt.getD t) } })))
  ∧ (∀ (s : State) (x : Slice), drizzleOn s = true → s.test.slice = some x → x.paused = true → windowOpen s x.index = true → s.pow.breeze = [] →
      Sys2Proof.Machine.exec .drizzleSlice s = .next (settle { s with test := { s.test with slice := some { x with paused := false }, waitAt := none } }))
  ∧ (∀ (s : State) (t : Nat), drizzleOn s = true → s.test.holdIssue = false → s.test.waitAt = some t →
      let a := Nat.max s.now (t + s.field 0x000B0000 23 12 * msHalves)
      let n := match s.test.forcedAt with
        | some f => Nat.max a (f + 200 * msHalves)
        | none => a
      ∃ u, Sys2Proof.Machine.exec .drizzleForce s = .next u ∧ u.now = n ∧ u.test = { s.test with holdIssue := true, forcedAt := some n }
        ∧ (∀ b, u.word b = if b = 0x000B0010 then s.word b + 1 else s.word b) ∧ u.mem = s.mem ∧ u.threads = s.threads ∧ u.arr = s.arr)
  ∧ (∀ (s : State) (x : Slice), s.test.slice = some x → x.paused = false → anyUntested s = false → s.mem.untested = [] →
      (x.index + 1 < pairSlices → x.index % 5 ≠ 1 → x.index % 5 ≠ 2 →
          Sys2Proof.Machine.exec (.drizzleSliceDone []) s = .next (settle { s with boot := { s.boot with stormDue := false }, test := { s.test with slice := none, holdIssue := false, next := x.index + 1 } }))
      ∧ (x.index + 1 = passSlices → ∃ u, Sys2Proof.Machine.exec (.drizzleSliceDone []) s = .next u ∧ u.test.slice = none ∧ u.test.next = 0
          ∧ u.test.passAt = s.now ∧ u.test.passLate = false ∧ u.word 0x000B0008 = s.word 0x000B0008 + 1
          ∧ u.field 0x000B0004 23 0 = (s.now - s.test.passAt) / sHalves % 2 ^ 24 ∧ u.mem = s.mem ∧ u.threads = s.threads ∧ u.arr = s.arr)
      ∧ (∀ p : PairId, p.ok = true → x.index < pairSlices → x.index % 5 = 3 → testGroup p.tile p.pair = x.index / 5 →
          ∃ u, Sys2Proof.Machine.exec (.drizzleSliceDone [.convBaro p]) s = .next u ∧ (u.pair p.num).baroBad = true
            ∧ u.test.health.entries = s.test.health.entries ++ [⟨7, [3, p.num * 65536 + 64]⟩]
            ∧ (∀ b, u.word b = if b = 0x000B000C then s.word b + 1 else s.word b)
            ∧ u.ev = s.ev.record (atPair 0x0C02 p.num 3 64) s.clk.half (s.field 0x000C0014 15 0) ∧ u.mem = s.mem ∧ u.threads = s.threads))
  ∧ (∀ s : State, s.isReady = true → s.test.passLate = false → s.field 0x000B0000 31 31 = 1 →
      let t := Nat.max s.now (s.test.passAt + 21600 * sHalves)
      Sys2Proof.Machine.exec .drizzlePassLate s = .next (settle { s with clk := { s.clk with half := t }, test := { s.test with passLate := true }, ev := s.ev.record { code := 0x0C04 } t (s.field 0x000C0014 15 0) }))

/-- Shutdown and Downpour. The drain ends with no generation left, and the close stage turns the module off, or begins Downpour at phase 1
with its caps due and the watchdog stopped; a slice and a phase done move Downpour on; after phase 6 the record is of KIND 1 and the module
is off; a wake request or a phase that fails leaves a record of KIND 2. A record's header is 64 bytes and an entry 16. Clauses that rest on
a choice of the model: log entries 53, 72, 160. -/
def Obligations.ShutdownAndDownpour : Prop :=
  (∀ s : State, s.boot.shutdown = 1 → s.net.sessions = [] →
      (s.boot.skipDownpour = true → s.boot.restart = false →
        ∃ u, Sys2Proof.Machine.exec .drainGraceExpiry s = .next u ∧ u.bootState = 0 ∧ u.boot.railsGood = false ∧ u.boot.shutdown = 0 ∧ u.boot.step = 0
          ∧ u.threads = [] ∧ u.mem.cells = [] ∧ u.pins.powerGood = false
          ∧ u.ev = s.ev.record { code := 0x0D05 } s.clk.half (s.field 0x000C0014 15 0))
      ∧ (s.boot.skipDownpour = false →
        ∃ u, Sys2Proof.Machine.exec .drainGraceExpiry s = .next u ∧ u.boot.shutdown = 3 ∧ u.boot.wdogAt = none ∧ u.test.phase = 1 ∧ u.test.step = 0
          ∧ u.test.startedAt = s.now ∧ u.pow.capDue = true ∧ u.field 0x000B0014 31 29 = 1 ∧ u.field 0x000B0014 28 26 = 1 ∧ u.mem = s.mem ∧ u.ev = s.ev))
  ∧ (∀ s : State, s.test.phase ≠ 0 → s.test.phase ≤ 6 → s.test.step < phaseSlices s.test.phase →
      (s.test.wake = false → ∃ u, Sys2Proof.Machine.exec (.downpourSliceDone []) s = .next u ∧ u.test = { s.test with step := s.test.step + 1 }
          ∧ u.field 0x000B0014 28 26 = s.test.phase ∧ u.mem = s.mem ∧ u.ev = s.ev ∧ u.threads = s.threads)
      ∧ (s.test.wake = true → s.pins.resetN = false → ∃ u, Sys2Proof.Machine.exec (.downpourSliceDone []) s = .next u
          ∧ u.test.health.record.map (fun r => (r.kind, r.seq, r.lc)) = some (2, s.test.health.seq + 1, s.sec.fuses.groups) ∧ u.test.health.consumed = false ∧ u.bootState = 1
          ∧ u.boot.railsGood = false ∧ u.ev = s.ev.record { code := 0x0C06 } s.clk.half (s.field 0x000C0014 15 0)))
  ∧ (∀ s : State, s.test.phase ≠ 0 → s.test.phase ≤ 6 → s.test.storm = false → phaseSlices s.test.phase ≤ s.test.step →
      (s.test.phase < 6 → ∃ u, Sys2Proof.Machine.exec (.downpourPhaseDone true) s = .next u ∧ u.test = { s.test with phase := s.test.phase + 1, step := 0 }
          ∧ u.field 0x000B0014 28 26 = s.test.phase + 1 ∧ u.mem = s.mem ∧ u.ev = s.ev)
      ∧ (s.test.phase = 6 → s.boot.restart = false → ∃ u, Sys2Proof.Machine.exec (.downpourPhaseDone true) s = .next u
          ∧ u.test.health.record.map (fun r => (r.kind, r.seq, r.lc)) = some (1, s.test.health.seq + 1, s.sec.fuses.groups) ∧ u.bootState = 0 ∧ u.boot.railsGood = false
          ∧ (∀ e ∈ u.test.health.entries, e ∈ s.test.health.entries ∧ e.untested = false)))
  ∧ (∀ s : State, s.test.phase ≠ 0 → s.test.phase ≤ 6 → s.test.storm = false → s.boot.restart = false →
      ∃ u, Sys2Proof.Machine.exec (.downpourPhaseDone false) s = .next u ∧ u.test.health.record.map (fun r => (r.kind, r.seq, r.lc)) = some (2, s.test.health.seq + 1, s.sec.fuses.groups)
        ∧ u.bootState = 0 ∧ u.boot.railsGood = false ∧ u.ev.alert.getLsbD 12 = true)
  ∧ (∀ h : HealthHeader, h.bytes.length = 64) ∧ (∀ e : HEntry, e.bytes.length = 16)

/-- The nine steps of a start. Power begins step 1; a stable oscillator samples the straps and runs the ROM to an image; the image verified
twice brings the rails up; firmware starts as program 0 on thread 0 of CONDUCTOR_0; the health record, the DRAM partition, the store's
discovery, the link and the model follow, each in its BOOT_STATE, and READY with BOO_READY ends the start. Clauses that rest on a choice of
the model: log entries 2, 6, 9, 56 to 60, 151, 153, 160. -/
def Obligations.StartUp : Prop :=
  (∀ s : State, s.boot.powered = false → ∃ u, Sys2Proof.Machine.exec .powerApplied s = .next u ∧ u.boot.powered = true ∧ u.boot.step = 1
      ∧ u.mem.cells = [] ∧ u.mem.allocs = [] ∧ u.threads = [] ∧ u.programs = [] ∧ u.net.sessions = [] ∧ u.ev.ring = []
      ∧ u.sec.fuses = s.sec.fuses ∧ u.sec.nor = s.sec.nor ∧ u.store.data = s.store.data)
  ∧ (∀ (straps : BitVec 8) (v : SlotVerdict) (b : Option SlotVerdict) (ok : Bool) (failing : List Nat) (s : State), s.boot.powered = true → s.boot.step = 1 → s.boot.waiting = false →
      s.pins.resetN = true → v.sigOk = true → s.sec.fuses.fwMin ≤ v.svn → s.sec.try_ = none → s.sec.active = 0 → s.sec.fuses.groups ≤ 3 →
      (s.sec.fuses.groups = 2 → (currentOwner s).isSome = true) →
      ∃ u, Sys2Proof.Machine.exec (.aoOscStable straps (some v) b ⟨ok, failing⟩) s = .next u ∧ u.boot.straps = straps ∧ u.boot.step = 2 ∧ u.bootState = 1
        ∧ u.boot.image = some { svn := v.svn, digest := v.digest } ∧ u.sec.booted = 0 ∧ u.boot.warm = false ∧ u.boot.railsGood = false
        ∧ u.test.health.record = (if ok then s.test.health.record else none) ∧ u.test.health.seq = s.test.health.seq)
  ∧ (∀ (s : State) (i : FwImage) (store : List SlotVerdict), s.boot.step = 2 → s.boot.image = some i →
      (∃ u, Sys2Proof.Machine.exec (.bootImageVerified i.digest true store) s = .next u ∧ u.boot.step = 3 ∧ u.bootState = 2 ∧ u.boot.railsGood = true
        ∧ u.pins.powerGood = true ∧ u.boot.wdogAt = some s.now ∧ u.pow.refclk = true ∧ u.word 0x00040000 = 0x8003FFFF#32 ∧ u.mem = s.mem)
      ∧ (∀ (d : Nat) (j : FwImage), d ≠ i.digest → s.sec.booted = 0 → bootable s 1 = some j →
        ∃ u, Sys2Proof.Machine.exec (.bootImageVerified d true store) s = .next u ∧ u.boot.image = some j ∧ u.sec.booted = 1 ∧ u.boot.step = 2
          ∧ slotImage u.sec.nor 0 = none ∧ u.word 0x00010060 = s.word 0x00010060 + 1))
  ∧ (∀ s : State, s.boot.step = 2 → s.boot.image = none →
      (∃ u, Sys2Proof.Machine.exec (.bootImageVerified 0 true []) s = .next u ∧ u.bootState = 11 ∧ u.boot.railsGood = false ∧ u.pins.alertN = false)
      ∧ (∀ v : SlotVerdict, v.sigOk = true → s.sec.fuses.fwMin ≤ v.svn →
        ∃ u, Sys2Proof.Machine.exec (.bootImageVerified 0 true [v]) s = .next u ∧ u.boot.image = some { svn := v.svn, digest := v.digest }
          ∧ u.sec.booted = 1 - s.sec.active ∧ u.sec.tried = true ∧ u.bootState = 1))
  ∧ (∀ (s : State) (i : FwImage), s.boot.step = 3 → s.boot.image = some i → s.boot.warm = false →
      ∃ u p, Sys2Proof.Machine.exec .firmwareStarted s = .next u ∧ u.programs = p :: s.programs ∧ p.id = 0 ∧ p.firmware = true ∧ p.svn = i.svn
        ∧ (u.thr 0).state = .ready ∧ (u.thr 0).program = 0 ∧ (u.thr 0).priv = true ∧ u.word 0x00010014 = BitVec.ofNat 32 i.svn ∧ u.sec.fwDigest = i.digest
        ∧ u.boot.step = 4 ∧ u.bootState = 3 ∧ u.test.startedAt = s.now ∧ u.field 0x00000100 22 22 = (if s.test.health.skipTest then 0 else 1))
  ∧ (∀ s : State, s.boot.step = 4 →
      (s.test.health.skipTest = true → ∀ fs, ∃ u, Sys2Proof.Machine.exec (.healthRecordAccepted fs) s = .next u ∧ u.boot.step = 5 ∧ u.bootState = 4
          ∧ u.boot.wdogAt = some s.now ∧ u.test = s.test ∧ u.mem = s.mem)
      ∧ (s.test.health.skipTest = false → ∃ u, Sys2Proof.Machine.exec (.healthRecordAccepted []) s = .next u ∧ u.boot.step = 5 ∧ u.bootState = 4
          ∧ u.test.health.record.map (fun r => (r.kind, r.seq, r.lc)) = some (3, s.test.health.seq + 1, s.sec.fuses.groups) ∧ u.mem.untested = [] ∧ u.test.groups = []))
  ∧ (∀ s : State, s.boot.step = 5 →
      (s.boot.warm = true → s.boot.linkDone = false → ∀ failed, ∃ u, Sys2Proof.Machine.exec (.dramUsable failed) s = .next u ∧ u.boot.step = 7
          ∧ u.bootState = 6 ∧ u.boot.step6At = s.now ∧ u.mem = s.mem)
      ∧ (s.boot.warm = false → s.mem.partLock = false → s.test.regions = [] →
          (partitionFits s = true → ∃ u, Sys2Proof.Machine.exec (.dramUsable []) s = .next u ∧ u.boot.step = 6 ∧ u.bootState = 5 ∧ u.mem.partLock = true
            ∧ (u.mem.stageCur, u.mem.kvCur) = s.mem.partRequest.getD (144, 96) ∧ u.mem.hashDraw.isSome = true
            ∧ u.mem.gibs = (if s.mem.withheld.isEmpty then [] else (List.range 256).filter (fun g => !s.mem.withheld.contains g)))
          ∧ (partitionFits s = false → ∃ u, Sys2Proof.Machine.exec (.dramUsable []) s = .next u ∧ u.bootState = 10 ∧ u.boot.hold = 1 ∧ u.pins.alertN = false)))
  ∧ (∀ (s : State) (luns : List LunReport), s.boot.step = 6 → s.boot.linkDone = false →
      let ok := (examine [] (sortBy lunPlace (onePerPlace luns))).1
      ∃ u, Sys2Proof.Machine.exec (.storeDiscovered luns) s = .next u ∧ u.boot.step = 7 ∧ u.bootState = 6 ∧ u.boot.storeDone = true
        ∧ u.storeState = storeVerdict s ok ∧ u.field 0x00070000 28 23 = ((List.range 32).filter (fun c => ok.any (fun l => l.channel.val == c))).length ∧ u.store.luns = ok
        ∧ u.store.data = s.store.data ∧ u.mem = s.mem ∧ u.threads = s.threads)
  ∧ (∀ s : State, s.boot.step = 7 → s.boot.storm = false → s.test.health.autoload = none →
      ∃ u, Sys2Proof.Machine.exec .linkStepTimeout s = .next u ∧ u.now = Nat.max s.now (s.boot.step6At + 10 * sHalves) ∧ u.bootState = 8
        ∧ u.isReady = true ∧ u.field 0x00000100 20 17 = 7 ∧ u.boot.step = 0
        ∧ (u.word 0x00000104) = BitVec.ofNat 32 ((u.now - s.boot.startAt) / msHalves) ∧ u.mem = s.mem)
  ∧ (∀ s : State, s.boot.step = 8 → s.test.phase = 0 →
      (∀ p, defaultPackage s = some p → s.sec.fuses.pkgMin ≤ p.svn → ∃ u, Sys2Proof.Machine.exec (.modelResident true) s = .next u ∧ u.bootState = 8
          ∧ u.isReady = true ∧ u.boot.step = 0 ∧ u.bat.model = some (p.root, p.svn, p.deleg) ∧ u.field 0x00000100 21 21 = 1 ∧ u.boot.arrays = true
          ∧ (∀ r ∈ u.arr.regions, r.state ≠ .loading)
          ∧ (∀ b, b / 65536 ∉ look [] u.kv.images (Config.defaultDistrict p.root) → u.mem.read b = s.mem.read b))
      ∧ (∃ u, Sys2Proof.Machine.exec (.modelResident false) s = .next u ∧ u.bootState = 8 ∧ u.isReady = true ∧ u.boot.step = 0 ∧ u.bat.model = s.bat.model
          ∧ u.field 0x00000100 20 17 = 8 ∧ u.mem = s.mem))

/-- Resets. A warm reset keeps Table BOO-2's contents and its cause, and with RESET_N low waits at step 1; RESET_N low on a running module
is a warm reset of cause 2, and its release runs the ROM to the active slot's image; the watchdog's third expiry within an hour is HOLD, one
before is a warm reset of cause 4. Clauses that rest on a choice of the model: log entries 47 to 51, 54, 58. -/
def Obligations.WarmResets : Prop :=
  (∀ s : State, resettable s = true →
      (∀ iface, ∃ u, Sys2Proof.Machine.exec (.warmReset iface) s = .next u ∧ WarmLeaves 3 s u ∧ u.boot.railsGood = true ∧ u.pins.powerGood = true
        ∧ (s.pins.resetN = false → u.bootState = 1 ∧ u.boot.waiting = true ∧ u.boot.step = 1
            ∧ u.ev = s.ev.record { code := 0x0D04, info0 := 3 } s.clk.half (s.field 0x000C0014 15 0)))
      ∧ (s.boot.powered = true → s.pins.resetN = true → s.boot.shutdown = 0 → s.isOff = false → s.bootState < 10 →
        ∃ u, Sys2Proof.Machine.exec .resetNLow s = .next u ∧ WarmLeaves 2 s u ∧ u.pins.resetN = false ∧ u.bootState = 1 ∧ u.boot.waiting = true))
  ∧ (∀ (iface : Iface) (s : State), resettable s = false → Sys2Proof.Machine.exec (.warmReset iface) s = .next (settle s))
  ∧ (∀ s : State, (s.boot.powered = false ∨ s.pins.resetN = false) →
      Sys2Proof.Machine.exec .resetNLow s = .next (settle { s with pins := { s.pins with resetN := false } }))
  ∧ (∀ s : State,
      (s.boot.waiting = false → Sys2Proof.Machine.exec .resetNRelease s = .next (settle { s with pins := { s.pins with resetN := true } }))
      ∧ (∀ i : FwImage, s.boot.waiting = true → s.boot.warm = true → (s.sec.fuses.groups = 1 ∨ s.sec.fuses.groups = 3) → s.sec.try_ = none →
          bootable s s.sec.active = some i →
          ∃ u, Sys2Proof.Machine.exec .resetNRelease s = .next u ∧ u.pins.resetN = true ∧ u.boot.waiting = false ∧ u.boot.step = 2 ∧ u.bootState = 1
            ∧ u.boot.image = some i ∧ u.sec.booted = s.sec.active ∧ u.mem = s.mem ∧ u.store = s.store ∧ u.test = s.test ∧ u.ev = s.ev))
  ∧ (∀ s : State,
      (s.boot.wdogAt = none → Sys2Proof.Machine.exec .wdogKick s = .next (settle s) ∧ Sys2Proof.Machine.exec .watchdogExpiry s = .next (settle s))
      ∧ (∀ t, s.boot.wdogAt = some t →
          let now := Nat.max s.now (t + s.field 0x00000108 15 0 * msHalves)
          let before := (recent now (3600 * sHalves) (look [] s.boot.recoveries 4)).length
          Sys2Proof.Machine.exec .wdogKick s = .next (settle { s with boot := { s.boot with wdogAt := some s.now } })
          ∧ (before < 2 → ∃ u, Sys2Proof.Machine.exec .watchdogExpiry s = .next u ∧ WarmLeaves 4 s u ∧ u.now = now
              ∧ u.field 0x00000110 15 8 = Nat.min 255 (s.field 0x00000110 15 8 + 1) ∧ u.ev.alert.getLsbD 13 = true)
          ∧ (2 ≤ before → ∃ u, Sys2Proof.Machine.exec .watchdogExpiry s = .next u ∧ u.now = now ∧ u.bootState = 10 ∧ u.boot.hold = 4 ∧ u.threads = []
              ∧ u.net.sessions = [] ∧ u.isReady = false ∧ u.pins.alertN = false ∧ u.boot.wdogAt = none ∧ u.mem = { s.mem with code := [] })))

/-- Start requests and losses of power. START wakes a module in Off or HOLD, ends a drain, asks a running Downpour to stop, and after a
thermal trip is taken from 60 s on; an undervoltage takes the rails down, and the input's return goes on at step 3; the loss of 36 V keeps
only fuses, NOR and the store. An image delivered through the mailbox in HOLD or REFUSED boots from the inactive slot where it passes, and
is refused and counted else. Clauses that rest on a choice of the model: log entries 45, 54, 55, 58. -/
def Obligations.StartsAndLosses : Prop :=
  (∀ (iface : Iface) (s : State),
      (∀ t, s.boot.tripAt = some t →
        (s.now < t + 60 * sHalves → Sys2Proof.Machine.exec (.start iface) s = .next (settle s))
        ∧ (t + 60 * sHalves ≤ s.now → ∀ i, s.boot.image = some i → s.pins.resetN = true →
            ∃ u, Sys2Proof.Machine.exec (.start iface) s = .next u ∧ u.bootState = 2 ∧ u.boot.step = 2 ∧ u.boot.tripAt = none ∧ u.pins.thermTripN = true
              ∧ u.field 0x00000100 27 24 = 8 ∧ u.boot.image = some i
              ∧ u.ev = s.ev.record { code := 0x0D07, info0 := 8 } s.clk.half (s.field 0x000C0014 15 0)))
      ∧ (s.boot.tripAt = none → (s.boot.powered = false ∨ s.boot.railAt.isSome = true ∨ s.boot.lowAt.isSome = true) →
          Sys2Proof.Machine.exec (.start iface) s = .next (settle s))
      ∧ (s.boot.tripAt = none → s.boot.powered = true → s.boot.railAt = none → s.boot.lowAt = none →
          (s.boot.shutdown = 1 → ∃ u, Sys2Proof.Machine.exec (.start iface) s = .next u ∧ u.bootState = 8 ∧ u.boot = { s.boot with shutdown := 0 }
              ∧ u.bat = { s.bat with held := !s.pow.refclk } ∧ u.net = s.net ∧ u.mem = s.mem ∧ u.threads = s.threads ∧ u.ev = s.ev)
          ∧ (s.boot.shutdown = 3 → Sys2Proof.Machine.exec (.start iface) s = .next (settle { s with test := { s.test with wake := true } }))
          ∧ (s.boot.shutdown = 0 → s.isOff = false → s.bootState < 10 → Sys2Proof.Machine.exec (.start iface) s = .next (settle s))
          ∧ (s.boot.shutdown = 0 → s.isOff = true → s.pins.resetN = false →
              ∃ u, Sys2Proof.Machine.exec (.start iface) s = .next u ∧ u.bootState = 1 ∧ u.boot.step = 1 ∧ u.boot.waiting = true ∧ u.boot.startAt = s.now
                ∧ u.field 0x00000100 27 24 = 1 ∧ u.mem = s.mem ∧ u.ev = s.ev)
          ∧ (s.boot.shutdown = 0 → s.bootState = 10 → s.pins.resetN = false →
              ∃ u, Sys2Proof.Machine.exec (.start iface) s = .next u ∧ u.bootState = 1 ∧ u.boot.step = 1 ∧ u.boot.waiting = true ∧ u.boot.hold = 0
                ∧ u.boot.forced = false ∧ u.boot.railsGood = false ∧ u.mem.cells = [] ∧ u.ev = s.ev)))
  ∧ (∀ s : State, s.boot.railsGood = true → s.bootState ≠ 10 →
      ∃ u, Sys2Proof.Machine.exec .undervoltage s = .next u ∧ u.boot.lowAt = some s.now ∧ u.boot.railsGood = false ∧ u.bootState = 0 ∧ u.threads = []
        ∧ u.mem.cells = [] ∧ u.net.sessions = [] ∧ u.pins.powerGood = false ∧ u.store.data = s.store.data ∧ u.sec.fuses = s.sec.fuses ∧ u.ev = s.ev)
  ∧ (∀ (s : State) (t : Nat) (i : FwImage), s.boot.lowAt = some t → s.boot.image = some i → s.pins.resetN = true →
      ∃ u, Sys2Proof.Machine.exec .inputRestored s = .next u ∧ u.now = Nat.max s.now (t + 100 * msHalves) ∧ u.bootState = 2 ∧ u.boot.step = 2 ∧ u.boot.lowAt = none
        ∧ u.boot.warm = false ∧ u.boot.image = some i ∧ u.field 0x00000100 27 24 = 7 ∧ u.mem = s.mem
        ∧ u.ev = s.ev.record { code := 0x0D07, info0 := 7 } u.clk.half (s.field 0x000C0014 15 0))
  ∧ (∀ s : State, ∃ u, Sys2Proof.Machine.exec .lossOf36v s = .next u ∧ u.boot.powered = false ∧ u.boot.railsGood = false ∧ u.mem = {} ∧ u.arr = {} ∧ u.threads = []
      ∧ u.net.sessions = [] ∧ u.ev = {} ∧ u.pins.powerGood = false ∧ u.sec.fuses = s.sec.fuses ∧ u.sec.nor = s.sec.nor ∧ u.store.data = s.store.data
      ∧ u.store.packages = s.store.packages ∧ u.test.health.entries = s.test.health.entries ∧ u.pending = s.pending)
  ∧ (∀ (image : SignedObj) (svn digest : Nat) (s : State),
      ((s.bootState ≠ 10 ∧ s.bootState ≠ 11) ∨ (s.sec.fuses.groups ≠ 0 ∧ s.sec.fuses.groups ≠ 3) →
          Sys2Proof.Machine.exec (.mailboxImageDelivery image svn digest) s = .next (settle s))
      ∧ ((s.bootState = 10 ∨ s.bootState = 11) → (s.sec.fuses.groups = 0 ∨ s.sec.fuses.groups = 3) →
          ((signedCheck s image (· == 0) 0).isSome = true ∨ svn < s.sec.fuses.fwMin →
            ∃ u, Sys2Proof.Machine.exec (.mailboxImageDelivery image svn digest) s = .next u ∧ { u with csr := s.csr, pins := s.pins } = s
              ∧ ∀ a, u.word a = if a = 0x00010060 then s.word a + 1 else s.word a)
          ∧ (signedCheck s image (· == 0) 0 = none → s.sec.fuses.fwMin ≤ svn → s.pins.resetN = true →
            ∃ u, Sys2Proof.Machine.exec (.mailboxImageDelivery image svn digest) s = .next u ∧ u.boot.image = some { svn := svn, digest := digest }
              ∧ u.sec.booted = 1 - s.sec.active ∧ u.sec.tried = true ∧ u.sec.try_ = none ∧ u.bootState = 1 ∧ u.boot.step = 2 ∧ u.boot.hold = 0
              ∧ u.boot.forced = false)))

/-- I3C transfers. Four bytes set the address and eight set it and write the register as a CSR write over I3C does; a length or an address
of another kind is refused and counted; a read returns registers one after another from the address, little-endian, with 0 and the OFF flag
for a block without power, and the HI half of the always-on count as it stood when the LO half was read. Register writes. A block without
power discards a write; a word with no field that MGMT or firmware may write is left alone, and over I3C the refusal is counted; a value
outside its range is stored as the nearest limit; an age trim never falls; a register that names a command acts as that command. Clauses
that rest on a choice of the model: log entries 61 to 63, 76. -/
def Obligations.RegisterSpace : Prop :=
  (
  ∀ s : State, s.boot.powered = true →
    let refused (c : Instr) : Prop := ∃ u, Sys2Proof.Machine.exec c s = .next u ∧ { u with csr := s.csr, pins := s.pins } = s
      ∧ ∀ b, u.word b = if b = 0x000C0018 then s.word b + 1 else s.word b
    (∀ a : Word32,
      (a.toNat % 4 = 0 →
        Sys2Proof.Machine.exec (.i3cSetAddress a) s = .next (settle { s with side := { s.side with addr := a.toNat } })
        ∧ Sys2Proof.Machine.exec (.i3cWrite (leBytes 4 a.toNat)) s = .next (settle { s with side := { s.side with addr := a.toNat } })
        ∧ ∀ v : Word32, ∃ u, Sys2Proof.Machine.exec (.i3cWrite (leBytes 4 a.toNat ++ leBytes 4 v.toNat)) s = .next u
            ∧ Sys2Proof.Machine.exec (.csrWrite .i3c a v) { s with side := { s.side with addr := a.toNat } } = .next u)
      ∧ (a.toNat % 4 ≠ 0 → refused (.i3cSetAddress a) ∧ refused (.i3cWrite (leBytes 4 a.toNat))
          ∧ ∀ v : Word32, refused (.i3cWrite (leBytes 4 a.toNat ++ leBytes 4 v.toNat))))
    ∧ (∀ bytes : List Byte, bytes.length ≠ 4 → bytes.length ≠ 8 → refused (.i3cWrite bytes))
    ∧ (∀ n, ∃ u, Sys2Proof.Machine.exec (.i3cRead n) s = .next u ∧ u.side.out.length = 4 * n ∧ (s.side.addr < 2 ^ 32 → u.side.addr = (s.side.addr + 4 * n) % 2 ^ 32)
        ∧ u.mem = s.mem ∧ u.threads = s.threads ∧ u.boot = s.boot ∧ (s.pow.breeze = [] → u.ev = s.ev))
    ∧ (s.side.addr = 0x000C0014 → look none s.latch (latchKey .i3c 0x000C0014) = none →
        ∃ u, Sys2Proof.Machine.exec (.i3cRead 1) s = .next u ∧ u.side.out = leBytes 4 (s.word 0x000C0014).toNat ∧ u.field 0x000C001C 0 0 = 0)
    ∧ (s.side.addr = 0x00040010 → look none s.latch (latchKey .i3c 0x00040010) = none →
        ∃ u, Sys2Proof.Machine.exec (.i3cRead 2) s = .next u ∧ u.side.out = leBytes 8 s.ao)
    ∧ (s.boot.railsGood = false → s.side.addr = 0x00070004 →
        ∃ u, Sys2Proof.Machine.exec (.i3cRead 1) s = .next u ∧ u.side.out = [0#8, 0#8, 0#8, 0#8] ∧ u.field 0x000C001C 0 0 = 1)
  )
  ∧
  (
  ∀ (a v : Word32) (s : State),
    (∀ i : Iface, blockOn s a.toNat = false → Sys2Proof.Machine.exec (.csrWrite i a v) s = .next (settle s))
    ∧ (blockOn s a.toNat = true → (∀ f ∈ fieldsAt a.toNat, ∀ i : Iface, i ∉ f.who) →
        (∀ i : Iface, i ≠ .i3c → Sys2Proof.Machine.exec (.csrWrite i a v) s = .next (settle s))
        ∧ ∃ u, Sys2Proof.Machine.exec (.csrWrite .i3c a v) s = .next u ∧ { u with csr := s.csr, pins := s.pins } = s
            ∧ ∀ b, u.word b = if b = 0x000C0018 then s.word b + 1 else s.word b)
    ∧ (s.boot.powered = true → ∀ i : Iface, i ≠ .i3c →
        (∃ u, Sys2Proof.Machine.exec (.csrWrite i 0x000C0014 v) s = .next u ∧ { u with csr := s.csr, pins := s.pins } = s
          ∧ u.field 0x000C0014 15 0 = Nat.min 1000 (Nat.max 1 (bits v.toNat 15 0)) ∧ u.field 0x000C0014 31 16 = s.field 0x000C0014 31 16
          ∧ ∀ b, b ≠ 0x000C0014 → u.word b = s.word b)
        ∧ (∃ u, Sys2Proof.Machine.exec (.csrWrite i 0x000C000C v) s = .next u ∧ u.ev = { s.ev with mask := BitVec.ofNat 14 (v.toNat / 2 * 2) }
          ∧ u.pins.alertN = !u.alertLow ∧ u.csr = s.csr))
    ∧ (s.boot.powered = true → ∀ k < 33, ∃ u, Sys2Proof.Machine.exec (.csrWrite .fw (0x00020100 + BitVec.ofNat 32 (4 * k)) v) s = .next u
        ∧ u.field (0x00020100 + 4 * k) 21 17 = Nat.max (Nat.min 16 (bits v.toNat 21 17)) (s.field (0x00020100 + 4 * k) 21 17)
        ∧ { u with csr := s.csr, pins := s.pins } = s)
    ∧ (s.boot.powered = true →
        (∃ u, Sys2Proof.Machine.exec (.csrWrite .mgmt 0x00020000 v) s = .next u ∧ Sys2Proof.Machine.exec (.capOwnWrite v) s = .next u)
        ∧ (∃ u, Sys2Proof.Machine.exec (.csrWrite .i3c 0x00020004 v) s = .next u ∧ Sys2Proof.Machine.exec (.capBoardWrite v) s = .next u)
        ∧ (∃ u, Sys2Proof.Machine.exec (.csrWrite .fw 0x0000010C v) s = .next u ∧ Sys2Proof.Machine.exec .wdogKick s = .next u)
        ∧ (∃ u, Sys2Proof.Machine.exec (.csrWrite .fw 0x000C0180 v) s = .next u ∧ Sys2Proof.Machine.exec (.evRselWrite .fw 2 v) s = .next u)
        ∧ (∃ u, Sys2Proof.Machine.exec (.csrWrite .mgmt 0x000C0140 v) s = .next u ∧ Sys2Proof.Machine.exec (.evRselWrite .mgmt 1 v) s = .next u)
        ∧ (∃ u, Sys2Proof.Machine.exec (.csrWrite .mgmt 0x000A0420 v) s = .next u ∧ Sys2Proof.Machine.exec (.twSelWrite 1 v) s = .next u)
        ∧ (∃ u, Sys2Proof.Machine.exec (.csrWrite .mgmt 0x000A0424 v) s = .next u ∧ Sys2Proof.Machine.exec (.twIndexWrite 1 v) s = .next u))
  )

/-- The tile windows. A write of TW_SEL or TW_INDEX, or a read of TW_DATA, begins a fetch with VALID 0, and no other window changes; the
fetch ends with the word, or with RANGE, or with DIE_OFF and data 0; a side entry's low word latches its high word, and SAT_COUNT is cleared
by its fetch. The event log's interface. A selection loads the record of its sequence number into the interface's own set, or says that it
is not yet written or already overwritten; another interface's set is left alone, which over I3C is counted; a 1 written to ALERT_STATUS
clears its bit and ALERT_N follows. Clauses that rest on a choice of the model: log entries 64, 65. -/
def Obligations.WindowsAndEvents : Prop :=
  (
  ∀ (w : Fin 2) (s : State),
    (blockOn s 0x000A0400 = true → s.pow.breeze = [] →
      let begins (c : Instr) (x : Window) : Prop := ∃ u, Sys2Proof.Machine.exec c s = .next u
        ∧ u.window w.val = { x with busy := true, valid := false, dieOff := false, range := false, data := 0 }
        ∧ (∀ k, k ≠ w.val → u.window k = s.window k) ∧ { u.side with windows := s.side.windows } = s.side ∧ { u with side := s.side, pins := s.pins } = s
      (∀ v : Word32, begins (.twSelWrite w v) { s.window w.val with sel := BitVec.ofNat 32 (v.toNat / 256 * 256) }
          ∧ begins (.twIndexWrite w v) { s.window w.val with index := v.toNat % 65536 })
      ∧ begins (.twDataRead w) { s.window w.val with index := ((s.window w.val).index + 1) % 65536 })
    ∧ (blockOn s 0x000A0400 = false → ∀ v : Word32, Sys2Proof.Machine.exec (.twSelWrite w v) s = .next (settle s)
        ∧ Sys2Proof.Machine.exec (.twIndexWrite w v) s = .next (settle s) ∧ Sys2Proof.Machine.exec (.twDataRead w) s = .next (settle s))
    ∧ ((s.window w.val).busy = false → Sys2Proof.Machine.exec (.tileFetchDone w) s = .next (settle s))
    ∧ ((s.window w.val).busy = true →
        let x := s.window w.val
        let tile := bits x.sel.toNat 31 18
        let pair := bits x.sel.toNat 17 12
        let sp := bits x.sel.toNat 11 8
        (10240 ≤ tile ∨ nthD 0 [268, 6, 2144, 160, 10, 16384, 4, 12] sp ≤ x.index ∨ (48 ≤ pair ∧ sp ≠ 5 ∧ sp ≠ 6) →
          ∃ u, Sys2Proof.Machine.exec (.tileFetchDone w) s = .next u ∧ (u.window w.val).valid = true ∧ (u.window w.val).range = true ∧ (u.window w.val).data = 0
            ∧ (u.window w.val).busy = false ∧ { u with side := s.side, pins := s.pins } = s)
        ∧ (tile < 10240 → pair < 48 → sp < 8 → x.index < nthD 0 [268, 6, 2144, 160, 10, 16384, 4, 12] sp →
            (s.boot.arrays = false → ∃ u, Sys2Proof.Machine.exec (.tileFetchDone w) s = .next u ∧ (u.window w.val).valid = true ∧ (u.window w.val).dieOff = true
              ∧ (u.window w.val).data = 0 ∧ (u.window w.val).busy = false ∧ { u with side := s.side, pins := s.pins } = s)
            ∧ (s.boot.arrays = true → ∃ u, Sys2Proof.Machine.exec (.tileFetchDone w) s = .next u ∧ (u.window w.val).valid = true ∧ (u.window w.val).busy = false
              ∧ (sp ≠ 5 → (u.window w.val).data = BitVec.ofNat 32 (spaceWord s tile pair sp x.index))
              ∧ (sp = 3 → (u.window w.val).data = BitVec.ofNat 32 (look 0 (s.pair (tile * 48 + pair)).masks x.index))
              ∧ (sp = 5 → x.index % 2 = 0 → (u.window w.val).data = BitVec.ofNat 32 (sideBits (look none (s.tile tile).side (x.index / 2)))
                  ∧ (u.window w.val).high = some (BitVec.ofNat 32 (sideBits (look none (s.tile tile).side (x.index / 2)) / 2 ^ 32)))
              ∧ (sp = 5 → x.index % 2 = 1 → ∀ h, x.high = some h → (u.window w.val).data = h ∧ (u.window w.val).high = none)
              ∧ (sp = 2 → x.index % 8 = 3 → (look {} (u.pair (tile * 48 + pair)).wv (x.index / 8)).sat = 0)
              ∧ (¬(sp = 2 ∧ x.index % 8 = 3) → u.arr = s.arr) ∧ u.mem = s.mem ∧ u.threads = s.threads)))
  )
  ∧
  (
  ∀ s : State, s.boot.powered = true →
    (∀ (i : Iface) (set : Fin 3) (seq : Word32), set.val = ifaceNo i →
      ∃ u, Sys2Proof.Machine.exec (.evRselWrite i set seq) s = .next u ∧ { u with ev := s.ev, pins := s.pins } = s
        ∧ (∀ k, k ≠ set.val → look {} u.ev.sets k = look {} s.ev.sets k) ∧ { u.ev with sets := s.ev.sets } = s.ev
        ∧ let x := look {} u.ev.sets set.val
          x.sel = seq.toNat
          ∧ (∀ e, s.ev.ring.find? (fun r => r.seq == seq.toNat) = some e → x.rstate = 0
              ∧ x.copy = [e.code * 65536 + e.count, e.seq % 2 ^ 32, e.time / 152 % 2 ^ 32, e.time / 152 / 2 ^ 32 % 2 ^ 32, e.info0, e.info1, e.kind * 2 ^ 28 + e.loc, e.handle])
          ∧ ((∀ e ∈ s.ev.ring, e.seq ≠ seq.toNat) → x.rstate = (if s.ev.head ≤ seq.toNat then 1 else 2) ∧ x.copy = []))
    ∧ (∀ (set : Fin 3) (seq : Word32),
        (∀ i : Iface, i ≠ .i3c → set.val ≠ ifaceNo i → Sys2Proof.Machine.exec (.evRselWrite i set seq) s = .next (settle s))
        ∧ (set.val ≠ 0 → ∃ u, Sys2Proof.Machine.exec (.evRselWrite .i3c set seq) s = .next u ∧ { u with csr := s.csr, pins := s.pins } = s
            ∧ ∀ b, u.word b = if b = 0x000C0018 then s.word b + 1 else s.word b))
    ∧ (∀ (i : Iface) (v : Word32), ∃ u, Sys2Proof.Machine.exec (.alertStatusWrite i v) s = .next u
        ∧ (∀ b < 14, u.ev.alert.getLsbD b = (s.ev.alert.getLsbD b && !(decide (1 ≤ b) && v.getLsbD b)))
        ∧ { u with ev := s.ev, pins := s.pins } = s ∧ { u.ev with alert := s.ev.alert } = s.ev
        ∧ (s.boot.forced = false → s.ev.alert &&& ~~~s.ev.mask &&& ~~~(BitVec.ofNat 14 (v.toNat / 2 * 2)) = 0 → u.pins.alertN = true))
  )

/-- Fuses only grow: whatever a step carries out, and in any state, no life-cycle group falls, no minimum version falls, and no key
revocation is taken back. Where the fuses stand at or above given fuses, they stand so after every step. Clauses that rest on a choice of
the model: log entry 102. -/
def Obligations.FusesOnlyGrow : Prop :=
  ∀ (l : Fuses) (s u : State), FusesGrow l s.sec.fuses → step s = .next u → FusesGrow l u.sec.fuses

/-- A program's scalar stores reach its own memory alone. Whatever the operands and the thread's state, an ST.64 or ST.32 answers a next
state, and no byte changes outside the live BANK and SCRATCH allocations of the thread's program and the thread's own trap record, none of
loaded code, and no register of another thread. Device memory keeps its canonical form, so that equal memories are equal data: scalar
accesses, a software trap's record, a copy's completion, allocations made and released, a warm reset and the loss of power each leave it so;
and it has the form at reset. Clauses that rest on a choice of the model: log entries 5, 10. -/
def Obligations.MemoryIsolation : Prop :=
  (
  ∀ (t : Who) (w : Head) (s : State),
    let own (b : Nat) : Prop := ∃ x ∈ s.mem.allocs, x.program = (s.thr t.num).program ∧ (x.kind = 1 ∨ x.kind = 3) ∧ x.holds b = true
    let record (b : Nat) : Prop := s.recordBase t.c.val + 16384 + 32 * t.k.val ≤ b ∧ b < s.recordBase t.c.val + 16384 + 32 * t.k.val + 32
    let inside (c : Instr) : Prop := ∃ u, Sys2Proof.Machine.exec c s = .next u
      ∧ (∀ b, ¬ own b → ¬ record b → u.mem.read b = s.mem.read b) ∧ (∀ b, s.mem.isCode b = true → u.mem.read b = s.mem.read b)
      ∧ (∀ j, j ≠ t.num → u.thr j = s.thr j) ∧ u.net = s.net ∧ u.kv = s.kv ∧ u.sec = s.sec ∧ u.programs = s.programs
    inside (.st64 t w) ∧ inside (.st32 t w)
  )
  ∧
  (
  State.reset.mem.wf
  ∧ ∀ (s u : State), s.mem.wf →
      (∀ (t : Who) (w : Head), (Sys2Proof.Machine.exec (.st64 t w) s = .next u ∨ Sys2Proof.Machine.exec (.st32 t w) s = .next u
          ∨ Sys2Proof.Machine.exec (.ld64 t w) s = .next u ∨ Sys2Proof.Machine.exec (.ld32 t w) s = .next u) → u.mem.wf)
      ∧ (∀ (t : Who) (w : Word64), Sys2Proof.Machine.exec (.trap t w) s = .next u → u.mem.wf)
      ∧ (∀ (c : Fin 20) (tag : Fin 512) (env : MemEnv), Sys2Proof.Machine.exec (.dmaCopyDone c tag env) s = .next u → u.mem.wf)
      ∧ (∀ kind program, Sys2Proof.Machine.exec (.allocCreate kind program) s = .next u → u.mem.wf)
      ∧ (∀ handle, Sys2Proof.Machine.exec (.allocRelease handle) s = .next u → u.mem.wf)
      ∧ (∀ iface, Sys2Proof.Machine.exec (.warmReset iface) s = .next u → u.mem.wf)
      ∧ (Sys2Proof.Machine.exec .lossOf36v s = .next u → u.mem.wf)
  )

end
end

