-- ==== Sys2Proof/Laws/Units.lean ====
section
/-! SUPPORT. A pair, a tile, a session, and a bank after one of them was changed: the one changed, and every other. -/

namespace Sys2Proof.Machine

@[simp] theorem look_change_self {α : Type} [DecidableEq α] (d : α) (m : List (Nat × α)) (k : Nat) (f : α → α) :
    look d (change d m k f) k = f (look d m k) := look_put_self _ _ _ _

theorem look_change_ne {α : Type} [DecidableEq α] (d : α) (m : List (Nat × α)) {k j : Nat} (f : α → α) (h : j ≠ k) :
    look d (change d m k f) j = look d m j := look_put_ne d m _ h

@[simp] theorem pair_onPair_self (n : Nat) (f : Pair → Pair) (s : State) : (onPair n f s).pair n = f (s.pair n) := look_change_self _ _ _ _

theorem pair_onPair_ne (f : Pair → Pair) (s : State) {n j : Nat} (h : j ≠ n) : (onPair n f s).pair j = s.pair j := look_change_ne _ _ f h

@[simp] theorem tile_onTile_self (n : Nat) (f : Tile → Tile) (s : State) : (onTile n f s).tile n = f (s.tile n) := look_change_self _ _ _ _

theorem tile_onTile_ne (f : Tile → Tile) (s : State) {n j : Nat} (h : j ≠ n) : (onTile n f s).tile j = s.tile j := look_change_ne _ _ f h

@[simp] theorem tile_onPair (n t : Nat) (f : Pair → Pair) (s : State) : (onPair n f s).tile t = s.tile t := rfl

@[simp] theorem pair_onTile (n t : Nat) (f : Tile → Tile) (s : State) : (onTile t f s).pair n = s.pair n := rfl

@[simp] theorem sess_setSess_self (i : Nat) (x : Session) (s : State) : (setSess i x s).sess i = x := look_put_self _ _ _ _

theorem sess_setSess_ne (x : Session) (s : State) {i j : Nat} (h : j ≠ i) : (setSess i x s).sess j = s.sess j := look_put_ne _ _ _ h

@[simp] theorem sess_onSess_self (i : Nat) (f : Session → Session) (s : State) : (onSess i f s).sess i = f (s.sess i) := sess_setSess_self _ _ _

theorem sess_onSess_ne (f : Session → Session) (s : State) {i j : Nat} (h : j ≠ i) : (onSess i f s).sess j = s.sess j := sess_setSess_ne _ _ h

theorem bank_onBank (b j : Nat) (f : Bank → Bank) (s : State) :
    look {} (onBank b f s).mem.banks j = if j = b then f (look {} s.mem.banks b) else look {} s.mem.banks j := by
  unfold onBank
  by_cases h : j = b
  · subst h; simp
  · simp [h, look_change_ne]

end Sys2Proof.Machine
end

