-- ==== Sys2Proof/Machine/Lands.lean ====
section
/-! DEFINITION. The land grid, the signal of each land, and the I3C address (R485, R486, R490 to R493, R506). No command reads a land;
these say where the board meets the signals. -/

namespace Sys2Proof.Machine

/-- The signals of an ONFI channel's block (Table ELE-3). -/
inductive OnfiSignal where
  | dq (n : Fin 8) | dqsT | dqsC | vrefq | reT | reC | weN | cle | ale | ceN (n : Fin 4) | wpN | zq | rbN (n : Fin 4) | gnd
  deriving DecidableEq, Repr

/-- The sideband, test and control signals (Table ELE-4). -/
inductive SideSignal where
  | i3cScl | i3cSda | tck | tms | tdi | tdo | trstN | resetN | powerGood | alertN | thermTripN | presentN
  | strapAddr (n : Fin 3) | strapSlot (n : Fin 5)
  deriving DecidableEq, Repr

/-- What a land carries. -/
inductive Signal where
  | gnd
  | transmit (lane : Fin 2) (positive : Bool)
  | receive (lane : Fin 2) (positive : Bool)
  | refclk (positive : Bool)
  | onfi (channel : Fin 32) (signal : OnfiSignal)
  | side (signal : SideSignal)
  deriving DecidableEq, Repr

/-- Which way a signal runs (Table ELE-4). -/
inductive Direction where
  | input | output | both
  deriving DecidableEq, Repr

/-- Does a land exist at a row and a column (R485)? -/
def landExists (r c : Nat) : Bool := decide (1 ≤ r) && decide (r ≤ 49) && decide (1 ≤ c) && decide (c ≤ 128) && (r + c) % 2 == 1

/-- The network and reference-clock lands (Table ELE-2). -/
def laneLands : List ((Nat × Nat) × Signal) :=
  [((1, 12), .transmit 0 true), ((1, 14), .transmit 0 false), ((3, 12), .receive 0 true), ((3, 14), .receive 0 false),
   ((1, 20), .transmit 1 true), ((1, 22), .transmit 1 false), ((3, 20), .receive 1 true), ((3, 22), .receive 1 false),
   ((5, 16), .refclk true), ((5, 18), .refclk false)]

/-- The signals of row i of a channel's block, a pair of columns each (Table ELE-3). -/
def onfiRow : Nat → List OnfiSignal
  | 0 => [.dq 0, .dq 1, .gnd, .dq 2]
  | 1 => [.dq 3, .gnd, .dq 4, .dq 5]
  | 2 => [.gnd, .dqsT, .dqsC, .gnd]
  | 3 => [.dq 6, .dq 7, .gnd, .vrefq]
  | 4 => [.reT, .reC, .gnd, .weN]
  | 5 => [.gnd, .cle, .ale, .gnd]
  | 6 => [.ceN 0, .ceN 1, .ceN 2, .ceN 3]
  | 7 => [.gnd, .wpN, .zq, .gnd]
  | _ => [.rbN 0, .rbN 1, .rbN 2, .rbN 3]

/-- The first row and column of a channel's block of 9 rows and 8 columns (R491). -/
def onfiOrigin (channel : Nat) : Nat × Nat := (if channel < 16 then 10 else 32, 8 * (channel % 16) + 1)

/-- The ONFI signal of a land, where it lies in a channel's block (R491). -/
def onfiSignal? (r c : Nat) : Option Signal :=
  ((List.finRange 32).find? (fun ch =>
      let o := onfiOrigin ch.val
      decide (o.1 ≤ r) && decide (r < o.1 + 9) && decide (o.2 ≤ c) && decide (c < o.2 + 8))).bind
    (fun ch =>
      let o := onfiOrigin ch.val
      ((onfiRow (r - o.1))[(c - o.2) / 2]?).bind (fun x => if x = .gnd then none else some (.onfi ch x)))

/-- The sideband, test and control lands (Table ELE-4). -/
def sideLands : List ((Nat × Nat) × SideSignal × Direction) :=
  [((46, 1), .i3cScl, .both), ((46, 3), .i3cSda, .both), ((47, 2), .tck, .input), ((47, 4), .tms, .input), ((47, 6), .tdi, .input),
   ((47, 8), .tdo, .output), ((47, 10), .trstN, .input), ((48, 1), .resetN, .input), ((48, 3), .powerGood, .output),
   ((48, 5), .alertN, .output), ((48, 7), .thermTripN, .output), ((49, 2), .presentN, .output), ((49, 4), .strapAddr 0, .input),
   ((49, 6), .strapAddr 1, .input), ((49, 8), .strapAddr 2, .input), ((49, 10), .strapSlot 0, .input), ((49, 12), .strapSlot 1, .input),
   ((49, 14), .strapSlot 2, .input), ((49, 16), .strapSlot 3, .input), ((49, 18), .strapSlot 4, .input)]

/-- The signal of a land; one that no table assigns is GND, and where none exists there is none (R485, R486, R490 to R492). -/
def landSignal (r c : Nat) : Option Signal :=
  if !landExists r c then none
  else
    some ((((laneLands.find? (fun e => e.1 == (r, c))).map Prod.snd).orElse (fun _ =>
      ((sideLands.find? (fun e => e.1 == (r, c))).map (fun e => Signal.side e.2.1)).orElse (fun _ => onfiSignal? r c))).getD .gnd)

/-- The module's static address on I3C: 0x60 + STRAP_ADDR, as sampled (R493, R506). -/
def i3cAddress (s : State) : Nat := 0x60 + s.boot.straps.toNat % 8

end Sys2Proof.Machine
end

