-- ==== Sys2Proof/Tests/Slice0.lean ====
section
/-! SUPPORT. The author's tests: an ill-formed term for each check of WellFormed, small runs, and for each statement that has hypotheses
concrete states and operands that meet them, clause by clause. -/

namespace Sys2Proof.Tests

set_option Elab.async false

open Sys2Proof Sys2Proof.Machine

/-! Well-formedness: each check refuses a term that breaks it alone, and takes a boundary value. -/

def pair0 : PairId := ⟨0, 0⟩
def lastPair : PairId := ⟨10239, 47⟩
def dg : Datagram := { udpLen := 32 }

theorem test_wf_pairs : lastPair.ok = true ∧ PairId.ok ⟨10240, 0⟩ = false ∧ PairId.ok ⟨0, 48⟩ = false
    ∧ (Instr.recalRetry lastPair).wf = true ∧ (Instr.recalRetry ⟨10240, 0⟩).wf = false ∧ (Instr.refreshDue pair0 2047).wf = true
    ∧ (Instr.refreshDue pair0 2048).wf = false ∧ (Instr.refreshDue ⟨0, 48⟩ 0).wf = false ∧ (Instr.remapFetchDone pair0 255).wf = true
    ∧ (Instr.remapFetchDone pair0 256).wf = false := by decide

theorem test_wf_slots : (Instr.idleTimeout 1048575).wf = true ∧ (Instr.idleTimeout 1048576).wf = false ∧ (Instr.kvSpillDone 1048576 0).wf = false
    ∧ (Instr.keyEntryError 1048576).wf = false ∧ (Instr.switchAgeExpiry 65534).wf = true ∧ (Instr.switchAgeExpiry 65535).wf = false
    ∧ (Instr.thetaRetune 256).wf = false ∧ (Instr.mirrorLoadDone 256 0 0).wf = false := by decide

theorem test_wf_datagrams : (Instr.ping dg).wf = true ∧ (Instr.ping { dg with srcPort := 65536 }).wf = false
    ∧ (Instr.ping { dg with udpPort := 65536 }).wf = false ∧ (Instr.ping { dg with udpLen := 65536 }).wf = false
    ∧ (Instr.ping { dg with version := 256 }).wf = false ∧ (Instr.ping { dg with typ := 256 }).wf = false
    ∧ (Instr.ping { dg with seq := 2 ^ 32 }).wf = false ∧ (Instr.ping { dg with ack := 2 ^ 32 }).wf = false
    ∧ (Instr.ping { dg with window := 65536 }).wf = false ∧ (Instr.ping { dg with length := 65536 }).wf = false
    ∧ (Instr.ping { dg with reserved := 65536 }).wf = false ∧ (Instr.packetTooBig 0 65536 0).wf = false
    ∧ (Instr.openRefusal 0 65536 0 0 0).wf = false := by decide

theorem test_wf_fronts : (Instr.heartbeat { rank := 31, epoch := 0 }).wf = true ∧ (Instr.heartbeat { rank := 32, epoch := 0 }).wf = false
    ∧ (Instr.step { rank := 32, epoch := 0 }).wf = false
    ∧ (Instr.fusedFrameReceive ⟨0, 0, 0, 0, 0, 0, 0, 0, 0, 31, 0, 0, []⟩).wf = true
    ∧ (Instr.fusedFrameReceive ⟨0, 0, 0, 0, 0, 0, 0, 0, 0, 32, 0, 0, []⟩).wf = false := by decide

theorem test_wf_findings : (Finding.dmarchParity pair0 2048).ok = false ∧ (Finding.dmarchBit pair0 0 268).ok = false
    ∧ (Finding.amarginChecksum ⟨0, 48⟩ 0).ok = false ∧ (Finding.amarginGuard pair0 2048 0).ok = false ∧ (Finding.convWeight pair0 63).ok = true
    ∧ (Finding.convWeight pair0 64).ok = false ∧ (Finding.convBaro ⟨10240, 0⟩).ok = false ∧ (Finding.atree pair0 256).ok = false
    ∧ (Finding.bank (.hub 0) 512 []).ok = false ∧ (Finding.dramRegion 256).ok = false ∧ (Finding.logic 65536).ok = false
    ∧ (Instr.drizzleSliceDone [.dramRegion 256]).wf = false ∧ (Instr.downpourSliceDone [.dramRegion 255]).wf = true := by decide

theorem test_wf_store : (Instr.patrolRead 1 { page := 0, step := 6 }).wf = true ∧ (Instr.patrolRead 0 { page := 0, step := 1 }).wf = false
    ∧ (Instr.patrolRead 5 { page := 0, step := 1 }).wf = false ∧ (Instr.patrolRead 1 { page := 0, step := 0 }).wf = false
    ∧ (Instr.patrolOverdue 1 0 32).wf = false ∧ (Instr.relocationDone 0 { channel := 32 }).wf = false ∧ (Instr.nandOpFail 0 { channel := 31 }).wf = true
    ∧ (Instr.hotChannelCheck []).wf = false ∧ (Instr.softFaultFetchDone 0 7 true).wf = false ∧ (Instr.storeReadDone 0 0 [] (some 32)).wf = false
    ∧ (Instr.storeWriteDone 0 0 none (some 32)).wf = false ∧ (Instr.mgmtInstallBegin 0 [(2 ^ 32, 0)]).wf = false
    ∧ (Instr.mgmtInstallData 0 (2 ^ 32) []).wf = false := by decide

theorem test_wf_sensors : (Instr.tempSensorRead [{ sensor := .tile 10240, milli := 0, inRange := true }] []).wf = false
    ∧ (Instr.tempSensorRead [] [17]).wf = false ∧ (Instr.tempSensorRead [{ sensor := .hub 15, milli := 0, inRange := true }] [16]).wf = true
    ∧ (Instr.dramUsable [256]).wf = false := by decide

/-! Small states. -/

/-- A program of 100 words with a trap entry. -/
def prog : Program :=
  { id := 1, firmware := false, target := 0, svn := 0, codeWords := 100, trapEntry := some 50, entries := [some 0], tagBases := [0], tagCounts := [64], prios := [2], codeBase := 0x4000000080, dataHandle := 0, dataBase := 0 }
/-- Thread 0 of CONDUCTOR_0, READY in that program. -/
def thd : Thread := { g := [(1, 5), (2, 3)], state := .ready, program := 1, tagBase := 0, tagCount := 64, priv := true }
/-- A running module with that one thread. -/
def base : State :=
  { State.reset with programs := [prog], threads := [(0, thd)], boot := { State.reset.boot with powered := true, railsGood := true, arrays := true } }
/-- That state with another thread 0. -/
def withThread (x : Thread) : State := { base with threads := [(0, x)] }
def t0 : Who := ⟨0, 0⟩
/-- A control word's low 56 bits: RD, RA, and the rest. -/
def ra (rd a rest : Nat) : Head := BitVec.ofNat 56 (rd * 2 ^ 46 + a * 2 ^ 40 + rest)
/-- RD, RA and RB. -/
def rr (rd a b : Nat) : Head := ra rd a (b * 2 ^ 34)
/-- What a command makes of a state, where it answers one. -/
def run1 (c : Instr) (s : State) : State :=
  match Sys2Proof.Machine.exec c s with
  | .next u => u
  | _ => s

/-! Registers and control words. -/

theorem test_add_wraps : ((run1 (.add t0 (rr 3 1 1)) (withThread { thd with g := [(1, 0x8000000000000000)] })).thr 0).reg 3 = 0 := by decide
theorem test_divu_by_zero : ((run1 (.divu t0 (rr 3 1 0)) base).thr 0).reg 3 = 0xFFFFFFFFFFFFFFFF#64 := by decide
theorem test_remu_by_zero : ((run1 (.remu t0 (rr 3 1 0)) base).thr 0).reg 3 = 5 := by decide
theorem test_sar_of_negative : ((run1 (.sar t0 (rr 3 1 2)) (withThread { thd with g := [(1, 0xFFFFFFFFFFFFFFF0), (2, 65)] })).thr 0).reg 3 = 0xFFFFFFFFFFFFFFF8#64 := by decide
theorem test_addi_sign : ((run1 (.addi t0 (ra 3 1 (2 ^ 40 - 6))) base).thr 0).reg 3 = 0xFFFFFFFFFFFFFFFF#64 := by decide
theorem test_lui_keeps_low : ((run1 (.lui t0 (ra 1 0 7)) base).thr 0).reg 1 = 0x0000000700000005#64 := by decide
theorem test_g0_discards : ((run1 (.add t0 (rr 0 1 2)) base).thr 0).reg 0 = 0 := by decide
theorem test_jr_links_after_reading : ((run1 (.jr t0 (ra 1 1 0)) base).thr 0).pc = 5 ∧ ((run1 (.jr t0 (ra 1 1 0)) base).thr 0).reg 1 = 1 := by decide

theorem witness_RegistersAndTheirThread :
    (({} : Thread).loops = []) ∧ (∃ e r, ({ thd with loops := [⟨0, 5, 2⟩] } : Thread).loops = e :: r ∧ e.stop ≠ thd.pc.toNat + 1 - 1)
    ∧ (∃ e r, ({ thd with loops := [⟨0, 0, 2⟩] } : Thread).loops = e :: r ∧ e.stop = thd.pc.toNat + 1 - 1 ∧ 1 < e.count)
    ∧ (∃ e r, ({ thd with loops := [⟨0, 0, 1⟩] } : Thread).loops = e :: r ∧ e.stop = thd.pc.toNat + 1 - 1 ∧ e.count ≤ 1) :=
  ⟨rfl, ⟨_, _, rfl, by decide⟩, ⟨_, _, rfl, by decide⟩, ⟨_, _, rfl, by decide⟩⟩

theorem witness_EveryCommandAnswers_IdleStep : base.pending = [] := rfl

theorem witness_IntegerArithmetic :
    (∀ op ∈ [0x10, 0x11, 0x12, 0x13, 0x14, 0x15, 0x16, 0x17, 0x18, 0x19, 0x1A, 0x1B, 0x1C, 0x1D, 0x1E, 0x1F],
      Runs base t0 (control op (rr 3 1 2) (fld (rr 3 1 2) 33 0 == 0)))
    ∧ (∀ op ∈ [0x20, 0x21, 0x22, 0x23, 0x24, 0x25, 0x26, 0x27], Runs base t0 (control op (ra 3 1 (2 ^ 40 - 1)) true))
    ∧ Runs base t0 (control 0x28 (ra 3 0 7) (fld (ra 3 0 7) 45 32 == 0)) := by decide

theorem witness_ComparisonsAndPredicates :
    (∀ c ∈ [0, 1, 2, 3, 4, 5], ∀ w, w = BitVec.ofNat 56 (2 ^ 49 + c * 2 ^ 46 + 2 ^ 40 + 2 * 2 ^ 34) →
      Runs base t0 (control 0x08 w (fld w 33 0 == 0 && decide (fld w 48 46 < 6))) ∧ Runs base t0 (control 0x09 w (decide (fld w 48 46 < 6))))
    ∧ (∀ op ∈ [0x0A, 0x0B, 0x0C, 0x0D], Runs base t0 (control op (BitVec.ofNat 56 (2 ^ 49)) (fld (BitVec.ofNat 56 (2 ^ 49)) 42 0 == 0)))
    ∧ Runs base t0 (control 0x39 (ra 3 0 0) (fld (ra 3 0 0) 45 0 == 0)) := by
  refine ⟨?_, by decide, by decide⟩
  intro c hc w hw
  subst hw
  revert c
  decide

/-- Four loop bodies. -/
def deep : State := withThread { thd with loops := [⟨0, 9, 2⟩, ⟨0, 9, 2⟩, ⟨0, 9, 2⟩, ⟨0, 9, 2⟩] }
/-- The form of LOOP. -/
def loopForm (w : Head) : Form := control 0x05 w (fld w 51 46 == 0 && fld w 39 16 == 0)

theorem witness_BranchesAndLoops :
    Runs base t0 (control 0x01 0 (fld 0 51 0 == 0)) ∧ Runs base t0 (control 0x02 (ra 0 0 7) (fld (ra 0 0 7) 51 32 == 0))
    ∧ Runs base t0 (control 0x03 (ra 1 0 7) (fld (ra 1 0 7) 39 32 == 0)) ∧ Runs base t0 (control 0x04 (ra 1 1 0) (fld (ra 1 1 0) 39 0 == 0))
    ∧ Runs base t0 (control 0x30 0 (fld 0 51 0 == 0))
    ∧ Runs base t0 (loopForm (ra 0 1 4)) ∧ base.g t0 (fld (ra 0 1 4) 45 40) = 5 ∧ (base.thr 0).loops = [] ∧ fld (ra 0 1 4) 15 0 = 4
    ∧ Runs base t0 (loopForm (ra 0 3 4)) ∧ base.g t0 (fld (ra 0 3 4) 45 40) = 0
    ∧ Runs deep t0 (loopForm (ra 0 1 4)) ∧ deep.g t0 (fld (ra 0 1 4) 45 40) = 5 ∧ (deep.thr 0).loops.length = 4 := by and_intros <;> decide

/-! Loads, stores and traps. -/

/-- Thread 0 with an address in HUB_BANK_0, and the program's BANK allocation there. -/
def memS : State :=
  { withThread { thd with g := [(1, 0x4000001000), (2, 0x1122334455667788)] } with mem := { State.reset.mem with allocs := [⟨3, 1, 1, 0x4000001000, 4096⟩] } }
/-- The same with its first line poisoned. -/
def memPoison : State := { memS with mem := { memS.mem with poison := [(0x4000001000 / 64, true)] } }
/-- The same with the hub bank in RETENTION. -/
def memAsleep : State := { memS with mem := { memS.mem with banks := [(0, { request := .retention, current := .retention })] } }
def ldw : Head := ra 3 1 0
def stw : Head := ra 2 1 0

theorem test_store_then_load : ((run1 (.ld64 t0 ldw) (run1 (.st64 t0 stw) memS)).thr 0).reg 3 = 0x1122334455667788#64 := by decide
theorem test_store_moves_the_mark : (run1 (.st32 t0 (ra 2 1 8)) memS).mem.fills = [(0x4000001000, 12)] := by decide
theorem test_store_gap_reads_zero : (run1 (.st32 t0 (ra 2 1 8)) memS).mem.readLe 0x4000001000 8 = 0 := by decide
theorem test_misaligned_traps : ((run1 (.ld64 t0 (ra 3 1 4)) memS).thr 0).tm = true ∧ ((run1 (.ld64 t0 (ra 3 1 4)) memS).thr 0).pc = 50 := by decide
theorem test_poisoned_load_reads_zero : ((run1 (.ld64 t0 ldw) memPoison).thr 0).reg 3 = 0 := by decide

/-- Where no bank differs from its cold state, every address is awake. -/
theorem awake_of_none {s : State} (h : s.mem.banks = []) (a : Nat) : Awake s a := by
  intro b _
  rw [h]
  show ({} : Bank).current ≠ .retention
  decide
theorem recordAwake_of_none {s : State} (h : s.mem.banks = []) (c : Nat) : RecordAwake s c := fun _ => awake_of_none h _
theorem memS_awake : Awake memS 0x4000001000 := awake_of_none rfl _

theorem witness_ScalarAccesses_Loads :
    Runs memS t0 (control 0x2C ldw true) ∧ Runs memS t0 (control 0x2D ldw true) ∧ dataAddr memS t0 ldw = 0x4000001000
    ∧ scalarOk memS 1 0x4000001000 8 = true ∧ scalarOk memS 1 0x4000001000 4 = true ∧ Awake memS 0x4000001000 ∧ memS.mem.poisoned 0x4000001000 = false
    ∧ Runs memPoison t0 (control 0x2C ldw true) ∧ scalarOk memPoison 1 0x4000001000 8 = true ∧ memPoison.mem.poisoned 0x4000001000 = true
    ∧ Runs memAsleep t0 (control 0x2C ldw true) ∧ (look {} memAsleep.mem.banks 0).current = .retention :=
  ⟨by decide, by decide, by decide, by decide, by decide, memS_awake, by decide, by decide, by decide, by decide, by decide, by decide⟩

theorem witness_ScalarAccesses_Stores :
    Runs memS t0 (control 0x2E stw true) ∧ Runs memS t0 (control 0x2F stw true) ∧ dataAddr memS t0 stw = 0x4000001000
    ∧ scalarOk memS (memS.thr 0).program 0x4000001000 8 = true ∧ scalarOk memS (memS.thr 0).program 0x4000001000 4 = true := by
  and_intros <;> decide

theorem witness_ReturnHaltAndTrap :
    Runs base t0 (control 0x32 (ra 1 0 0) (fld (ra 1 0 0) 45 0 == 0)) ∧ Runs base t0 (control 0x33 0 (fld 0 51 0 == 0))
    ∧ Runs base t0 (controlW 0x3F (ra 1 0 (2 * 65536)) (decide (fld (ra 1 0 (2 * 65536)) 17 16 < 3)))
    ∧ bits (0x3100000000000007#64).toNat 63 56 = 0x31
    ∧ Runs base t0 { words := [0x3100000000000007#64], bad := if bits (0x3100000000000007#64).toNat 51 16 = 0 then none else some 0, pg := 0, pn := false } := by
  and_intros <;> decide

/-- The same thread at the end of its code; without privilege; with a false guard. -/
def atEnd : State := withThread { thd with pc := 100 }
def plain : State := withThread { thd with priv := false }
/-- Four loop bodies around word 0, an address that is in no allocation, and the address of an allocation. -/
def guarded : Head := BitVec.ofNat 56 (2 ^ 53 + 3 * 2 ^ 46)

theorem witness_DecodeChecks :
    chosen atEnd t0 = true ∧ codeLength atEnd t0 < (atEnd.thr 0).pc.toNat + 1
    ∧ chosen base t0 = true ∧ (base.thr 0).pc.toNat + 1 ≤ codeLength base t0 ∧ insideLoop base t0 1 = true
    ∧ fld (ra 3 1 1) 33 0 ≠ 0
    ∧ chosen plain t0 = true ∧ (plain.thr 0).pc.toNat + 1 ≤ codeLength plain t0 ∧ insideLoop plain t0 1 = true ∧ fld (ra 3 0 0) 45 32 = 0
    ∧ (plain.thr 0).priv = false
    ∧ fld guarded 33 0 = 0 ∧ (base.thr 0).pred (fld guarded 55 53) = bit guarded.toNat 52
    ∧ Runs base t0 (control 0x2C ldw true) ∧ scalarOk base 1 (dataAddr base t0 ldw) 8 = false ∧ Runs base t0 (control 0x2D ldw true)
    ∧ scalarOk base 1 (dataAddr base t0 ldw) 4 = false ∧ Runs base t0 (control 0x2E stw true) ∧ Runs base t0 (control 0x2F stw true)
    ∧ scalarOk base 1 (dataAddr base t0 stw) 8 = false ∧ scalarOk base 1 (dataAddr base t0 stw) 4 = false
    ∧ Runs deep t0 (loopForm (ra 0 1 4)) ∧ deep.g t0 (fld (ra 0 1 4) 45 40) ≠ 0 ∧ (deep.thr 0).loops.length = 4
    ∧ bits (0x4000000000000000#64).toNat 63 56 = 0x40 ∧ bits (0xF000000000000000#64).toNat 63 56 = 0xF0 ∧ bits (0#64).toNat 63 56 = 0 := by
  and_intros <;> decide

/-! Signed objects: a block whose digest and key are the module's own (R417, R418), the curve's verdicts being operands. -/

/-- A signature block of a signer and key index, over a key. -/
def block (signer index : Byte) (key : List Byte) : List Byte :=
  [0x53#8, 0x49#8, 0x47#8, 0x43#8, signer, index, 0#8, 0#8] ++ beBytes 64 (Config.sha512 key) ++ key ++ List.replicate 139 0#8
/-- A key of the ROM. -/
def fwk (svk : Bool) (i : Nat) : List Byte := Config.romKey svk i

set_option exponentiation.threshold 600 in
theorem keyHash_block (a b : Byte) (key : List Byte) : keyHash (block a b key) = Config.sha512 key := by
  have h : ((block a b key).drop 8).take 64 = beBytes 64 (Config.sha512 key) := by
    have e : block a b key = [0x53#8, 0x49#8, 0x47#8, 0x43#8, a, b, 0#8, 0#8] ++ (beBytes 64 (Config.sha512 key) ++ (key ++ List.replicate 139 0#8)) := by
      simp [block]
    rw [e, List.drop_left' (by rfl), List.take_left' (by simp)]
  unfold keyHash beAt
  simp only [h, beBytes_length, Nat.sub_self, List.replicate_zero, List.append_nil, beNat_beBytes]
  exact Nat.mod_eq_of_lt (Nat.lt_of_lt_of_le (Config.sha512Bits key).isLt (Nat.le_of_eq (Nat.pow_mul 2 8 64)))

theorem pubKey_block (a b : Byte) (key : List Byte) (hk : key.length = 133) : pubKey (block a b key) = key := by
  unfold pubKey
  have e : block a b key = ([0x53#8, 0x49#8, 0x47#8, 0x43#8, a, b, 0#8, 0#8] ++ beBytes 64 (Config.sha512 key)) ++ (key ++ List.replicate 139 0#8) := by
    simp [block]
  rw [e, List.drop_left' (by simp), List.take_left' hk]

theorem fwk_length (svk : Bool) (i : Nat) : (fwk svk i).length = 133 := by simp [fwk, Config.romKey]

theorem block_shaped (a b : Byte) (key : List Byte) (hk : key.length = 133) (h : a = 0 ∨ a = 3 ∨ b = 0) : blockShaped (block a b key) = true := by
  have hl : (block a b key).length = 344 := by simp [block, hk]
  have h0 : leAt (block a b key) 0 4 = 0x43474953 := by
    show leNat [0x53#8, 0x49#8, 0x47#8, 0x43#8] = 0x43474953
    decide
  have h6 : leAt (block a b key) 6 2 = 0 := by
    show leNat [0#8, 0#8] = 0
    decide
  have h7 : leAt (block a b key) 337 7 = 0 := by
    have e : block a b key = ([0x53#8, 0x49#8, 0x47#8, 0x43#8, a, b, 0#8, 0#8] ++ beBytes 64 (Config.sha512 key) ++ key ++ List.replicate 132 0#8) ++ List.replicate 7 0#8 := by
      simp [block]
    unfold leAt
    rw [e, List.drop_left' (by simp [hk])]
    decide
  have hs : signer (block a b key) = a.toNat := by
    show a.toNat + 256 * 0 = a.toNat
    omega
  have hi : keyIndex (block a b key) = b.toNat := by
    show b.toNat + 256 * 0 = b.toNat
    omega
  unfold blockShaped
  rw [hl, h0, h6, h7, keyHash_block, pubKey_block a b key hk, hs, hi]
  rcases h with rfl | rfl | rfl <;> simp

/-- A ROM key's block passes R418 where its key is not revoked. -/
theorem block_passes (svk : Bool) (i : Fin 4) (s : State) (takes : Nat → Bool) (model : Nat) (hr : s.sec.fuses.revoke = 0)
    (ht : takes (if svk then 3 else 0) = true) :
    blockCheck s (block (if svk then 3#8 else 0#8) (BitVec.ofNat 8 i.val) (fwk svk i.val)) true true takes model = none := by
  have hb : blockShaped (block (if svk then 3#8 else 0#8) (BitVec.ofNat 8 i.val) (fwk svk i.val)) = true :=
    block_shaped _ _ _ (fwk_length svk i.val) (by cases svk <;> simp)
  have hs : signer (block (if svk then 3#8 else 0#8) (BitVec.ofNat 8 i.val) (fwk svk i.val)) = if svk then 3 else 0 := by
    cases svk <;> rfl
  have hi : keyIndex (block (if svk then 3#8 else 0#8) (BitVec.ofNat 8 i.val) (fwk svk i.val)) = i.val := by
    show (BitVec.ofNat 8 i.val).toNat + 256 * 0 = i.val
    simp only [BitVec.toNat_ofNat]
    omega
  have ha : signerAllowed s (block (if svk then 3#8 else 0#8) (BitVec.ofNat 8 i.val) (fwk svk i.val)) model = true := by
    unfold signerAllowed
    rw [hs, hi, pubKey_block _ _ _ (fwk_length svk i.val), hr]
    have : i.val ≤ 3 := by omega
    cases svk <;> simp [fwk, this]
  unfold blockCheck
  rw [hb, ha, hs, ht]
  rfl

/-! Programs, threads and waits. -/

/-- Tag 5 of CONDUCTOR_0 PENDING with a transaction of thread 0. -/
def pend (op : TxOp) (s : State) : State := { s with tags := [(5, .pending)], txs := [{ c := 0, tag := 5, k := 0, pc := 0, op := op, slots := [] }] }
def busyS : State := pend (.vfill 0 ⟨0, false, 0, .fp32, 0, 0, true, .none, 0, 0, 0, [], []⟩) base
/-- A program for every thread of CONDUCTOR_0, firmware in the first two. -/
def fwProg : Program := { prog with id := 2, firmware := true, target := 1, entries := [some 0, some 4], tagBases := [0, 64], tagCounts := [64, 64] }
def svcProg : Program := { prog with id := 3, target := 1, entries := [none, none, none, some 7], tagBases := [0, 0, 0, 128], tagCounts := [0, 0, 0, 8] }
def startS : State := { base with programs := [prog, fwProg, svcProg], threads := [(0, { thd with g := [(1, 3), (2, 2)] })] }
/-- The same with tag 128 PENDING. -/
def startBusy : State := { startS with tags := [(128, .pending)] }
/-- TSTART of the program of a register on CONDUCTOR_0, thread k, at a priority. -/
def tst (r k prio : Nat) : Head := BitVec.ofNat 56 (r * 2 ^ 46 + k * 2 ^ 38 + prio * 2 ^ 36)
def startForm (w : Head) : Form := control 0x37 w (fld w 35 0 == 0 && decide (fld w 45 41 < 20)) true
/-- A thread that waits with words held. -/
def waits (op : HoldKind) (ws : List Word64) (s : State) : State := { s with threads := [(0, { s.thr 0 with state := .waiting, held := some ⟨op, ws⟩ })] }

theorem test_wait_any_takes_the_lowest :
    ((run1 (.waitAny t0 (ra 3 1 0)) { base with tags := [(0, .faulted), (2, .done)] }).thr 0).reg 3 = 0
    ∧ (run1 (.waitAny t0 (ra 3 1 0)) { base with tags := [(0, .faulted), (2, .done)] }).tags = [(2, .done)] := by decide
theorem test_wait_all_holds_on_pending : ((run1 (.waitAll t0 (ra 0 1 0)) { base with tags := [(2, .pending)] }).thr 0).state = .waiting := by decide
theorem test_tstart_checks_firmware : startCheck startS 2 0 3 2 = some 2 ∧ startCheck startS 3 0 3 3 = some 4 ∧ startCheck startS 9 0 3 2 = some 1 := by decide

theorem witness_RegisterInstructions :
    Runs base t0 (control 0x34 (ra 3 0 0xC0014) (fld (ra 3 0 0xC0014) 45 32 == 0) true)
    ∧ Runs base t0 (control 0x35 (ra 1 0 0x90000) (fld (ra 1 0 0x90000) 45 32 == 0) true) ∧ fld (ra 1 0 0x90000) 31 0 = 0x00090000 + 0 * 0x400
    ∧ blockOn base 0x90000 = true
    ∧ Runs base t0 (control 0x35 (ra 1 0 0xC0000) (fld (ra 1 0 0xC0000) 45 32 == 0) true) ∧ fieldsAt 0xC0000 = []
    ∧ fld (ra 1 0 0xC0000) 31 0 = 0xC0000 := by
  and_intros <;> decide

/-- PLOAD on a tag. -/
def ploadForm (w : Head) : Form := { control 0x36 w (fld w 30 0 == 0) true with tag := fld w 39 31 }

theorem witness_ProgramsLoadedAndUnloaded_PloadIssue :
    Runs base t0 (ploadForm (ra 1 2 (5 * 2 ^ 31))) ∧ TagOpen base t0 5 ∧ fld (ra 1 2 (5 * 2 ^ 31)) 39 31 = 5
    ∧ Runs base t0 (ploadForm (ra 1 2 (64 * 2 ^ 31))) ∧ (base.thr 0).tagBase + (base.thr 0).tagCount ≤ fld (ra 1 2 (64 * 2 ^ 31)) 39 31
    ∧ Runs busyS t0 (ploadForm (ra 1 2 (5 * 2 ^ 31))) ∧ busyS.tag 0 5 = .pending := by
  and_intros <;> decide

/-- A firmware image of one code word at the start of HUB_BANK_0, and its block. -/
def imageHead : List Byte :=
  [0x53#8, 0x4C#8, 0x4E#8, 0x59#8, 1#8, 0#8, 0#8, 1#8] ++ leBytes 4 7 ++ leBytes 4 1 ++ leBytes 4 0 ++ leBytes 4 0 ++ List.replicate 104 0#8
def imageBytes : List Byte := imageHead ++ List.replicate 8 0#8 ++ block 0#8 0#8 (fwk false 0)
/-- That image in memory. -/
def imageMem : Mem := { cells := run 0x4000000000 imageBytes }
def imageS : State := pend (.pload 0x4000000000 4) { base with mem := imageMem }

theorem look_run (l : List Byte) : ∀ (a i : Nat), i < l.length → look 0#8 (run a l) (a + i) = l[i]?.getD 0 := by
  induction l with
  | nil => intro a i h; exact absurd h (Nat.not_lt_zero i)
  | cons b r ih =>
    intro a i h
    cases i with
    | zero => simp [run, look]
    | succ i =>
      have hi : i < r.length := by simpa using h
      have e : a + (i + 1) = a + 1 + i := by omega
      simp only [run, look, e]
      rw [if_neg (by omega), ih (a + 1) i hi]
      simp

theorem imageMem_read (i : Nat) (h : i < imageBytes.length) : imageMem.read (0x4000000000 + i) = imageBytes[i]?.getD 0 := by
  have : imageMem.limited (granule (0x4000000000 + i)) = false := rfl
  unfold Mem.read
  rw [this]
  exact look_run imageBytes _ i h

theorem imageHead_length : imageHead.length = 128 := by simp [imageHead]
theorem imageBytes_length : imageBytes.length = 480 := by simp [imageBytes, imageHead_length, block, fwk_length]

theorem imageMem_readN (o n : Nat) (h : o + n ≤ 480) : imageMem.readN (0x4000000000 + o) n = (imageBytes.drop o).take n := by
  apply List.ext_getElem
  · simp [Mem.readN, imageBytes_length]
    omega
  · intro i h1 h2
    have hi : i < n := by simpa [Mem.readN] using h1
    have := imageMem_read (o + i) (by rw [imageBytes_length]; omega)
    simp only [Mem.readN, List.getElem_map, List.getElem_range, List.getElem_take, List.getElem_drop, Nat.add_assoc, this]
    rw [List.getElem?_eq_getElem (by rw [imageBytes_length]; omega)]
    rfl

/-- The first line of the image poisoned. -/
def poisonImage : State := pend (.pload 0x4000000000 4) { base with mem := { imageMem with poison := [(0x4000000000 / 64, true)] } }
theorem witness_ProgramsLoadedAndUnloaded_PloadDone_refused :
    (pend (.pload 0x4000000000 4) base).tx? 0 5 = some { c := 0, tag := 5, k := 0, pc := 0, op := .pload 0x4000000000 4, slots := [] }
    ∧ imageCheck (pend (.pload 0x4000000000 4) base) 0x4000000000 4 (readHeader base.mem 0x4000000000) true true = some 1
    ∧ poisonAt base.mem (span 0x4000000000 128) = none ∧ (readHeader base.mem 0x4000000000).legal = false := by
  and_intros <;> decide

theorem imageHeader_legal : (readHeader imageMem 0x4000000000).legal = true ∧ imageInHub 0x4000000000 (readHeader imageMem 0x4000000000) = true
    ∧ (readHeader imageMem 0x4000000000).kind = 0 ∧ (readHeader imageMem 0x4000000000).svn = 7 ∧ (readHeader imageMem 0x4000000000).codeWords = 1
    ∧ (readHeader imageMem 0x4000000000).dataBytes = 0 := by
  and_intros <;> decide +kernel

theorem witness_ProgramsLoadedAndUnloaded_PloadDone :
    imageS.tx? 0 5 = some { c := 0, tag := 5, k := 0, pc := 0, op := .pload 0x4000000000 4, slots := [] }
    ∧ imageCheck imageS 0x4000000000 4 (readHeader imageS.mem 0x4000000000) true true = none := by
  refine ⟨by decide, ?_⟩
  obtain ⟨h1, h2, h3, h4, h5, h6⟩ := imageHeader_legal
  have hm : imageS.mem = imageMem := rfl
  have hb : imageBlock imageS 0x4000000000 (readHeader imageMem 0x4000000000) = block 0#8 0#8 (fwk false 0) := by
    unfold imageBlock
    rw [h5, h6, hm, imageMem_readN 136 344 (by decide)]
    have e : imageBytes = (imageHead ++ List.replicate 8 0#8) ++ block 0#8 0#8 (fwk false 0) := rfl
    rw [e, List.drop_left' (by simp [imageHead_length]), List.take_of_length_le (by simp [block, fwk_length])]
  have hk := block_passes false 0 imageS (fun x => x == (readHeader imageMem 0x4000000000).kind) 0 rfl (by rw [h3]; rfl)
  unfold imageCheck
  rw [hm, h1, h2, hb, show blockCheck imageS (block 0#8 0#8 (fwk false 0)) true true (· == (readHeader imageMem 0x4000000000).kind) 0 = none from hk, h4, h3, h6]
  rfl

theorem witness_ProgramsLoadedAndUnloaded_PloadDone_awake : Awake imageS 0x4000000000 ∧ RecordAwake imageS 0 ∧ poisonAt imageS.mem (imageSpan 0x4000000000 (readHeader imageMem 0x4000000000)) = none :=
  ⟨awake_of_none rfl _, recordAwake_of_none rfl _, rfl⟩
theorem witness_ProgramsLoadedAndUnloaded_PloadDone_poisoned :
    poisonImage.tx? 0 5 = some { c := 0, tag := 5, k := 0, pc := 0, op := .pload 0x4000000000 4, slots := [] } ∧ Awake poisonImage 0x4000000000
    ∧ RecordAwake poisonImage 0 ∧ poisonAt poisonImage.mem (imageSpan 0x4000000000 (readHeader imageMem 0x4000000000)) = some 0x4000000000 :=
  ⟨by decide, awake_of_none rfl _, recordAwake_of_none rfl _, by decide +kernel⟩
theorem witness_ThreadsStartedAndStopped_Tstart :
    Runs startS t0 (startForm (tst 1 3 3)) ∧ startCheck startS 3 0 3 3 = some 4 ∧ (startS.thr 0).reg (fld (tst 1 3 3) 51 46) = 3
    ∧ Runs startS t0 (startForm (tst 1 3 2)) ∧ startCheck startS 3 0 3 2 = none ∧ startS.program? 3 = some svcProg ∧ startOpen startS svcProg 0 3 = true
    ∧ Runs startBusy t0 (startForm (tst 1 3 2)) ∧ startCheck startBusy 3 0 3 2 = none ∧ startOpen startBusy svcProg 0 3 = false := by
  and_intros <;> decide
theorem witness_ThreadsStartedAndStopped_TstartRelease :
    let s := waits .tstart [fullWord 0x37 (tst 1 3 2), 3] startS
    (s.thr 0).state = .waiting ∧ (s.thr 0).held = some ⟨.tstart, [fullWord 0x37 (tst 1 3 2), BitVec.ofNat 64 3]⟩ ∧ s.program? 3 = some svcProg
    ∧ startOpen s svcProg 0 3 = true := by
  and_intros <;> decide

theorem witness_ThreadsStartedAndStopped_ThreadsStop :
    Runs startS t0 (control 0x38 (tst 0 3 0) (fld (tst 0 3 0) 51 46 == 0 && fld (tst 0 3 0) 37 0 == 0 && decide (fld (tst 0 3 0) 45 41 < 20)) true)
    ∧ fld (tst 0 3 0) 45 41 * 8 + fld (tst 0 3 0) 40 38 ≠ t0.num
    ∧ ((withThread { thd with state := .stopping }).thr 0).state = .stopping ∧ (∀ g < 64, (withThread { thd with state := .stopping }).tag 0 g ≠ .pending) := by
  and_intros <;> decide

/-- PUNLOAD of program 3, which no thread runs, and of program 1, which thread 0 runs. -/
def unloadForm (w : Head) : Form := control 0x3A w (fld w 45 0 == 0) true
theorem witness_ProgramsLoadedAndUnloaded_Punload :
    Runs startS t0 (unloadForm (ra 1 0 0)) ∧ startS.program? 3 = some svcProg ∧ unloadOpen startS 3 = true
    ∧ Runs base t0 (unloadForm (ra 3 0 0)) ∧ unloadOpen (withThread { thd with g := [(3, 1)] }) 1 = false
    ∧ Runs (withThread { thd with g := [(3, 1)] }) t0 (unloadForm (ra 3 0 0))
    ∧ ((waits .punload [fullWord 0x3A (ra 1 0 0), 3] startS).thr 0).held = some ⟨.punload, [fullWord 0x3A (ra 1 0 0), BitVec.ofNat 64 3]⟩
    ∧ unloadOpen (waits .punload [fullWord 0x3A (ra 1 0 0), 3] startS) 3 = true := by
  and_intros <;> decide

def waitAllForm (w : Head) : Form := controlW 0x3C w (fld w 51 46 == 0 && fld w 17 16 == 0)
def waitAnyForm (w : Head) : Form := controlW 0x3D w (fld w 17 16 == 0)
/-- g1 = 5 names tags 0 and 2. -/
def tagS (a b : TagState) : State := { base with tags := [(0, a), (2, b)].filter (fun e => e.2 != .free) }
theorem witness_Waits :
    Runs (tagS .done .faulted) t0 (waitAllForm (ra 0 1 0)) ∧ namedTags (base.g t0 1) 0 = [0, 2] ∧ (∀ g ∈ [0, 2], g < 64)
    ∧ (∀ g ∈ [0, 2], (tagS .done .faulted).tag 0 g ≠ .pending)
    ∧ Runs (tagS .done .pending) t0 (waitAllForm (ra 0 1 0)) ∧ (tagS .done .pending).tag 0 2 = .pending
    ∧ Runs base t0 (waitAllForm (ra 0 1 (62 * 2 ^ 18))) ∧ outside thd (namedTags (base.g t0 1) 62) = some 64
    ∧ Runs (tagS .done .faulted) t0 (waitAnyForm (ra 3 1 0)) ∧ (tagS .done .faulted).tag 0 0 = .done
    ∧ Runs base t0 (waitAnyForm (ra 3 1 0)) ∧ (∀ g ∈ [0, 2], base.tag 0 g = .free)
    ∧ Runs (tagS .free .pending) t0 (waitAnyForm (ra 3 1 0)) ∧ (tagS .free .pending).tag 0 0 = .free ∧ (tagS .free .pending).tag 0 2 = .pending
    ∧ Runs base t0 (waitAnyForm (ra 3 1 (62 * 2 ^ 18))) := by
  and_intros <;> decide
theorem witness_Waits_WaitReleases :
    ((waits .waitAll [fullWord 0x3C (ra 0 1 0)] (tagS .done .faulted)).thr 0).held = some ⟨.waitAll, [fullWord 0x3C (ra 0 1 0)]⟩
    ∧ (waits .waitAll [fullWord 0x3C (ra 0 1 0)] (tagS .done .faulted)).tag 0 2 = .faulted
    ∧ ((waits .waitAny [fullWord 0x3D (ra 3 1 0)] (tagS .free .faulted)).thr 0).held = some ⟨.waitAny, [fullWord 0x3D (ra 3 1 0)]⟩
    ∧ (waits .waitAny [fullWord 0x3D (ra 3 1 0)] (tagS .free .faulted)).tag 0 2 = .faulted
    ∧ ((waits .fence [fullWord 0x3E 0] base).thr 0).held = some ⟨.fence, [fullWord 0x3E 0]⟩ ∧ (waits .fence [fullWord 0x3E 0] base).txs = [] := by
  and_intros <;> decide
theorem witness_Waits_Fences :
    Runs base t0 (control 0x3E 0 (fld 0 51 0 == 0)) ∧ base.txs = [] ∧ Runs busyS t0 (control 0x3E 0 (fld 0 51 0 == 0))
    ∧ (∃ y ∈ busyS.txs, y.c = t0.c.val ∧ y.k = t0.k.val) := by
  refine ⟨by decide, rfl, by decide, _, List.mem_singleton.mpr rfl, rfl, rfl⟩

/-! Descriptors and the issue of tensor transactions. -/

/-- A descriptor of rows of channels in the BANK allocation, at an offset of it, writable. -/
def dsc (e : EType) (channels : Nat) (sizes : List Nat) (off : Nat) : Desc :=
  { handle := 3, esc := false, ndim := sizes.length + 1, etype := e, base := 0x4000001000 + off, block := 0, wr := true, stype := .none, scaleBase := 0, channels := channels, sideBase := 0, sizes := sizes, strides := [8, 8, 8, 8, 8].take (sizes.length + 1) }
/-- Thread 0 with descriptors in slots. -/
def slotS (l : List (Nat × Desc)) : State := { memS with threads := [(0, { thd with d := l.map (fun e => (e.1, some e.2)) })] }
/-- A tensor head: TAG 5 and three slots, with further bits. -/
def th (a b c rest : Nat) : Head := BitVec.ofNat 56 (5 * 2 ^ 41 + a * 2 ^ 33 + b * 2 ^ 25 + c * 2 ^ 17 + rest)
def tform (op : Nat) (w : Head) (ok : Bool) : Form := tensor op w [] true false false (if ok then none else some 0)

/-- What holds of every listed slot holds of every slot that is not empty. -/
theorem slots_all (P : Desc → Prop) (l : List (Nat × Option Desc)) (h : ∀ e ∈ l, ∀ y, e.2 = some y → P y) :
    ∀ i y, look none l i = some y → P y := by
  induction l with
  | nil => intro i y e; cases e
  | cons e r ih =>
    intro i y hy
    obtain ⟨k, v⟩ := e
    simp only [look] at hy
    split at hy
    · exact h (k, v) List.mem_cons_self y hy
    · exact ih (fun e he => h e (List.mem_cons_of_mem _ he)) i y hy

/-- Descriptors of a BANK allocation may be named by any operation. -/
theorem bank_allowed (op : TxOp) (d : Desc) (h : d.handle = 3) : kindAllowed memS.mem op d = true := by
  have : d.kind memS.mem = 1 := by
    unfold Desc.kind
    rw [h]
    rfl
  unfold kindAllowed
  rw [this]
  cases op <;> rfl

theorem slotS_allowed (op : TxOp) (l : List (Nat × Desc)) (h : ∀ e ∈ l, e.2.handle = 3) :
    ∀ i y, ((slotS l).thr 0).desc i = some y → kindAllowed (slotS l).mem op y = true := by
  refine slots_all (fun y => kindAllowed memS.mem op y = true) _ ?_
  intro e he y hy
  obtain ⟨x, hx, rfl⟩ := List.mem_map.mp he
  cases hy
  exact bank_allowed op _ (h x hx)

/-- The descriptor record of an FP32 row of 4 channels, WR, at the base of the allocation. -/
def record4 : List Byte :=
  leBytes 8 (3 * 2 ^ 48 + 1 * 2 ^ 44 + 7 * 2 ^ 40 + 0x4000001000) ++ leBytes 8 (2 ^ 42) ++ leBytes 8 (4 * 2 ^ 40) ++ leBytes 8 8 ++ leBytes 32 0
def recordMem : Mem := { memS.mem with cells := (run 0x4000001000 record4).filter (fun e => e.2 != 0), fills := [(0x4000001000, 64)] }
def recordS (x : Thread) : State := { memS with mem := recordMem, threads := [(0, x)] }
def recThd : Thread := { thd with g := [(1, 0x4000001000)] }
def createW : Head := BitVec.ofNat 56 (7 * 2 ^ 33 + 1 * 2 ^ 27)
def createForm (w : Head) : Form := tensor 0x80 w [] false false false (if fld w 26 0 = 0 then none else some 0)
def dropW : Head := BitVec.ofNat 56 (7 * 2 ^ 33)
def dropForm (w : Head) : Form := tensor 0x81 w [] false false false (if fld w 32 0 = 0 then none else some 0)

def fp32Code : Nat := (List.range 16).find? (fun c => EType.ofCode c == some .fp32) |>.getD 0
theorem test_fp32_code : fp32Code = 7 := by decide

theorem test_desc_create : ((run1 (.descCreate t0 createW) (recordS recThd)).thr 0).desc 7
    = some { handle := 3, esc := false, ndim := 1, etype := .fp32, base := 0x4000001000, block := 0, wr := true, stype := .none, scaleBase := 0, channels := 4, sideBase := 0, sizes := [], strides := [8] } := by decide +kernel

theorem witness_Descriptors_DescCreate :
    Runs (recordS recThd) t0 (createForm createW) ∧ scalarOk (recordS recThd) 1 0x4000001000 64 = true ∧ recordMem.poisoned 0x4000001000 = false
    ∧ (checkDesc (recordS recThd) 1 (recordMem.readN 0x4000001000 64)).isOk = true ∧ (recThd.desc (fld createW 40 33)).isNone = true
    ∧ (checkDesc memS 1 (memS.mem.readN 0x4000001000 64)).isOk = false ∧ scalarOk { memS with threads := [(0, recThd)] } 1 0x4000001000 64 = true
    ∧ Runs { memS with threads := [(0, recThd)] } t0 (createForm createW)
    ∧ Runs base t0 (createForm createW) ∧ scalarOk base 1 ((base.thr 0).reg 1).toNat 64 = false
    ∧ ({ recThd with d := [(7, some (dsc .fp32 4 [] 0))] } : Thread).desc 7 = some (dsc .fp32 4 [] 0)
    ∧ Runs (recordS { recThd with d := [(7, some (dsc .fp32 4 [] 0))] }) t0 (createForm createW) := by
  and_intros <;> decide +kernel

theorem witness_Descriptors_DescCreate_awake : Awake (recordS recThd) 0x4000001000 := awake_of_none rfl _

theorem witness_Descriptors_DescDrop :
    Runs (slotS [(7, dsc .fp32 4 [] 0)]) t0 (dropForm dropW) ∧ ((slotS [(7, dsc .fp32 4 [] 0)]).thr 0).desc (fld dropW 40 33) = some (dsc .fp32 4 [] 0)
    ∧ (slotS [(7, dsc .fp32 4 [] 0)]).txs = []
    ∧ ((waits .descDrop [fullWord 0x81 dropW] (slotS [(7, dsc .fp32 4 [] 0)])).thr 0).held = some ⟨.descDrop, [fullWord 0x81 dropW]⟩
    ∧ (waits .descDrop [fullWord 0x81 dropW] (slotS [(7, dsc .fp32 4 [] 0)])).txs = [] := by
  and_intros <;> decide
/-- A transaction that names slot 7. -/
def named7 : State := { slotS [(7, dsc .fp32 4 [] 0)] with txs := [{ c := 0, tag := 5, k := 0, pc := 0, op := .vfill 0 (dsc .fp32 4 [] 0), slots := [7] }] }
theorem witness_Descriptors_DescDrop_held :
    Runs named7 t0 (dropForm dropW) ∧ ∃ y ∈ named7.txs, y.c = t0.c.val ∧ y.k = t0.k.val ∧ fld dropW 40 33 ∈ y.slots :=
  ⟨by decide, _, List.mem_singleton.mpr rfl, rfl, rfl, by decide⟩

def fillForm (w : Head) : Form := tform 0xAC w (fld w 40 25 == 0 && fld w 10 0 == 0)
theorem witness_OperandChecks :
    (∀ w ∈ [th 0 0 7 0, BitVec.ofNat 56 (64 * 2 ^ 41 + 7 * 2 ^ 17)], tensor 0xAC w [] true false false (if fld w 40 25 = 0 ∧ fld w 10 0 = 0 then none else some 0) = fillForm w)
    ∧ Runs base t0 (fillForm (th 0 0 7 0)) ∧ (base.thr 0).desc 7 = none
    ∧ Runs (slotS [(7, dsc .fp32 4 [] 0)]) t0 (fillForm (BitVec.ofNat 56 (64 * 2 ^ 41 + 7 * 2 ^ 17))) ∧ fld (BitVec.ofNat 56 (64 * 2 ^ 41 + 7 * 2 ^ 17)) 49 41 = 64
    ∧ Runs { slotS [(7, dsc .fp32 4 [] 0)] with tags := [(5, .pending)] } t0 (fillForm (th 0 0 7 0))
    ∧ ({ slotS [(7, dsc .fp32 4 [] 0)] with tags := [(5, .pending)] } : State).tag 0 5 = .pending
    ∧ Runs (slotS [(7, { dsc .fp32 4 [] 0 with wr := false })]) t0 (fillForm (th 0 0 7 0)) ∧ TagOpen (slotS [(7, { dsc .fp32 4 [] 0 with wr := false })]) t0 5 := by
  refine ⟨?_, ?_⟩
  · intro w hw
    simp only [List.mem_cons, List.not_mem_nil, or_false] at hw
    rcases hw with rfl | rfl <;> rfl
  · and_intros <;> decide

/-- FP32 operands in slots 1, 2 and 3, of one shape and apart. -/
def vecs : List (Nat × Desc) := [(1, dsc .fp32 4 [2] 0), (2, dsc .fp32 4 [2] 512), (3, dsc .fp32 4 [2] 1024)]
theorem witness_ArithmeticIssue_VectorIssue :
    Runs (slotS vecs) t0 (tform 0xA8 (th 1 2 3 (5 * 2 ^ 13)) (decide (fld (th 1 2 3 (5 * 2 ^ 13)) 16 13 < 6) && fld (th 1 2 3 (5 * 2 ^ 13)) 10 0 == 0))
    ∧ ((slotS vecs).thr 0).desc 1 = some (dsc .fp32 4 [2] 0) ∧ ((slotS vecs).thr 0).desc 2 = some (dsc .fp32 4 [2] 512)
    ∧ ((slotS vecs).thr 0).desc 3 = some (dsc .fp32 4 [2] 1024) ∧ TagOpen (slotS vecs) t0 5
    ∧ vecSource (dsc .fp32 4 [2] 0) = true ∧ vbinShape 0 (dsc .fp32 4 [2] 0) (dsc .fp32 4 [2] 512) = true ∧ vecDest (dsc .fp32 4 [2] 1024) = true
    ∧ sameSizes (dsc .fp32 4 [2] 0) (dsc .fp32 4 [2] 1024) = true ∧ aliasOk (dsc .fp32 4 [2] 0) (dsc .fp32 4 [2] 1024) = true
    ∧ (dsc .fp32 4 [2] 512).overlaps (dsc .fp32 4 [2] 1024) = false
    ∧ Runs (slotS vecs) t0 (tform 0xA9 (th 1 0 3 (8 * 2 ^ 13)) (decide (fld (th 1 0 3 (8 * 2 ^ 13)) 16 13 < 9) && fld (th 1 0 3 (8 * 2 ^ 13)) 12 0 == 0 && fld (th 1 0 3 (8 * 2 ^ 13)) 32 25 == 0))
    ∧ Runs (slotS vecs) t0 (tform 0xAA (th 1 0 3 (8 * 2 ^ 13)) (decide (fld (th 1 0 3 (8 * 2 ^ 13)) 16 13 ≤ 8) && fld (th 1 0 3 (8 * 2 ^ 13)) 9 0 == 0 && fld (th 1 0 3 (8 * 2 ^ 13)) 32 25 == 0))
    ∧ Runs (slotS vecs) t0 (fillForm (th 0 0 3 0)) ∧ (dsc .fp32 4 [2] 1024).stype = .none ∧ (dsc .fp32 4 [2] 1024).esc = false := by
  and_intros <;> decide +kernel
theorem witness_ArithmeticIssue_VectorIssue_allowed (op : TxOp) : ∀ i y, ((slotS vecs).thr 0).desc i = some y → kindAllowed (slotS vecs).mem op y = true :=
  slotS_allowed op vecs (by decide)
/-- DA of VSCALE with FP16 scales, and its factors. -/
def scaleSlots : List (Nat × Desc) := [(1, { dsc .int8 4 [2] 0 with stype := .fp16 }), (2, dsc .fp32 1 [2] 512)]
theorem witness_ArithmeticIssue_Vscale :
    Runs (slotS scaleSlots) t0 (tform 0xAB (th 1 2 0 0) (fld (th 1 2 0 0) 24 0 == 0)) ∧ (dsc .fp32 1 [2] 512).channels = 1
    ∧ (dsc .fp32 1 [2] 512).rows = ({ dsc .int8 4 [2] 0 with stype := .fp16 } : Desc).rows ∧ TagOpen (slotS scaleSlots) t0 5 := by
  and_intros <;> decide +kernel

/-- A source, and FP32 destinations of 4 and 16 channels. -/
def redSlots : List (Nat × Desc) := [(1, dsc .fp32 4 [2] 0), (2, dsc .fp32 4 [2] 512), (3, dsc .fp32 16 [2] 1024)]
theorem witness_ArithmeticIssue_ReductionIssue :
    (∀ op ∈ [0xC0, 0xC1, 0xC2], Runs (slotS redSlots) t0 (tform op (th 1 2 0 0) (fld (th 1 2 0 0) 20 0 == 0 && fld (th 1 2 0 0) 24 22 == 0 && fld (th 1 2 0 0) 21 21 == 0)))
    ∧ Runs (slotS redSlots) t0 (tform 0xC3 (th 1 2 0 (2 ^ 21)) (fld (th 1 2 0 (2 ^ 21)) 20 0 == 0 && fld (th 1 2 0 (2 ^ 21)) 24 22 == 0))
    ∧ Runs (slotS redSlots) t0 (tform 0xC4 (th 1 3 0 (7 * 2 ^ 22)) (fld (th 1 3 0 (7 * 2 ^ 22)) 20 0 == 0 && fld (th 1 3 0 (7 * 2 ^ 22)) 21 21 == 0))
    ∧ TagOpen (slotS redSlots) t0 5 ∧ (dsc .fp32 4 [2] 512).rows = (dsc .fp32 4 [2] 0).rows ∧ (dsc .fp32 16 [2] 1024).rows = (dsc .fp32 4 [2] 0).rows
    ∧ ((slotS redSlots).thr 0).desc 3 = some (dsc .fp32 16 [2] 1024) := by
  and_intros <;> decide +kernel

/-- A source of two rows, two indices, a destination of two rows, and two gates. -/
def gatherSlots : List (Nat × Desc) := [(1, dsc .fp32 4 [2] 0), (2, dsc .int32 2 [] 512), (3, dsc .fp32 4 [2] 1024), (4, dsc .fp32 2 [] 2048)]
theorem witness_ArithmeticIssue_GatherIssue :
    Runs (slotS gatherSlots) t0 (tform 0xC8 (th 1 2 3 0) (fld (th 1 2 3 0) 16 0 == 0)) ∧ (dsc .fp32 4 [2] 0).ndim = 2 ∧ (dsc .int32 2 [] 512).ndim = 1
    ∧ (dsc .fp32 4 [2] 1024).size 1 = (dsc .int32 2 [] 512).channels ∧ addType (dsc .fp32 4 [2] 0) = true
    ∧ Runs (slotS gatherSlots) t0 (tform 0xC9 (th 1 2 3 0) (fld (th 1 2 3 0) 6 0 == 0 && fld (th 1 2 3 0) 16 8 == 0))
    ∧ Runs (slotS gatherSlots) t0 (tform 0xC9 (th 1 2 3 (4 * 2 ^ 9 + 2 ^ 8)) (fld (th 1 2 3 (4 * 2 ^ 9 + 2 ^ 8)) 6 0 == 0 && bit (th 1 2 3 (4 * 2 ^ 9 + 2 ^ 8)).toNat 8))
    ∧ (dsc .fp32 2 [] 2048).channels = (dsc .int32 2 [] 512).channels ∧ TagOpen (slotS gatherSlots) t0 5 := by
  and_intros <;> decide +kernel
/-- A matrix of 2 rows of 4 channels, and its transpose. -/
def xposeSlots : List (Nat × Desc) := [(1, dsc .fp32 4 [2] 0), (2, dsc .fp32 2 [4] 512)]
/-- Thread 0 of CONDUCTOR_4, a stack-base conductor. -/
def stackS : State := { base with threads := [(32, thd)] }
theorem witness_ArithmeticIssue_TransposeIssue :
    Runs (slotS xposeSlots) t0 (tensor 0xD0 (th 1 2 0 0) [] true true false none) ∧ Runs (slotS xposeSlots) t0 (tensor 0xD1 (th 1 2 0 0) [] true false false none)
    ∧ 2 ≤ (dsc .fp32 4 [2] 0).ndim ∧ (dsc .fp32 2 [4] 512).channels = (dsc .fp32 4 [2] 0).size 1 ∧ (dsc .fp32 2 [4] 512).size 1 = (dsc .fp32 4 [2] 0).channels
    ∧ (∀ k < 3, (dsc .fp32 2 [4] 512).size (k + 2) = (dsc .fp32 4 [2] 0).size (k + 2)) ∧ TagOpen (slotS xposeSlots) t0 5
    ∧ chosen stackS ⟨4, 0⟩ = true ∧ (stackS.thr 32).pc.toNat + 1 ≤ codeLength stackS ⟨4, 0⟩ := by
  and_intros <;> decide +kernel
theorem witness_ArithmeticIssue_CopyIssue :
    Runs (slotS vecs) t0 (tform 0x88 (th 1 3 0 0) (fld (th 1 3 0 0) 24 0 == 0)) ∧ sameShape (dsc .fp32 4 [2] 0) (dsc .fp32 4 [2] 1024) = true
    ∧ (dsc .fp32 4 [2] 0).overlaps (dsc .fp32 4 [2] 1024) = false
    ∧ Runs (slotS xposeSlots) t0 (tform 0x88 (th 1 2 0 0) (fld (th 1 2 0 0) 24 0 == 0)) ∧ sameShape (dsc .fp32 4 [2] 0) (dsc .fp32 2 [4] 512) = false
    ∧ Runs (slotS vecs) t0 (tform 0x88 (th 1 1 0 0) (fld (th 1 1 0 0) 24 0 == 0)) ∧ (dsc .fp32 4 [2] 0).overlaps (dsc .fp32 4 [2] 0) = true
    ∧ sameShape (dsc .fp32 4 [2] 0) (dsc .fp32 4 [2] 0) = true := by
  and_intros <;> decide +kernel

/-! The issue of movement, LOAD, UNLOAD, SWEEP, ROUTE, FORECAST and SESS.*. -/

/-- An object 5, a STREAM session in slot 0 of generation 5, and descriptor slot 1. -/
def movS : State :=
  { slotS [(1, dsc .int8 64 [] 0)] with store := { State.reset.store with objects := [⟨5, 0, 0, 4, 3, [1], true, 0, 0⟩] }, net := { State.reset.net with sessions := [(0, { state := .opened, gen := 5 })] } }
/-- A tensor head: TAG 5, slot 1, RA = g1, RB = g2, and further bits. -/
def mv (rest : Nat) : Head := BitVec.ofNat 56 (5 * 2 ^ 41 + 1 * 2 ^ 33 + 1 * 2 ^ 27 + rest)
def mform (op : Nat) (w : Head) (ok : Bool) : Form := tensor op w [] true true false (if ok then none else some 0)
/-- NET.RECV's receipt goes into the BANK allocation. -/
def recvS : State := { movS with threads := [(0, { movS.thr 0 with g := [(1, 5), (2, 0x4000001800)] })] }
/-- NET.RECV for any session. -/
def recvAny : State := { movS with threads := [(0, { movS.thr 0 with g := [(1, 0xFFFFFFFF), (2, 0x4000001800)] })] }

theorem witness_MovementAndLoadIssue_MovementIssue :
    Runs movS t0 (mform 0x89 (mv (2 * 2 ^ 21)) (fld (mv (2 * 2 ^ 21)) 20 0 == 0)) ∧ (movS.thr 0).desc 1 = some (dsc .int8 64 [] 0) ∧ TagOpen movS t0 5
    ∧ movS.object? 5 = some ⟨5, 0, 0, 4, 3, [1], true, 0, 0⟩ ∧ 3 * 4096 + (dsc .int8 64 [] 0).imageBytes ≤ 4 * 4096
    ∧ Runs movS t0 (mform 0x8A (mv (2 * 2 ^ 21)) (fld (mv (2 * 2 ^ 21)) 20 0 == 0)) ∧ movS.txs = []
    ∧ Runs movS t0 (mform 0x8B (mv (1 * 2 ^ 24)) (decide (fld (mv (1 * 2 ^ 24)) 26 24 < 5) && fld (mv (1 * 2 ^ 24)) 22 0 == 0))
    ∧ movS.ownLive? 1 5 = some 0 ∧ sendTypeOk (movS.sess 0).kind (fld (mv (2 * 2 ^ 24)) 26 24) = true ∧ sendTypeOk (movS.sess 0).kind (fld (mv (3 * 2 ^ 24)) 26 24) = false
    ∧ Runs movS t0 (mform 0x8B (mv (3 * 2 ^ 24)) (decide (fld (mv (3 * 2 ^ 24)) 26 24 < 5) && fld (mv (3 * 2 ^ 24)) 22 0 == 0))
    ∧ Runs (slotS [(1, dsc .int8 64 [] 0)]) t0 (mform 0x8B (mv 0) (decide (fld (mv 0) 26 24 < 5) && fld (mv 0) 22 0 == 0)) ∧ (slotS []).ownLive? 1 5 = none
    ∧ Runs recvS t0 (mform 0x8C (mv (2 * 2 ^ 21)) (fld (mv (2 * 2 ^ 21)) 20 0 == 0)) ∧ recvS.ownLive? 1 5 = some 0 ∧ receiptOk recvS 1 0x4000001800 = true
    ∧ Runs recvAny t0 (mform 0x8C (mv (2 * 2 ^ 21)) (fld (mv (2 * 2 ^ 21)) 20 0 == 0)) ∧ receiptOk recvAny 1 0x4000001800 = true := by
  and_intros <;> decide +kernel
theorem witness_MovementAndLoadIssue_MovementIssue_allowed (op : TxOp) : ∀ i y, (movS.thr 0).desc i = some y → kindAllowed movS.mem op y = true :=
  slotS_allowed op _ (by decide)

/-- A plan: one group of 64 rows at lead 0 of tile 0, INT4 in placement 0. -/
def planMem : Mem := { memS.mem with cells := [(0x4000001001, 0x80), (0x400000100C, 0x10)], fills := [(0x4000001000, 4096)] }
def weights : Desc := { dsc .int4 64 [256, 1] 64 with strides := [2, 2, 512] }
def planS : State := { memS with mem := planMem, threads := [(0, { recThd with d := [(1, some weights)] })] }
/-- The record's line poisoned. -/
def planPoison : State := { planS with mem := { planMem with poison := [(0x4000001000 / 64, true)] } }
def plan0 : Plan := parsePlan (planMem.readN 0x4000001000 64)
/-- The region the plan makes, resident. -/
def region0 : Region := { plan0.region 0 weights 0 0 with state := .resident }
def planTaken : State := { planS with arr := { planS.arr with regions := [region0] } }
/-- LOAD and UNLOAD of the plan record that g1 names. -/
def loadForm (w : Head) : Form := tensor 0x8D w [] true true true (if fld w 26 0 == 0 then none else some 0)
def leaveForm (w : Head) : Form := tensor 0x8E w [] true true true (if fld w 40 33 == 0 && fld w 26 0 == 0 then none else some 0)
def uw : Head := BitVec.ofNat 56 (5 * 2 ^ 41 + 1 * 2 ^ 27)
theorem test_plan_record : plan0.ngroups = 1 ∧ plan0.ntiles = 1 ∧ plan0.lead = 0 ∧ plan0.reservedOk = true := by decide +kernel
theorem planS_awake : Awake planS 0x4000001000 ∧ Awake planTaken 0x4000001000 := ⟨awake_of_none rfl _, awake_of_none rfl _⟩
theorem witness_MovementAndLoadIssue_LoadIssue :
    Runs planS t0 (loadForm (mv 0)) ∧ (planS.thr 0).desc 1 = some weights ∧ TagOpen planS t0 5 ∧ scalarOk planS 1 0x4000001000 64 = true
    ∧ planS.mem.poisoned 0x4000001000 = false ∧ Runs planPoison t0 (loadForm (mv 0)) ∧ scalarOk planPoison 1 0x4000001000 64 = true
    ∧ planPoison.mem.poisoned 0x4000001000 = true ∧ loadCheck planS 1 plan0 weights = none ∧ kindAllowed planS.mem (.load weights plan0) weights = true
    ∧ Runs planTaken t0 (leaveForm uw) ∧ (∃ r ∈ planTaken.arr.regions, plan0.matches r = true)
    ∧ Runs planS t0 (leaveForm uw) ∧ (∀ r ∈ planS.arr.regions, plan0.matches r = false)
    ∧ loadCheck planTaken 1 plan0 weights = some 5 ∧ Runs planTaken t0 (loadForm (mv 0)) ∧ loadCheck planS 1 plan0 (dsc .int8 64 [256, 1] 64) = some 3
    ∧ Runs movS t0 (loadForm (mv 0)) ∧ scalarOk movS 1 5 64 = false := by
  and_intros <;> decide +kernel

/-- The layer's input, and a destination. -/
def sweepSlots2 : List (Nat × Desc) := [(1, { dsc .act8 64 [2] 0 with strides := [4, 4] }), (2, dsc .fp32 64 [2] 512)]
def sweepDin : Desc := { dsc .act8 64 [2] 0 with strides := [4, 4] }
def sweepS : State := { slotS sweepSlots2 with arr := { State.reset.arr with regions := [region0] } }
def swW : Head := th 1 2 0 (3 * 2 ^ 54)
def sw2 : Word64 := 0x8000000000000000
def sweepForm (w : Head) (w1 w2 w3 : Word64) : Form := tensor 0xA0 w [w1, w2, w3] true true false (sweepBad w w1 w2 w3)
def sweepRead (w1 : Word64) : SweepOp := readSweep sweepS t0 swW w1 sw2 0 sweepDin
/-- The sweep held, and alone in its wait. -/
def sweepTx : Tx := { c := 0, tag := 5, k := 0, pc := 0, op := .sweep (sweepRead 0), slots := sweepOperandSlots swW 0 sw2 0 }
def sweepHeld : State :=
  { waits .sweep [fullWord 0xA0 swW, 0, sw2, 0] sweepS with arr := { sweepS.arr with sweeps := { sweepS.arr.sweeps with waiting := [sweepTx] } } }
theorem witness_SweepAndRouteIssue_SweepIssue :
    Runs sweepS t0 (sweepForm swW 0 sw2 0) ∧ (∀ i ∈ sweepOperandSlots swW 0 sw2 0, ((sweepS.thr 0).desc i).isSome = true)
    ∧ (sweepS.thr 0).desc (fld swW 40 33) = some sweepDin ∧ TagOpen sweepS t0 5
    ∧ sweepCheck sweepS (sweepRead 0) (sweepSlots swW 0 sw2 0) (peerMtu sweepS (sweepRead 0).sess) = none
    ∧ Runs sweepS t0 (sweepForm swW (2 ^ 48) sw2 0)
    ∧ sweepCheck sweepS (sweepRead (2 ^ 48)) (sweepSlots swW (2 ^ 48) sw2 0) (peerMtu sweepS (sweepRead (2 ^ 48)).sess) = some (1, 1)
    ∧ sweepHeld.arr.sweeps.queue.length < 2 ∧ sweepHeld.test.holdIssue = false ∧ sweepHeld.secondOf 0 = none ∧ queueWinner sweepHeld = some t0.num
    ∧ (sweepHeld.thr 0).held = some ⟨.sweep, [fullWord 0xA0 swW, 0, sw2, 0]⟩ ∧ sweepHeld.heldSweep t0.num = some sweepTx
    ∧ 2 ≤ ({ sweepS with arr := { sweepS.arr with sweeps := { sweepS.arr.sweeps with queue := [1, 2] } } } : State).arr.sweeps.queue.length := by
  and_intros <;> decide +kernel

/-- A routed layer 0 of two experts. -/
def expert1 : Region := { region0 with routed := true, expert := 1 }
def routeSlots : List (Nat × Desc) :=
  [(1, dsc .fp32 2 [2] 0), (2, dsc .int32 2 [] 256), (3, dsc .fp32 2 [] 320), (4, dsc .int32 2 [] 384), (5, dsc .int32 2 [] 448)]
def routeS : State :=
  { memS with threads := [(0, { thd with g := [(1, 0x4000001800)], d := routeSlots.map (fun e => (e.1, some e.2)) })], arr := { State.reset.arr with regions := [expert1] } }
def routeW : Head := th 1 2 3 (2 ^ 54 + 4 * 2 ^ 9 + 5 * 2)
def routeForm (w : Head) (w1 : Word64) : Form := tensor 0xD8 w [w1] true true false (if xf w1 32 0 == 0 then none else some 1)
theorem witness_SweepAndRouteIssue_RouteIssue :
    Runs routeS t0 (routeForm routeW (2 ^ 39)) ∧ (routeS.thr 0).desc (fld routeW 40 33) = some (dsc .fp32 2 [2] 0)
    ∧ (routeS.thr 0).desc (fld routeW 32 25) = some (dsc .int32 2 [] 256) ∧ (routeS.thr 0).desc (fld routeW 24 17) = some (dsc .fp32 2 [] 320)
    ∧ (routeS.thr 0).desc (fld routeW 16 9) = some (dsc .int32 2 [] 384) ∧ (routeS.thr 0).desc (fld routeW 8 1) = some (dsc .int32 2 [] 448)
    ∧ TagOpen routeS t0 5 ∧ (dsc .fp32 2 [2] 0).ndim = 2 ∧ (dsc .int32 2 [] 256).channels = (dsc .fp32 2 [2] 0).rows
    ∧ (dsc .fp32 2 [] 320).channels = (xf (2 ^ 39) 47 45 + 1) * (dsc .fp32 2 [2] 0).rows ∧ layerExperts (layerRegions routeS 0) = 2
    ∧ hubAlloc routeS 1 0x4000001800 (64 + 216 * 2 + 4 * 1 * 2) = true := by
  and_intros <;> decide +kernel
theorem witness_SweepAndRouteIssue_RouteIssue_allowed (op : TxOp) : ∀ i y, (routeS.thr 0).desc i = some y → kindAllowed routeS.mem op y = true := by
  refine slots_all (fun y => kindAllowed memS.mem op y = true) _ ?_
  intro e he y hy
  obtain ⟨x, hx, rfl⟩ := List.mem_map.mp he
  cases hy
  exact bank_allowed op _ ((by decide : ∀ e ∈ routeSlots, e.2.handle = 3) x hx)

/-- Forecast A (layer 0, 64 to 128 columns), Forecast B (layer 1, one expert and one group), one token. -/
def fcRegionA : Region := { region0 with place := 1 }
def fcRegionB : Region := { region0 with place := 1, layer := 1, tile := 1, inwidth := 128, fcB := true, fcE := 0, fcG := 1 }
def fcDin : Desc := { dsc .act8 64 [1] 0 with strides := [4, 4] }
def fcDc : Desc := dsc .int32 1 [] 128
def fcDh : Desc := { dsc .act8 128 [1] 256 with block := 32, stype := .fp16, scaleBase := 0x4000001200 }
def fcDsc : Desc := dsc .fp32 1 [1] 768
def fcS : State :=
  { memS with threads := [(0, { thd with g := [(1, 0x4000001800)], d := [(1, some fcDin), (2, some fcDc), (3, some fcDh), (4, some fcDsc)] })], arr := { State.reset.arr with regions := [fcRegionA, fcRegionB] } }
def fcW : Head := th 1 2 3 (2 ^ 54 + 4 * 2 ^ 9)
def fcW1 : Word64 := 0x0000000104000000
def fcForm (w : Head) (w1 : Word64) : Form := tensor 0xD9 w [w1] true true false (if fld w 8 0 == 0 then (if xf w1 23 0 == 0 then none else some 1) else some 0)
def fcOp : ForecastOp :=
  { din := fcDin, dc := fcDc, dh := fcDh, dsc := fcDsc, alayer := xf fcW1 63 48, blayer := xf fcW1 47 32, actBase := ((fcS.thr 0).reg (xf fcW1 31 26)).toNat, fidelity := bit fcW1.toNat 25, first := bit fcW1.toNat 24 }
theorem witness_SweepAndRouteIssue_ForecastIssue :
    Runs fcS t0 (fcForm fcW fcW1) ∧ (fcS.thr 0).desc (fld fcW 40 33) = some fcDin ∧ (fcS.thr 0).desc (fld fcW 32 25) = some fcDc
    ∧ (fcS.thr 0).desc (fld fcW 24 17) = some fcDh ∧ (fcS.thr 0).desc (fld fcW 16 9) = some fcDsc ∧ TagOpen fcS t0 5
    ∧ forecastCheck fcS fcW fcW1 fcOp = none := by
  and_intros <;> decide +kernel

/-- The FORECAST in flight, its second sweep waiting for the queue. -/
def secondS : State :=
  { fcS with tags := [(5, .pending)], txs := [{ c := 0, tag := 5, k := 0, pc := 0, op := .forecast fcOp, slots := [] }], arr := { fcS.arr with sweeps := { fcS.arr.sweeps with seconds := [5] } } }
theorem witness_SweepAndRouteIssue_SweepIssue_second :
    secondS.arr.sweeps.queue.length < 2 ∧ secondS.test.holdIssue = false ∧ secondS.secondOf 0 = some 5 ∧ queueWinner secondS = some t0.num := by
  and_intros <;> decide +kernel

/-- SESS.*: slots 1 and 2, the handle's address in g1 or g2. -/
def ses (a d r rest : Nat) : Head := BitVec.ofNat 56 (5 * 2 ^ 41 + a * 2 ^ 33 + d * 2 ^ 25 + r * 2 ^ 19 + rest)
/-- Text, tokens and logits in slots 1, 2 and 3. -/
def sesS : State := slotS [(1, dsc .int8 4 [2] 0), (2, dsc .int32 4 [2] 512), (3, dsc .fp32 4 [2] 1024)]
theorem witness_SessionInstructionIssue :
    Runs sesS t0 (mform 0xE0 (ses 3 2 1 0) (fld (ses 3 2 1 0) 18 0 == 0)) ∧ (sesS.thr 0).desc (fld (ses 3 2 1 0) 40 33) = some (dsc .fp32 4 [2] 1024)
    ∧ (dsc .fp32 4 [2] 1024).etype ≠ .int8
    ∧ Runs sesS t0 (mform 0xE0 (ses 1 2 1 0) (fld (ses 1 2 1 0) 18 0 == 0)) ∧ (sesS.thr 0).desc (fld (ses 1 2 1 0) 40 33) = some (dsc .int8 4 [2] 0)
    ∧ (sesS.thr 0).desc (fld (ses 1 2 1 0) 32 25) = some (dsc .int32 4 [2] 512) ∧ (dsc .int8 4 [2] 0).etype = .int8 ∧ (dsc .int32 4 [2] 512).etype = .int32
    ∧ (dsc .int32 4 [2] 512).wr = true
    ∧ Runs sesS t0 (mform 0xE1 (ses 2 1 1 0) (fld (ses 2 1 1 0) 18 0 == 0)) ∧ (sesS.thr 0).desc (fld (ses 2 1 1 0) 40 33) = some (dsc .int32 4 [2] 512)
    ∧ (sesS.thr 0).desc (fld (ses 2 1 1 0) 32 25) = some (dsc .int8 4 [2] 0)
    ∧ Runs sesS t0 (mform 0xE2 (ses 3 2 1 (2 ^ 18)) (fld (ses 3 2 1 (2 ^ 18)) 17 0 == 0)) ∧ (sesS.thr 0).desc (fld (ses 3 2 1 (2 ^ 18)) 40 33) = some (dsc .fp32 4 [2] 1024)
    ∧ Runs sesS t0 (mform 0xE3 (ses 3 0 1 (2 ^ 18)) (fld (ses 3 0 1 (2 ^ 18)) 6 0 == 0 && fld (ses 3 0 1 (2 ^ 18)) 17 8 == 0 && fld (ses 3 0 1 (2 ^ 18)) 32 25 == 0))
    ∧ bit (ses 3 0 1 (2 ^ 18)).toNat 18 = true ∧ TagOpen sesS t0 5
    ∧ Runs base t0 (mform 0xE3 (ses 0 0 1 (1023 * 2 ^ 8)) (fld (ses 0 0 1 (1023 * 2 ^ 8)) 6 0 == 0 && fld (ses 0 0 1 (1023 * 2 ^ 8)) 40 33 == 0 && fld (ses 0 0 1 (1023 * 2 ^ 8)) 32 25 == 0))
    ∧ bit (ses 0 0 1 (1023 * 2 ^ 8)).toNat 18 = false ∧ TagOpen base t0 5
    ∧ Runs sesS t0 (mform 0xE4 (ses 0 2 1 65535) (fld (ses 0 2 1 65535) 18 16 == 0 && fld (ses 0 2 1 65535) 40 33 == 0))
    ∧ (∀ r ∈ [0x10, 0x16], Runs base t0 (mform 0xE5 (ses 0 0 1 r)
        (fld (ses 0 0 1 r) 18 8 == 0 && decide (0x10 ≤ fld (ses 0 0 1 r) 7 0) && decide (fld (ses 0 0 1 r) 7 0 ≤ 0x16) && fld (ses 0 0 1 r) 40 33 == 0 && fld (ses 0 0 1 r) 32 25 == 0)))
    ∧ chosen base t0 = true ∧ (base.thr 0).pc.toNat + 1 ≤ codeLength base t0 ∧ insideLoop base t0 1 = true ∧ fld (ses 1 0 1 0) 55 54 = 0
    ∧ fld (ses 1 0 1 0) 18 0 = 0 ∧ fld (ses 1 0 1 0) 40 33 ≠ 0 := by
  and_intros <;> decide +kernel
theorem witness_SessionInstructionIssue_allowed (op : TxOp) : ∀ i y, (sesS.thr 0).desc i = some y → kindAllowed sesS.mem op y = true :=
  slotS_allowed op _ (by decide)

/-! The ends of memory transactions. -/

/-- Any work in flight on tag 5 of CONDUCTOR_0. -/
theorem pend_tx (op : TxOp) (s : State) : (pend op s).tx? 0 5 = some { c := 0, tag := 5, k := 0, pc := 0, op := op, slots := [] } := by
  rw [show pend op s = { s with tags := [(5, .pending)], txs := [{ c := 0, tag := 5, k := 0, pc := 0, op := op, slots := [] }] } from rfl]
  rfl

/-- A gather whose second index, 2, lies outside a source of two rows. -/
def badGather : TxOp := .gather (dsc .fp32 4 [2] 0) (dsc .int32 2 [] 512) (dsc .fp32 4 [2] 1024)
def badMem : Mem := { memS.mem with cells := [(0x4000001204, 2)], fills := [(0x4000001000, 4096)] }
theorem test_gather_out_of_range : (gatherResult 0 0 badMem (dsc .fp32 4 [2] 0) (dsc .int32 2 [] 512) (dsc .fp32 4 [2] 1024)).fault = some (0x0206, 1, 1) := by
  decide +kernel
theorem test_vfill : (run1 (.tensorOpComplete 0 5 {}) (pend (.vfill 0x3F800000 (dsc .fp32 1 [] 0)) memS)).mem.readLe 0x4000001000 4 = 0x3F800000
    ∧ (run1 (.tensorOpComplete 0 5 {}) (pend (.vfill 0x3F800000 (dsc .fp32 1 [] 0)) memS)).tag 0 5 = .done := by decide +kernel
theorem test_vbin_adds : (run1 (.tensorOpComplete 0 5 {}) (pend (.vbin 0 0 (dsc .fp32 1 [] 0) (dsc .fp32 1 [] 0) (dsc .fp32 1 [] 64))
    { memS with mem := { memS.mem with cells := [(0x4000001002, 0x80), (0x4000001003, 0x3F)], fills := [(0x4000001000, 4)] } })).mem.readLe 0x4000001040 4 = 0x40000000 := by
  decide +kernel

theorem witness_TransactionEnds_TensorCompletions (op : TxOp) :
    (pend op base).tx? (0 : Fin 20).val (5 : Fin 512).val = some { c := 0, tag := 5, k := 0, pc := 0, op := op, slots := [] }
    ∧ firstPoison memS.mem [dsc .fp32 4 [2] 0] = none ∧ firstPoison memPoison.mem [dsc .fp32 4 [2] 0] = some 0x4000001000
    ∧ recordAreaOk memS 0 = false :=
  ⟨pend_tx op base, by decide +kernel, by decide +kernel, by decide +kernel⟩

theorem witness_VectorFunctions :
    0 < (dsc .fp32 4 [2] 0).rows ∧ 3 < (dsc .fp32 4 [2] 0).channels
    ∧ (gatherResult 0 0 memS.mem (dsc .fp32 4 [2] 0) (dsc .int32 2 [] 512) (dsc .fp32 4 [2] 1024)).fault = none := by and_intros <;> decide +kernel

/-- A DMA.COPY from a staging page that is not staged, a fetch of it, a store read and write, and a sweep. -/
def stageSrc : Desc := { dsc .int8 64 [] 0 with handle := 4, base := 0x10000 }
def stageS : State :=
  { base with mem := { memS.mem with allocs := [⟨3, 1, 1, 0x4000001000, 4096⟩, ⟨4, 4, 1, 0x10000, 65536⟩] }, kv := { State.reset.kv with unstaged := [1] } }
def objS : State := { movS with store := { movS.store with objects := [⟨5, 0, 0, 4, 3, [1], true, 0, 0⟩] } }
def sweepRun : State :=
  { sweepS with tags := [(5, .pending)], txs := [sweepTx], arr := { sweepS.arr with sweeps := { State.reset.arr.sweeps with work := [{ num := 5 }], finishing := [5] } } }
/-- The object in SPILL, the store ready, without and with a band erase of allowance. -/
def spillObj (credit : Int) : State :=
  setField 0x00070000 31 29 2 { movS with store := { movS.store with objects := [⟨5, 3, 0, 4, 3, [1], true, 0, 0⟩], credit := credit } }
def storing (s : State) : State := pend (.storeWrite (dsc .int8 64 [] 0) 5 3) s
def storingTx : Tx := { c := 0, tag := 5, k := 0, pc := 0, op := .storeWrite (dsc .int8 64 [] 0) 5 3, slots := [] }
theorem witness_TransactionEnds_MovementCompletions :
    unstagedAt base (dsc .int8 64 [] 0) ((dsc .int8 64 [] 0).imageAddrs.drop 0) = none ∧ unstagedAt stageS stageSrc (stageSrc.imageAddrs.drop 0) = some 0
    ∧ poisonAt stageS.mem ((stageSrc.imageAddrs.take (0 + 0)).drop 0) = none ∧ stageS.kv.fetches = []
    ∧ movS.object? 5 = some ⟨5, 0, 0, 4, 3, [1], true, 0, 0⟩ ∧ 2 < 2 + ceilDiv (dsc .int8 64 [] 0).imageBytes 4096 ∧ 2 < 3
    ∧ firstWrite (storing movS) storingTx 5 = true
    ∧ unstagedPage movS (dsc .int8 64 [] 0) = none ∧ firstPoison movS.mem [dsc .int8 64 [] 0] = none
    ∧ (spillObj 65536).object? 5 = some ⟨5, 3, 0, 4, 3, [1], true, 0, 0⟩ ∧ (spillObj 65536).storeState = 2 ∧ 65536 ≤ (spillObj 65536).store.credit
    ∧ firstWrite (storing (spillObj 65536)) storingTx 5 = true ∧ (spillObj 65535).storeState = 2 ∧ (spillObj 65535).store.credit < 65536
    ∧ firstWrite (storing (spillObj 65535)) storingTx 5 = true ∧ unstagedPage (spillObj 65535) (dsc .int8 64 [] 0) = none
    ∧ sweepRun.tx? 0 5 = some sweepTx ∧ sweepRun.sweepOf 5 = some (sweepRead 0) ∧ sweepRun.workOf 5 = some { num := 5 } ∧ ({ num := 5 } : SweepWork).todo = []
    ∧ sweepEnds sweepRun 5 (sweepRead 0) { num := 5 } = true
    ∧ sweepPoison sweepRun.mem (sweepRead 0) (({ num := 5 } : SweepWork).withShares sweepRun (sweepRead 0)) = none
    ∧ sweepEnds sweepRun 5 (sweepRead 0) { num := 5, poison := some 64 } = true
    ∧ sweepPoison sweepRun.mem (sweepRead 0) (({ num := 5, poison := some 64 } : SweepWork).withShares sweepRun (sweepRead 0)) = some 64 := by
  and_intros <;> decide +kernel
theorem witness_TransactionEnds_TensorCompletions_handles : poisonAt memS.mem (handleAddrs 0x4000001800 2) = none := by decide +kernel

/-! The sweep pipeline, sends and receives, LOAD and UNLOAD. -/

/-- A sweep at the queue's head, of a class, with what it does. -/
def queued (op : SweepOp) : State :=
  { sweepRun with txs := [{ sweepTx with op := .sweep op }], arr := { sweepS.arr with sweeps := { State.reset.arr.sweeps with queue := [5] } } }
def fidOp : SweepOp := { sweepRead 0 with fidelity := true }
/-- A deferred sweep that the hold space serves, with one row of work; and a sweep that sends its tiles. -/
def deferOp : SweepOp := { sweepRead 0 with qrow := true, d1 := some { dsc .act8 64 [2] 2048 with strides := [4, 4] } }
def held5 (op : SweepOp) (hold : Option Nat) : State :=
  { sweepRun with net := movS.net, txs := [{ sweepTx with op := .sweep op }], arr := { sweepS.arr with sweeps := { State.reset.arr.sweeps with work := [{ num := 5, rows := [(1, [])] }], finishing := [5], hold := hold } } }
/-- The deferred sweep's values held. -/
def heldS : State :=
  { held5 deferOp (some 5) with arr := { sweepS.arr with sweeps := { State.reset.arr.sweeps with work := [{ num := 5, rows := [(1, [])], held := some [(1, [])] }], finishing := [5], hold := some 5 } } }
def sendOp : SweepOp := { sweepRead 0 with send := 1, sess := 5 }
theorem witness_SweepPipeline :
    (queued (sweepRead 0)).sweepOf 5 = some (sweepRead 0) ∧ (queued (sweepRead 0)).arr.sweeps.stalled = false ∧ (queued (sweepRead 0)).test.holdIssue = false
    ∧ regionsReady (queued (sweepRead 0)) (sweepRead 0) = true ∧ sweepsRun (queued (sweepRead 0)) = true ∧ (sweepRead 0).fidelity = false
    ∧ (queued (sweepRead 0)).bat.step.any TokenStep.headroom = false
    ∧ (queued fidOp).sweepOf 5 = some fidOp ∧ regionsReady (queued fidOp) fidOp = true ∧ (∃ n ∈ sweepMacros (queued fidOp) fidOp, stale (queued fidOp) n = true)
    ∧ (queued fidOp).test.slice = none ∧ (queued fidOp).pow.breeze = []
    ∧ (held5 deferOp none).sweepOf 5 = some deferOp ∧ deferOp.qrow = true ∧ (∀ n ∈ (held5 deferOp none).arr.sweeps.before 5, ∀ o, (held5 deferOp none).sweepOf n = some o → o.qrow = false)
    ∧ (held5 deferOp (some 5)).workOf 5 = some { num := 5, rows := [(1, [])] } ∧ finishReads_ (held5 deferOp (some 5)) 5 deferOp = true
    ∧ finishReads_ (held5 deferOp none) 5 deferOp = true ∧ (held5 deferOp none).arr.sweeps.hold = none
    ∧ heldS.sweepOf 5 = some deferOp ∧ (heldS.workOf 5).any (fun w => w.held.isSome && w.todo.isEmpty && w.rows.any (fun e => e.1 == 1)) = true
    ∧ heldS.arr.sweeps.hold = some 5 ∧ (∀ e ∈ heldS.arr.sweeps.rowScales, ¬ (e.1 = 5 ∧ e.2.1 = 1))
    ∧ (∀ e ∈ (held5 deferOp (some 5)).arr.sweeps.rowScales, ¬ (e.1 = 5 ∧ e.2.1 = 1))
    ∧ (held5 sendOp none).sweepOf 5 = some sendOp ∧ finishHeld (held5 sendOp none) 5 sendOp = false ∧ frameOk sendOp 0 0 2 = true
    ∧ (∀ j < 2, tileSent (held5 sendOp none) 5 0 (0 + j) = false) ∧ openSlot (held5 sendOp none) 5 = some 0 ∧ ((held5 sendOp none).sess 0).state ≠ .free := by
  and_intros <;> first | decide +kernel | (intro n h; exact absurd h (by decide +kernel))
theorem witness_SweepPipeline_room :
    ((held5 sendOp none).sess 0).txNext + (cut ((held5 sendOp none).sess 0).room ((held5 sendOp none).sess 0).txNext typPeer
      (frameBytes (held5 sendOp none).mem sendOp (({ num := 5, rows := [(1, [])] } : SweepWork).withShares (held5 sendOp none) sendOp) (held5 sendOp none).epoch (held5 sendOp none).myRank 0 0 0 0 1) false).length ≤ 0xFFFFFFFE := by
  decide +kernel

def sendTx (h : Nat) : TxOp := .netSend (dsc .int8 64 [] 0) h 1 true
def recvTx (h : Nat) : TxOp := .netRecv (dsc .int8 64 [] 0) h 0x4000001800
def txOf (op : TxOp) : Tx := { c := 0, tag := 5, k := 0, pc := 0, op := op, slots := [] }
/-- A message received on the session. -/
def inboxS : State := { movS with net := { movS.net with sessions := [(0, { state := .opened, gen := 5, inbox := [⟨1, 1, true, [7]⟩] })] } }
theorem witness_SendsAndReceives :
    firstSend (pend (sendTx 5) movS) (txOf (sendTx 5)) 5 = true ∧ openSlot (pend (sendTx 5) movS) 5 = some 0 ∧ ((pend (sendTx 5) movS).sess 0).state ≠ .free
    ∧ firstPoison (pend (sendTx 5) movS).mem [dsc .int8 64 [] 0] = none
    ∧ sealedBytes (pend (sendTx 5) movS) + copyBytes (cut (movS.sess 0).room 0 (sendType 1) (Sys2Proof.Machine.imageBytes movS.mem (dsc .int8 64 [] 0)) true) ≤ (pend (sendTx 5) movS).field 0x00060018 31 28 * 2 ^ 30
    ∧ (movS.sess 0).txNext + (cut (movS.sess 0).room (movS.sess 0).txNext (sendType 1) (Sys2Proof.Machine.imageBytes movS.mem (dsc .int8 64 [] 0)) true).length ≤ 0xFFFFFFFE
    ∧ firstSend (pend (sendTx 9) movS) (txOf (sendTx 9)) 9 = true ∧ openSlot (pend (sendTx 9) movS) 9 = none
    ∧ (receivesOf (pend (recvTx 5) inboxS) 5).head? = some (txOf (recvTx 5)) ∧ openSlot (pend (recvTx 5) inboxS) 5 = some 0
    ∧ ((pend (recvTx 5) inboxS).sess 0).inbox = [⟨1, 1, true, [7]⟩]
    ∧ (receivesOf (pend (recvTx 9) inboxS) 9).head? = some (txOf (recvTx 9)) ∧ openSlot (pend (recvTx 9) inboxS) 9 = none := by
  and_intros <;> decide +kernel
theorem witness_SendsAndReceives_awake : RecordAwake (pend (sendTx 9) movS) 0 := recordAwake_of_none rfl _
theorem test_recv_takes_the_message : ((run1 (.netRecvDone 0 5) (pend (recvTx 5) inboxS)).sess 0).inbox = [] ∧ (run1 (.netRecvDone 0 5) (pend (recvTx 5) inboxS)).mem.read 0x4000001000 = 7 := by
  decide +kernel

/-- The plan digital, with its region loading; a file of one row; sparse with an empty bitmap; with an escape of the file and a full side list. -/
def planD : Plan := { plan0 with place := 1 }
def oneRow : Desc := { dsc .int4 1 [256, 1] 64 with strides := [2, 2, 512] }
def loadS (d : Desc) (p : Plan) (m : Mem) (tiles : List (Nat × Tile)) : State :=
  pend (.load d p) { base with mem := m, arr := { State.reset.arr with regions := [p.region 0 d 0 0], tiles := tiles } }
def kept : Plan := { planD with sparse := 1, keepBase := 0x4000001000, inwidth := 8 }
def escMem : Mem := { memS.mem with cells := [(0x4000001040, 8)], fills := [(0x4000001000, 4096)] }
def tabled : Plan := { planD with escBase := 0x4000001800 }
def sideOf (n : Nat) : Tile := { side := List.replicate n (0, none) }
theorem sideOf_free (n : Nat) : (sideOf n).freeSide = 8192 - n := by
  simp [Tile.freeSide, sideOf]
/-- Three rows of the first quad declared. -/
def badKeep : Mem := { memS.mem with cells := [(0x4000001000, 0x0F)], fills := [(0x4000001000, 4096)] }
theorem witness_LoadCompletions :
    (∀ r ∈ (loadS oneRow planD planMem []).arr.regions, planD.mine r = true → r.written = false) ∧ touchesUntested (loadS oneRow planD planMem []) planD = false
    ∧ unstagedPage (loadS oneRow planD planMem []) oneRow = none ∧ (tableAddrs planMem oneRow planD).find? planMem.poisoned = none
    ∧ keepRefusal planMem oneRow planD = none ∧ scaleBlocksOk oneRow planD = true ∧ sideShort (loadS oneRow planD planMem []) oneRow planD = none
    ∧ firstPoison planMem [oneRow] = none
    ∧ (tableAddrs memPoison.mem oneRow kept).find? memPoison.mem.poisoned = some 0x4000001000
    ∧ (keepRefusal badKeep oneRow kept).isSome = true ∧ (tableAddrs badKeep oneRow kept).find? badKeep.poisoned = none
    ∧ scaleBlocksOk { oneRow with stype := .fp16, block := 32 } { planD with gmode := 1 } = false
    ∧ (tableAddrs escMem oneRow tabled).find? escMem.poisoned = none ∧ (escapeEntries escMem oneRow tabled 0).length = 1
    ∧ layerInUse (pend (.unload [0]) planTaken) 0 = false := by
  and_intros <;> decide +kernel
theorem witness_LoadCompletions_awake : RecordAwake (loadS oneRow planD planMem []) 0 ∧ RecordAwake (loadS oneRow kept badKeep []) 0 :=
  ⟨recordAwake_of_none rfl _, recordAwake_of_none rfl _⟩
theorem witness_LoadCompletions_remaps (s : State) : remapsPending s planD = false := rfl
theorem witness_LoadCompletions_side : ∃ n, sideShort (loadS oneRow tabled escMem [(0, sideOf n)]) oneRow tabled = some 0 := by
  have h : (escapeEntries escMem oneRow tabled 0).length = 1 := by decide +kernel
  have n : tabled.ntiles = 1 := by decide +kernel
  have z : tabled.tile0 = 0 := by decide +kernel
  have all (k : Nat) (hk : k = 8192) : sideShort (loadS oneRow tabled escMem [(0, sideOf k)]) oneRow tabled = some 0 := by
    have e : (escapeEntries (loadS oneRow tabled escMem [(0, sideOf k)]).mem oneRow tabled 0).length = 1 := h
    have t : (loadS oneRow tabled escMem [(0, sideOf k)]).tile 0 = sideOf k := rfl
    unfold sideShort
    rw [n, z]
    simp only [List.range_succ, List.range_zero, List.nil_append, List.find?, Nat.zero_add, t, sideOf_free, e]
    rw [hk]
    rfl
  exact ⟨8192, all 8192 rfl⟩

/-! Upkeep of the arrays. -/

def p0 : PairId := ⟨0, 0⟩
/-- Pair 0 in a state, with or without a region on its A-macro. -/
def pairS (q : Pair) : State := { base with arr := { State.reset.arr with pairs := [(0, q)] } }
def macroS (q : Pair) : State := { base with arr := { State.reset.arr with pairs := [(0, q)], regions := [region0] } }
def dueRow : Pair := { due := [2047] }

theorem test_refresh_done : ((run1 (.refreshRowDone p0 { row := 2047 }) (pairS dueRow)).pair 0).due = [] := by decide +kernel
theorem test_refresh_mismatch : ((run1 (.refreshRowDone p0 { row := 2047, wrong := [(0, 3)] }) (pairS dueRow)).pair 0).reloads = [2047] := by decide +kernel
theorem witness_RefreshAndReload_Refresh :
    upkeepOk base p0 2047 = true ∧ upkeepOk base lastPair 0 = true ∧ 2047 ∉ (base.pair 0).due ∧ upkeepOk (pairS dueRow) p0 2047 = true
    ∧ 2047 ∈ ((pairS dueRow).pair 0).due ∧ rowChecksum (restoreRow 2047 [] {}) 2047 = (restoreRow 2047 [] {}).checksum 2047
    ∧ rowChecksum (restoreRow 2047 [(0, 3)] {}) 2047 ≠ (restoreRow 2047 [(0, 3)] {}).checksum 2047 ∧ dueRow.recal = none := by
  and_intros <;> decide +kernel

theorem witness_RefreshAndReload_ReloadAndBand :
    upkeepOk (pairS { reloads := [2047] }) p0 2047 = true ∧ 2047 ∈ ((pairS { reloads := [2047] }).pair 0).reloads
    ∧ wrongCells 0 2047 { reloads := [2047], spares := (List.range 12).map (fun i => (i, {})) } = []
    ∧ upkeepOk (pairS { band := 1, coolSince := some 5 }) p0 0 = true ∧ ((pairS { band := 1, coolSince := some 5 }).pair 0).coolSince = some 5 := by
  and_intros <;> decide +kernel
theorem test_bands : bandOfTemp 280 = 0 ∧ bandOfTemp 281 = 1 ∧ bandOfTemp 421 = 3 := by decide

/-- Trimmed at time 7; a pass due after a failure, for the sweep that holds the array. -/
def aged : Pair := { calAt := some 7 }
def stallS : State :=
  { queued fidOp with arr := { (queued fidOp).arr with pairs := [(0, { recalDue := some 6 })], sweeps := { State.reset.arr.sweeps with array := some 5, stalled := true } } }
theorem witness_Recalibration :
    upkeepOk (macroS aged) p0 0 = true ∧ holdsA (macroS aged) 0 = true ∧ ((macroS aged).pair 0).calAt = some 7 ∧ ((macroS aged).pair 0).recalDue = none
    ∧ ((macroS aged).pair 0).recal = none
    ∧ upkeepOk (macroS { aged with recalDue := some 1 }) p0 0 = true ∧ arrayIdle (macroS { aged with recalDue := some 1 }) = true
    ∧ dueNow (macroS { aged with recalDue := some 1 }) 0 1 = some 1 ∧ passMay (macroS { aged with recalDue := some 1 }) 0 = true
    ∧ passMay (macroS { aged with recalDue := some 1, reloads := [3] }) 0 = false ∧ (macroS { aged with recalDue := some 1 }).arr.pairs = [(0, (macroS { aged with recalDue := some 1 }).pair 0)]
    ∧ ((macroS { aged with recal := some 1 }).pair 0).recal = some 1 ∧ (macroS { aged with recal := some 1 }).arr.sweeps.stalled = false
    ∧ upkeepOk stallS p0 0 = true ∧ (stallS.pair 0).recalDue = some 6 ∧ (stallS.pair 0).recal = none ∧ stalledOn (reach (stallS.pair 0).retryAt stallS) 0 = true := by
  and_intros <;> decide +kernel
/-- Whether a pass succeeds on every column rests on the converters' free values (R60): it does or it does not. -/
theorem witness_Recalibration_either (l : List (Nat × Int × Int × Bool)) : (∀ x ∈ l, x.2.2.2 = false) ∨ (∃ x ∈ l, x.2.2.2 = true) := by
  by_cases h : ∃ x ∈ l, x.2.2.2 = true
  · exact .inr h
  · exact .inl (fun x hx => by simpa using fun e => h ⟨x, hx, e⟩)

theorem witness_Remaps :
    upkeepOk (macroS { remaps := [⟨9, 2, 0, false⟩] }) p0 0 = true ∧ holdsA (macroS { remaps := [⟨9, 2, 0, false⟩] }) 0 = true
    ∧ ((macroS { remaps := [⟨9, 2, 0, false⟩] }).pair 0).remaps.find? (fun x => x.column == 9 && !x.fetched) = some ⟨9, 2, 0, false⟩
    ∧ ((macroS { remaps := [⟨9, 2, 0, true⟩] }).pair 0).remaps.find? (fun x => x.column == 9 && x.fetched) = some ⟨9, 2, 0, true⟩
    ∧ (macroS { remaps := [⟨9, 2, 0, true⟩] }).arr.sweeps.array = none
    ∧ physical 0 { remaps := [⟨9, 2, 0, true⟩], spares := (List.range 12).map (fun i => (i, {})) } 9 < 256
    ∧ physical 0 { remaps := [⟨9, 2, 0, true⟩], spares := [(0, {}), (1, { inUse := true, column := 9 })] } 9 = 256 + 1 := by
  and_intros <;> decide +kernel
/-- So does whether a spare trims. -/
theorem witness_Remaps_either (s : State) (n col : Nat) : (∃ a b, trimSpare s n col = some (a, b)) ∨ trimSpare s n col = none := by
  cases h : trimSpare s n col with
  | none => exact .inr rfl
  | some x => exact .inl ⟨x.1, x.2, rfl⟩

/-! The batcher, districts, mirrors and thresholds. -/

/-- Two ready sessions of district 3, one of them in prefill. -/
def readySess : List (Nat × Session) :=
  [(0, { state := .opened, gen := 5, district := 3, generating := true, since := 9 }), (1, { state := .opened, gen := 6, district := 3, pending := 7, since := 4 })]
/-- A loaded model of root 1 on two district slots. -/
def batS (b : Batcher) : State := { base with net := { State.reset.net with sessions := readySess }, bat := { b with model := some (1, 1, 0) } }
def on3 : List DistrictSlot := [{ district := some 3 }, {}]
def step3 : TokenStep := { district := 3, fidelity := false, sessions := [(0, 0), (1, 7)], number := 0 }
def loading : DistrictLoad := { district := 9, slot := 1, aged := true }
def replayed : State := { batS { step := some step3 } with arr := { State.reset.arr with replays := [(5, 2)] } }

theorem witness_TokenSteps :
    replayed.bat.step = some step3 ∧ replayed.arr.replays.any (fun r => decide (r.2 ≤ 2)) = true ∧ step3.retries < 2
    ∧ (batS { step := some step3, load := some loading, held := true }).arr.replays = [] ∧ (step3.sessions.map Prod.fst).Nodup
    ∧ (∀ e ∈ step3.sessions, ((batS {}).sess e.1).state = .opened) ∧ 2 ∉ step3.sessions.map Prod.fst
    ∧ (batS { slots := on3, load := some loading }).fstate = 0 ∧ nextQueue (batS { slots := on3, load := some loading }) = some (3, false)
    ∧ (batS { slots := on3, load := some loading }).pow.limit = false ∧ (batS { slots := on3, load := some loading }).bat.held = false
    ∧ (batS { slots := on3, load := some loading }).front.adoptions = [] ∧ (batS { slots := on3, load := some loading }).arr.forecast = []
    ∧ stepSessions (batS { slots := on3 }) (3, false) = [(0, 0), (1, 7)]
    ∧ (3, true) ∈ openQueues (batS { slots := on3 }) ∧ ((queueOf (batS { slots := on3 }) (3, false)).head?.map Prod.fst) = some 1 := by
  and_intros <;> decide +kernel

/-- District 3 ready, and an empty slot, or a slot that district 8 has. -/
def wantS (b : Batcher) : State := batS { b with slots := [{ district := some 8 }, {}] }
/-- SWITCH_AGE_MS reached. -/
def at3 (s : State) : State := { s with clk := { s.clk with half := Nat.max s.now (oldestWait s 3 + s.policy 0x000A0200 15 0 * msHalves) }, bat := { s.bat with aged := if crowded s 3 then s.bat.aged else addOnce s.bat.aged 3 } }
def dwell (s : State) : State := { s with clk := { s.clk with half := Nat.max s.now (0 + s.policy 0x000A0204 31 16 * msHalves) } }
/-- Nothing ready: no session. -/
def noneReady : State := { wantS {} with net := State.reset.net }
/-- The ready sessions' wait is long past. -/
def longWait : State := { wantS {} with clk := { State.reset.clk with half := 10000 * msHalves } }
theorem witness_Districts :
    readyIn (wantS {}) 3 ≠ [] ∧ residentDistrict (wantS {}) 3 = false ∧ (wantS {}).bat.load = none ∧ (wantS {}).bat.model.isSome = true
    ∧ candidates (at3 (wantS {})) = [3] ∧ slotFor (at3 (wantS {})) = some 1
    ∧ (wantS {}).bat.slots[(0 : Fin 2).val]? = some { district := some 8 } ∧ candidates (dwell noneReady) = [] ∧ noneReady.bat.load = none
    ∧ candidates (dwell longWait) = [3] ∧ slotFor (dwell longWait) = some 1
    ∧ (batS { slots := on3, load := some loading }).bat.load = some loading ∧ loading.start = none ∧ loading.slot < on3.length
    ∧ (batS { slots := on3, load := some { loading with start := some 4 } }).bat.load = some { loading with start := some 4 }
    ∧ (∀ e ∈ (batS { slots := on3, load := some loading }).kv.images, e.1 ≠ loading.district)
    ∧ districtTrimmed (batS { slots := on3, load := some { loading with start := some 4 } }) loading.district = true := by
  and_intros <;> decide +kernel

def mirror0 : Mirror := { layer := 0, expert := 1, inst := 1 }
theorem test_wanted_mirrors : wantedMirrors 8 4 100 8 50 = 3 ∧ wantedMirrors 8 4 100 8 49 = 0 := by decide
theorem witness_MirrorsAndThresholds_Mirrors :
    (batS { mirrors := [mirror0] }).bat.model = some (1, 1, 0) ∧ mirror0 ∈ (batS { mirrors := [mirror0] }).bat.mirrors
    ∧ (batS { mirrors := [mirror0] }).arr.regions.any (fun r => r.state != .resident && r.isMirror 1 (0, 1, 1)) = false
    ∧ (batS { mirrors := [mirror0], step := some step3 }).bat.step.isSome = true ∧ (batS { mirrors := [mirror0] }).bat.step = none := by
  and_intros <;> decide +kernel
/-- A layer without demand asks for no mirror, so that no grant falls short. -/
theorem witness_MirrorsAndThresholds_Mirrors_short : (grantLayer (batS { experts := [] }) 1 0 0).short = false := rfl

/-- Layer 2's audits: none; many, with few misses; and too many misses. -/
def thetaS (f : ForecastLayer) : State := { base with arr := { State.reset.arr with forecast := [(2, f)] } }
def fewMisses : ForecastLayer := { theta := 0x3C00, delta := 0x2000, thetaMin := 0, thetaMax := 0x4400, sumA := 1000, sumM := 0, audits := 255 }
def allMissed : ForecastLayer := { fewMisses with sumM := 900 }
def few (n theta : Nat) : ForecastLayer := { fewMisses with sumM := n, theta := theta }
/-- Up, down with and without too many misses, and neither; within the limits and at them. -/
theorem witness_MirrorsAndThresholds_ThresholdRetuning :
    (look {} (thetaS {}).arr.forecast 2).audits < (thetaS {}).policy 0x000A020C 15 8 ∧ (thetaS fewMisses).policy 0x000A020C 31 16 = 328
    ∧ (thetaS fewMisses).policy 0x000A020C 15 8 ≤ fewMisses.audits ∧ fewMisses.sumA ≠ 0
    ∧ ¬ 5 * 328 * fewMisses.sumA < 4 * 65536 * fewMisses.sumM ∧ 2 * 65536 * fewMisses.sumM < 328 * fewMisses.sumA
    ∧ (moveTheta (few 0 0) true).2 = false ∧ (moveTheta (few 0 0x4400) true).2 = true
    ∧ 5 * 328 * allMissed.sumA < 4 * 65536 * allMissed.sumM ∧ 8 * 328 * allMissed.sumA < 65536 * allMissed.sumM ∧ (moveTheta allMissed false).2 = false
    ∧ 5 * 328 * (few 20 0).sumA < 4 * 65536 * (few 20 0).sumM ∧ ¬ 8 * 328 * (few 20 0).sumA < 65536 * (few 20 0).sumM
    ∧ (moveTheta (few 20 0x3C00) false).2 = false ∧ (moveTheta (few 20 0) false).2 = true
    ∧ ¬ 5 * 328 * (few 4 0).sumA < 4 * 65536 * (few 4 0).sumM ∧ ¬ 2 * 65536 * (few 4 0).sumM < 328 * (few 4 0).sumA
    ∧ ¬ 8 * 328 * (few 4 0).sumA < 65536 * (few 4 0).sumM := by
  and_intros <;> decide +kernel

/-! Allocations, banks, the partition, KV pages and attention jobs. -/

/-- An allocation command's BASE and SIZE: 4 KiB at the start of HUB_BANK_0, over the live allocation of memS, and outside it. -/
def allocS (a n : Nat) (s : State) : State := setWord 0x00080200 (BitVec.ofNat 32 (a / 256)) (setWord 0x00080204 (BitVec.ofNat 32 (n / 4096)) s)
theorem test_alloc_overlap : (run1 (.allocCreate 1 1) (allocS 0x4000001000 4096 memS)).word 0x0008020C = 0x10000000 := by decide +kernel
theorem witness_Allocations :
    ((allocS 0x4000000000 4096 memS).word 0x00080200).toNat * 256 = 0x4000000000 ∧ ((allocS 0x4000000000 4096 memS).word 0x00080204).toNat * 4096 = 4096
    ∧ kindRange (allocS 0x4000000000 4096 memS) 1 0x4000000000 4096 = true ∧ (∀ x ∈ memS.mem.allocs, x.base + x.size ≤ 0x4000000000 ∨ 0x4000000000 + 4096 ≤ x.base)
    ∧ memS.mem.allocs.length < 65535 ∧ ¬ (∀ x ∈ memS.mem.allocs, x.base + x.size ≤ 0x4000001000 ∨ 0x4000001000 + 4096 ≤ x.base)
    ∧ kindRange (allocS 0 4096 memS) 1 0 4096 = false ∧ 0x4000000100 % 4096 ≠ 0
    ∧ memS.mem.alloc? 4 = none ∧ (memS.mem.alloc? 3).isSome = true ∧ named memS 3 = false ∧ named (slotS vecs) 3 = true ∧ ((slotS vecs).mem.alloc? 3).isSome = true := by
  and_intros <;> decide +kernel

def bank0 (x : Bank) : State := { base with mem := { State.reset.mem with banks := [(0, x)] } }
theorem test_bank_off_loses : (run1 (.bankTransitionDone (.hub 0)) { bank0 { request := .off, moving := some .off } with mem := { State.reset.mem with cells := [(0x4000000000, 1)], banks := [(0, { request := .off, moving := some .off })] } }).mem.cells = [] := by
  decide +kernel
theorem witness_BanksAndHotSpots_Banks :
    BankId.num (.hub 0) = 0 ∧ bankAllocs memS 0 ≠ 0 ∧ bankAllocs (bank0 {}) 0 = 0 ∧ bankStateOf (1#2).toNat = some .retention ∧ bankStateOf (2#2).toNat = some .off
    ∧ (look {} (bank0 {}).mem.banks 0).moving = none ∧ (look {} (bank0 { request := .retention, moving := some .retention }).mem.banks 0).moving = some .retention
    ∧ (look {} (bank0 { request := .off, moving := some .off }).mem.banks 0).moving = some .off
    ∧ (bank0 {}).arr.sweeps.array = none ∧ (bank0 {}).arr.sweeps.finishing = [] := by
  and_intros <;> decide +kernel

theorem witness_BanksAndHotSpots_HotSpotsAndPartition :
    (∀ q ∈ [4, 1, 0], ¬ 4 * [4, 1, 0].sum < q * [4, 1, 0].length) ∧ 21 ∈ [21, 0, 0, 0, 0] ∧ 4 * [21, 0, 0, 0, 0].sum < 21 * [21, 0, 0, 0, 0].length
    ∧ 4 * (51 + 200 + State.reset.mem.withheld.length) + 1 + 16 ≤ 1024 ∧ ¬ 4 * (52 + 200 + State.reset.mem.withheld.length) + 1 + 16 ≤ 1024
    ∧ { State.reset.mem with hashDraw := some 3 }.hashDraw = some 3 ∧ { State.reset.mem with hashDraw := some 3 }.pci (5 * 65536 + 256 * 255) = { State.reset.mem with hashDraw := some 3 }.pci (5 * 65536 + 256 * 255) := by
  and_intros <;> first | rfl | decide +kernel

/-- Session 0 with a spilled page that is fetched, and with a page in DRAM that waits to be spilled; the store is ready. -/
def kvS (e : Pte) : State :=
  { movS with mem := { State.reset.mem with kvCur := 1 }, kv := { State.reset.kv with ptes := [(0, e)], slots := [(3, [1, 2])], fetches := [⟨2 ^ 32, [], []⟩] },
              store := { State.reset.store with spilling := [0], credit := 65536, head := some 0, geometry := some (1024, 16, 100, 1000) } }
def spillS : State := setField 0x00070000 31 29 2 (kvS { state := 1, fill := 1, loc := 0 })
/-- The page's second line is poisoned. -/
def spillPoison : State := { spillS with mem := { spillS.mem with poison := [(1, true)] } }
theorem witness_KvPages :
    (kvS { state := 3, loc := 3 }).inFlight? (2 ^ 32) = some ⟨2 ^ 32, [], []⟩ ∧ ((kvS { state := 3, loc := 3 }).pte 0).state = 3
    ∧ takePage (kvS { state := 3, loc := 3 }) = some 0 ∧ (look [] (kvS { state := 3, loc := 3 }).kv.slots 3).length ≤ 65536
    ∧ (kvS { state := 3, loc := 3 }).field 0x00060024 7 0 * (kvS { state := 3, loc := 3 }).kvPages ≤ 100 * ((kvS { state := 3, loc := 3 }).kvPages - (0 + 1))
    ∧ 0 ∈ spillS.store.spilling ∧ (spillS.pte 0).state = 1 ∧ inStep spillS 0 = false ∧ jobReads spillS 0 = false ∧ spillRefused spillS = false ∧ spillS.store.head = some 0
    ∧ spillS.store.logSlots < spillS.store.bandSlots
    ∧ poisonAt spillS.mem (span (pageAddr (spillS.pte 0).loc) (watermark (spillS.pte 0).fill)) = none
    ∧ poisonAt spillPoison.mem (span (pageAddr (spillPoison.pte 0).loc) (watermark (spillPoison.pte 0).fill)) = some 64
    ∧ 0 ∈ spillPoison.store.spilling ∧ (spillPoison.pte 0).state = 1 ∧ inStep spillPoison 0 = false ∧ jobReads spillPoison 0 = false := by
  and_intros <;> decide +kernel

/-- A job record at the start of HUB_BANK_6: one head, one session, one query, its arrays in the same allocation. -/
def jobBase : Nat := hubBase + 6 * 0x2000000
def jobBytes : List Byte :=
  leBytes 8 (2 ^ 48 + 2 ^ 24 + 2 ^ 11) ++ leBytes 8 (jobBase + 0x100) ++ leBytes 8 (jobBase + 0x200) ++ leBytes 8 (jobBase + 0x300)
    ++ leBytes 8 (jobBase + 0x400) ++ leBytes 24 0
def jobMem : Mem :=
  { allocs := [⟨7, 1, 2, jobBase, 4096⟩], fills := [(jobBase, 4096)], cells := (run jobBase jobBytes).filter (fun e => e.2 != 0) ++ [(jobBase + 0x400, 5)] }
def jobS (jobs : List Job) : State :=
  { base with mem := jobMem, net := { State.reset.net with sessions := [(0, { state := .opened, gen := 5, maxctx := 1 })] }, kv := { State.reset.kv with jobs := jobs } }
/-- The job of no heads, refused. -/
def emptyJob : State := { jobS [{ offset := 0 }] with mem := { jobMem with cells := [] } }
def fullQueue : State := jobS (List.replicate 16 { offset := 1 })
theorem witness_AttentionJobs :
    Awake (jobS []) jobBase ∧ (∀ i < 64, (jobS []).mem.isCode (jobBase + i) = false)
    ∧ jobBase + 64 ≤ granule jobBase + jobMem.mark (granule jobBase) ∧ ((jobS []).kv.jobs.filter (fun j => !j.running)).length < 16
    ∧ 16 ≤ (fullQueue.kv.jobs.filter (fun j => !j.running)).length ∧ fullQueue.mem = (jobS []).mem
    ∧ ({ jobS [] with pow := { State.reset.pow with limit := true } } : State).pow.limit = true
    ∧ (jobS [{ offset := 0 }]).pow.limit = false ∧ jobOk (jobS [{ offset := 0 }]) (readJob jobMem 0) = true ∧ jobOk emptyJob (readJob emptyJob.mem 0) = false
    ∧ (∀ b ∈ recordReads (jobS [{ offset := 0 }]) 0, Awake (jobS [{ offset := 0 }]) b) ∧ poisonAt jobMem (recordReads (jobS [{ offset := 0 }]) 0) = none
    ∧ poisonAt emptyJob.mem (recordReads emptyJob 0) = none ∧ (∀ k, ((jobS [{ offset := 0 }]).pte k).state ≤ 1) ∧ (jobS [{ offset := 0, running := true }]).kv.fetches = []
    ∧ (∀ x ∈ jobSessions jobMem (readJob jobMem 0).sess (readJob jobMem 0).nsess,
        (jobSession (jobS [{ offset := 0, running := true }]) (readJob jobMem 0) [] x).1.isSome = true ∧ (jobSession (jobS [{ offset := 0, running := true }]) (readJob jobMem 0) [] x).2 = none) := by
  and_intros <;> first | exact awake_of_none rfl _ | (intro b _; exact awake_of_none rfl b) | (intro k; show (0 : Nat) ≤ 1; decide) | decide +kernel | rfl

/-! Keeping the store. -/

def storeS (x : Store) : State := { base with store := x }
/-- Bands 0 and 1 of MODEL and 2 and 3 of SPILL, each with its own block of channel 0, band 3 worn and free. -/
def worn : Store :=
  { bands := [(0, 4), (1, 4), (2, 3), (3, 3)], table := [(0, ⟨0, 0, 0⟩), (32, ⟨0, 0, 1⟩), (64, ⟨0, 0, 2⟩), (96, ⟨0, 0, 3⟩)]
    erases := [(1, 7), (2, 20), (3, 16600)], head := some 0 }
def even : Store := { worn with erases := [(3, 16000)] }
/-- A block of channel 1 to be relocated, with a spare and 400 blocks. -/
def spareS : Store := { worn with relocating := [(33, 2)], spares := [(1, [⟨1, 0, 9⟩])], good := [(1, 400)] }
/-- One live slot of the log, in band 0; room in the head band. -/
def logS : State := { storeS { worn with geometry := some (1024, 16, 100, 1000), written := [0] } with kv := { State.reset.kv with slots := [(1, [9])], ptes := [(0, { state := 2, loc := 1 })] } }
theorem test_levelling_swaps : (effStaticLevelling [] (storeS worn)).store.bands = [(3, 4), (1, 4), (2, 3), (0, 3)] := by decide +kernel
theorem witness_StoreUpkeep :
    0 * 32 + 1 ∈ (storeS { worn with late := [1] }).store.late ∧ 0 * 32 + 1 ∉ (storeS worn).store.late ∧ patrolled (storeS worn) 4 0 = true ∧ (1 : Nat) < 32
    ∧ patrolled (storeS worn) 4 2 = false ∧ worn.holdsPage 4 0 = true ∧ worn.holdsPage 2 0 = false ∧ (4 : Nat) ∈ [1, 2, 4]
    ∧ (storeS { relocating := [(33, 2)] }).store.relocating.find? (fun e => e.1 == 1 * 32 + 1) = some (1 * 32 + 1, 2)
    ∧ spareS.relocating.find? (fun e => e.1 == 1 * 32 + 1) = some (1 * 32 + 1, 2) ∧ look [] spareS.spares 1 = [⟨1, 0, 9⟩] ∧ look [] worn.spares 1 = []
    ∧ (1, 4) ∈ spareS.bands ∧ spareS.channelBlocks 1 ≤ 400 * [(⟨1, 0, 9⟩ : NandBlock)].length ∧ worn.channelBlocks 1 = 0
    ∧ (storeS { geometry := some (1024, 16, 100, 1000) }).store.geometry = some (1024, 16, 100, 1000)
    ∧ (sortBy worn.wear (worn.bands.map Prod.fst)).head? = some 0 ∧ (sortBy worn.wear (worn.bands.map Prod.fst)).getLast? = some 3
    ∧ (sortBy worn.wear (worn.regionBands 4)).head? = some 0
    ∧ (sortBy worn.spillWear ((List.range (worn.regionBands 3).length).filter (fun i => !bandLive (storeS worn) i && worn.head != some i))).getLast? = some 1
    ∧ 32 * 500 < worn.wear 3 - worn.wear 0 ∧ worn.wear 0 < worn.spillWear 1 ∧ 1 ∉ worn.written
    ∧ even.wear 3 - even.wear 0 ≤ 32 * 500
    ∧ (sortBy even.wear (even.bands.map Prod.fst)).head? = some 0 ∧ (sortBy even.wear (even.bands.map Prod.fst)).getLast? = some 3
    ∧ (sortBy even.wear (even.regionBands 4)).head? = some 0
    ∧ (sortBy even.spillWear ((List.range (even.regionBands 3).length).filter (fun i => !bandLive (storeS even) i && even.head != some i))).getLast? = some 1
    ∧ (storeS { worn with written := [1] }).store.head ≠ some 1 ∧ bandLive (storeS { worn with written := [1] }) 1 = false ∧ 1 < (worn.regionBands 3).length
    ∧ logS.kv.slots.find? (fun e => e.1 == 1) = some (1, [9]) ∧ (takeLogSlot logS).isSome = true ∧ (logS.pte 0).state = 2 ∧ (logS.pte 0).loc = 1 ∧ (logS.pte 1).loc ≠ 1 := by
  and_intros <;> decide +kernel

/-! The port below Pelet. -/

def portS : State := { base with pow := { State.reset.pow with refclk := true } }
/-- The link up; and with both addresses in use. -/
def linkS : State := setField 0x00050000 31 31 1 portS
def addrS : State := setField 0x00050010 28 27 3 { linkS with net := { State.reset.net with v6 := 10, v4 := 11 } }
def frameOf (p : Proto) : Frame := { vlan := none, ipv4 := false, packetLen := 1280, fcsOk := true, udpSumOk := true, proto := p }
theorem test_pause_counts : (run1 (.frameReceive (frameOf .pfc)) linkS).word 0x0005005C = 1 ∧ (run1 (.frameReceive (frameOf .other)) linkS).word 0x00050058 = 1 := by
  decide +kernel
theorem witness_Link :
    portS.boot.railsGood = true ∧ portS.pow.refclk = true ∧ portS.linkUp = false ∧ portS.field 0x00050010 28 28 = 0 ∧ portS.boot.step ≠ 7 ∧ linkS.linkUp = true
    ∧ (setField 0x00050010 31 30 1 portS).field 0x00050010 31 30 = 1 ∧ portS.field 0x00050010 31 30 ≠ 1
    ∧ (setField 0x00050010 29 29 1 portS).field 0x00050010 29 29 = 1 ∧ (setField 0x00050010 29 29 0 portS).field 0x00050010 29 29 ≠ 1 := by
  and_intros <;> decide +kernel
theorem witness_FramesAndNeighbours :
    (recent linkS.now sHalves linkS.net.echoes).length < 1000 ∧ addrS.linkUp = true ∧ addrS.net.v6 = 10 ∧ addrS.field 0x00050010 28 28 = 1 ∧ addrS.net.v4 = 11
    ∧ addrS.field 0x00050010 27 27 = 1 ∧ linkS.field 0x00050010 28 28 ≠ 1
    ∧ ({ linkS with net := { State.reset.net with mode6 := 2 } } : State).net.mode6 = 2
    ∧ 77 ∈ ({ linkS with net := { State.reset.net with tentative := [77] } } : State).net.tentative ∧ linkS.boot.step ≠ 7
    ∧ (withThread thd).net.sessions.Pairwise (fun x y => x.1 < y.1) := by
  and_intros <;> decide +kernel
theorem witness_FramesAndNeighbours_slaac : 1 % 2 ^ 64 * 2 ^ 64 + Config.interfaceId.toNat ≠ linkS.net.v6 := by
  show 1 % 2 ^ 64 * 2 ^ 64 + Config.interfaceId.toNat ≠ 0
  omega

/-! Pelet in service. -/

/-- A client session 0 of generation 5 with its key. -/
def client : Session := { state := .opened, gen := 5, keyed := true, rxLimit := 17, addr := 20, port := 30, maxctx := 100 }
def pelS (x : Session) : State := { base with net := { State.reset.net with sessions := [(0, x)] } }
/-- Its next datagram, with a payload. -/
def dgOf (typ : Nat) (p : List Byte) : Datagram :=
  { srcAddr := 20, srcPort := 30, udpPort := base.field 0x00060000 15 0, udpLen := 48 + p.length, typ := typ, flags := 0xC000#16, handle := 5, seq := 1, ack := 1, length := p.length, payload := p }
/-- A request of an operation with one byte of text, and the controls. -/
def reqOf (op : Byte) : Datagram := dgOf 3 ([op, 0, 0, 0] ++ List.replicate 12 0#8 ++ [65])
def stopsOf : Datagram := dgOf 5 (2#8 :: List.replicate 50 0#8)
def samplerOf (n : Byte) : Datagram := dgOf 5 ([1, 0, 0, 0, 0, 0x3F, 0x80, 0, 0, 0x3F, 0x80, 0, 0, 0, 0, 0, 0, 0, 0, 0] ++ [n])
def pingOf : Datagram := dgOf 5 (4#8 :: List.replicate 8 1#8)
/-- The hypothesis of the statement. -/
def arrives (d : Datagram) (s : State) : Prop :=
  wellShaped s d = true ∧ d.flags = 0xC000#16 ∧ s.live? d.handle.toNat = some 0 ∧ (s.sess 0).keyed = true ∧ (s.sess 0).state = .opened
    ∧ (s.sess 0).kind = 0 ∧ (s.sess 0).claim = none ∧ (s.sess 0).parts = [] ∧ (s.sess 0).out = [] ∧ (s.sess 0).ackOwed = 0 ∧ d.seq = (s.sess 0).rxNext
    ∧ d.seq < (s.sess 0).rxLimit ∧ d.tagOk = true ∧ d.srcAddr = (s.sess 0).addr ∧ d.srcPort = (s.sess 0).port ∧ d.ce = false ∧ d.ack = (s.sess 0).txUna
    ∧ (s.sess 0).txUna ≤ (s.sess 0).txNext ∧ (s.sess 0).txNext < 0xFFFFFF00 ∧ d.payload.length ≤ s.field 0x0006000C 15 0 * 1024
    ∧ 76 + 32 ≤ (s.sess 0).pmtu - 20 ∧ s.boot.shutdown = 0
theorem test_generate : ((run1 (.generate (reqOf 2)) (pelS client)).sess 0).generating = true ∧ ((run1 (.generate (reqOf 2)) (pelS client)).sess 0).text = 1 := by
  decide +kernel
theorem witness_ClientMessages :
    (∀ d ∈ [reqOf 1, reqOf 2, reqOf 3, samplerOf 100, samplerOf 0, stopsOf, dgOf 5 [3], pingOf, dgOf 6 [0, 0x10]], arrives d (pelS client))
    ∧ (∀ op ∈ [1, 2, 3], beAt (reqOf op).payload 0 1 = op.toNat ∧ beAt (reqOf op).payload 1 3 = 0 ∧ beAt (reqOf op).payload 12 4 = 0 ∧ 16 ≤ (reqOf op).payload.length)
    ∧ client.generating = false ∧ beAt (samplerOf 100).payload 0 1 = 1 ∧ (samplerOf 100).payload.length = 21
    ∧ beAt stopsOf.payload 0 1 = 2 ∧ stopsOf.payload.length = 51 ∧ beAt stopsOf.payload 17 1 ≤ 16 ∧ beAt stopsOf.payload 18 1 ≤ 16
    ∧ arrives (dgOf 5 [3]) (pelS { client with generating := true }) ∧ pingOf.payload.length = 9 ∧ (pelS client).txs = [] := by
  unfold arrives
  and_intros <;> decide +kernel

def ackOf (h ack : Nat) (ok : Bool) : Datagram := { dgOf 3 [] with flags := 0x1000#16, handle := BitVec.ofNat 32 h, ack := ack, tagOk := ok, typ := 8 }
theorem witness_ReceiveChecks :
    (ackOf 5 1 true).flags.getLsbD 12 = true ∧ wellShaped (pelS client) { ackOf 5 1 true with version := 2 } = false ∧ (pelS client).live? (ackOf 6 1 true).handle.toNat = none
    ∧ (pelS client).live? (ackOf 5 1 true).handle.toNat = some 0 ∧ wellShaped (pelS client) (ackOf 5 1 true) = true ∧ wellShaped (pelS client) (ackOf 5 1 false) = true
    ∧ (ackOf 5 1 true).flags.getLsbD 9 = false ∧ ((pelS client).sess 0).txUna ≤ 1 ∧ 1 ≤ ((pelS client).sess 0).txNext := by
  and_intros <;> decide +kernel

/-- A datagram in flight, one that waits, and one that waits behind a closed window. -/
def sentOne : Dgram := { seq := 1, typ := 5, flags := 0xC000, payload := [1], sends := 1, due := false }
def dueOne : Dgram := { sentOne with sends := 0, due := true }
def flying : Session := { client with out := [sentOne], txNext := 2 }
def tries : Session := { flying with expiries := 15 }
def ready1 : Session := { client with out := [dueOne], txNext := 2, peerWindow := 16 }
theorem witness_SessionTimers :
    ({ client with ackOwed := 1 } : Session).ackOwed ≠ 0 ∧ client.state ≠ .free ∧ client.ackNext < 0xFFFFFFFF
    ∧ flying.inFlight = [sentOne] ∧ flying.expiries + 1 < (pelS flying).field 0x00060014 15 12 ∧ tries.kind ≠ 1 ∧ (pelS tries).field 0x00060014 15 12 ≤ tries.expiries + 1
    ∧ tries.inFlight = [sentOne] ∧ (pelS tries).txs = []
    ∧ ({ ready1 with peerWindow := 0 } : Session).out.find? Dgram.due = some dueOne ∧ client.generating = false ∧ client.pending = 0
    ∧ (pelS ready1).net.ctl = [] ∧ (pelS ready1).net.sessions = [(0, (pelS ready1).sess 0)] ∧ nextDgram ready1 = some dueOne := by
  and_intros <;> decide +kernel
/-- The worked example of spec/12 after R376: the nonces of SEQ 7 from the client and SEQ 5 from the module. -/
theorem test_nonces :
    gcmNonce 0x1F2E3D4C5B6A798897A6B5C4 false false 7 = 0x1F2E3D4C5B6A798897A6B5C3 ∧ gcmNonce 0x1F2E3D4C5B6A798897A6B5C4 true false 5 = 0x9F2E3D4C5B6A798897A6B5C1 := by
  decide +kernel

/-! Opening sessions. -/

/-- An OPEN of a kind: MAX_CTX 100, MTU 1,280, STREAM_EVERY 1, and further bytes. -/
def openOf (kind : Byte) (more : Nat) : List Byte :=
  [kind, 0, 0, 0] ++ beBytes 4 100 ++ List.replicate 4 0#8 ++ beBytes 2 1280 ++ beBytes 2 1 ++ List.replicate 32 0#8 ++ [4] ++ List.replicate (135 + more) 0#8
/-- A personalised module with an owner. -/
def owned : State := { base with sec := { State.reset.sec with fuses := { State.reset.sec.fuses with groups := 2, owners := [{ hash := 1 }] } } }
def owns : OpenVerdict := { ownerSig := true }
def hsState : State := { owned with net := { State.reset.net with hs := [⟨0, 20, 30, openOf 0 0⟩] } }
def shaking (opener : Bool) : Session := { state := .handshake, gen := 5, opener := opener, addr := 20, port := 30, openReq := openOf 1 0 }
def answeredS : State := { owned with net := { State.reset.net with sessions := [(0, { client with openReq := openOf 0 0 })] } }
theorem test_open_refused : (run1 (.openReq 20 30 (openOf 0 0) {}) owned).word 0x0006002C = 1 := by decide +kernel
theorem test_generation_moves : ((run1 (.handshakeTimeout 0) (pelS (shaking false))).slotHist 0).gen = 6 := by decide +kernel
theorem witness_Opening :
    base.sec.fuses.groups = 0 ∧ 1 ≤ owned.sec.fuses.groups ∧ owned.sec.fuses.groups ≤ 3 ∧ answered answeredS 20 30 (openOf 0 0) = some 0 ∧ answered owned 20 30 (openOf 0 0) = none
    ∧ owned.net.hs = [] ∧ openRefusal? owned 20 30 (openOf 0 0) {} = some (7, 1000) ∧ openRefusal? owned 20 30 (openOf 2 132) owns = none
    ∧ owned.net.hs.length < freeSlots owned ∧ openFieldsOk [] = false ∧ owned.sec.entropyBad = false ∧ owned.boot.shutdown = 0
    ∧ openFieldsOk (openOf 2 132) = true ∧ beAt (openOf 2 132) 0 1 = 2 ∧ mgmtAdmits owned (openOf 2 132) {} = false
    ∧ openFieldsOk (openOf 0 0) = true ∧ owned.bat.model = none
    ∧ openFieldsOk (openOf 1 218) = true ∧ frontAdmits owned 20 30 (openOf 1 218) {} = false
    ∧ hsState.net.hs = [⟨0, 20, 30, openOf 0 0⟩] ∧ freeSlot hsState = some 0 ∧ beAt (openOf 0 0) 0 1 ≠ 1
    ∧ ((pelS (shaking true)).sess 0).state = .handshake ∧ (pelS (shaking true)).net.sessions = [(0, shaking true)] ∧ (shaking false).opener = false
    ∧ (pelS (shaking true)).live? ({ dgOf 2 [] with handle := 5 } : Datagram).handle.toNat = some 0 ∧ beAt (dgOf 2 []).payload 0 2 = 0 := by
  and_intros <;> decide +kernel

/-- An ACCEPT whose report fits a module without a model or an owner, from the front's entry 0. -/
def peerReport : List Byte := [0x43#8, 0x56#8, 0x4B#8, 0x41#8] ++ List.replicate 856 0#8
def acceptOf : Datagram := { dgOf 2 (List.replicate 160 0#8 ++ beBytes 2 860 ++ peerReport) with handle := 5 }
def peerS : State :=
  { pelS (shaking true) with front := { State.reset.front with entries := [{ addr := 20, port := 30, akHash := Config.sha512 (List.replicate 133 0#8) }] } }
theorem witness_Opening_accept :
    (peerS.sess 0).state = .handshake ∧ (peerS.sess 0).opener = true ∧ peerS.live? acceptOf.handle.toNat = some 0 ∧ acceptOf.typ = 2 ∧ beAt acceptOf.payload 0 2 = 0
    ∧ ∃ en, peerS.front.entries[(peerS.sess 0).rank]? = some en
      ∧ reportFits peerS (acceptReport acceptOf.payload) (openNonce (peerS.sess 0).openReq) en.akHash = true := by
  refine ⟨by decide +kernel, by decide +kernel, by decide +kernel, by decide +kernel, by decide +kernel, _, rfl, ?_⟩
  unfold reportFits
  rw [show ((acceptReport acceptOf.payload).drop 328).take 133 = List.replicate 133 0#8 by decide +kernel]
  simp only [beq_self_eq_true, Bool.and_true, Bool.and_eq_true]
  and_intros <;> decide +kernel

/-! Signed objects, MGMT operations and security. -/

/-- An owner's block passes R418 on a module whose owner's hash is its key's. -/
theorem block_owner (s : State) (key : List Byte) (takes : Nat → Bool) (model : Nat) (hk : key.length = 133) (hc : (currentOwner s).isSome = true)
    (ho : ownerHash s = Config.sha512 key) (ht : takes 1 = true) : blockCheck s (block 1#8 0#8 key) true true takes model = none := by
  have hb : blockShaped (block 1#8 0#8 key) = true := block_shaped _ _ _ hk (by simp)
  have hs : signer (block 1#8 0#8 key) = 1 := rfl
  have ha : signerAllowed s (block 1#8 0#8 key) model = true := by
    unfold signerAllowed
    rw [hs, keyHash_block, ho, hc]
    simp
  unfold blockCheck
  rw [hb, ha, hs, ht]
  rfl

/-- A message and its block. -/
def signedObj (m b : List Byte) : SignedObj := ⟨m ++ b, true, true⟩
theorem signedObj_parts (m b : List Byte) (h : b.length = 344) : sigBlock (signedObj m b).bytes = b ∧ sigMessage (signedObj m b).bytes = m := by
  unfold sigBlock sigMessage signedObj
  simp [h]
theorem block_length (a b : Byte) (key : List Byte) (hk : key.length = 133) : (block a b key).length = 344 := by simp [block, hk]

/-- An MGMT session in slot 0 of generation 5; its owner's key is 133 zeros. -/
def mgmtSess : Session := { state := .opened, gen := 5, kind := 2, keyed := true }
def key0 : List Byte := List.replicate 133 0#8
def mg : State :=
  { base with net := { State.reset.net with sessions := [(0, mgmtSess)] }, sec := { State.reset.sec with fuses := { State.reset.sec.fuses with groups := 2, owners := [{ hash := Config.sha512 key0 }] } } }
theorem mg_admin : Admin 5#32 0 mg := by
  refine ⟨by decide, by decide, by decide, by decide, by decide, by decide⟩
theorem mg_owner : (currentOwner mg).isSome = true ∧ ownerHash mg = Config.sha512 key0 := ⟨by rfl, by rfl⟩
theorem mg_signed (m : List Byte) (takes : Nat → Bool) (model : Nat) (ht : takes 1 = true) :
    signedCheck mg (signedObj m (block 1#8 0#8 key0)) takes model = none := by
  unfold signedCheck
  rw [(signedObj_parts m _ (block_length _ _ _ (by rfl))).1]
  exact block_owner mg key0 takes model (by rfl) mg_owner.1 mg_owner.2 ht

/-- The store ready, with one object of one page that an install has written. -/
def readyStore : Store :=
  { formatted := true, geometry := some (1024, 16, 100, 1000), bands := [(0, 4)], good := (List.range 32).map (fun c => (c, 1000)), objects := [⟨7, 4, 0, 1, 1, [], true, 0, 0⟩, ⟨8, 4, 16384, 2, 1, [], true, 0, 0⟩], install := some [7] }
def ms (x : Store) : State := setField 0x00070000 31 29 2 { mg with store := x }
def file7 : PkgFile := ⟨7, 1, Config.sha512 (objectBytes (ms readyStore) ⟨7, 4, 0, 1, 1, [], true, 0, 0⟩ 0 4096)⟩
def pkg1 : Package := { root := 1, svn := 1, model := 0, deleg := 0, slot := 0, objects := [] }
def running (s : State) : State := setField 0x00000100 31 28 8 s
def withModel : State := { mg with bat := { State.reset.bat with model := some (1, 1, 0) } }
/-- A front's record for rank 1 of 2. -/
def recordHead : List Byte := List.replicate 8 1#8 ++ [2, 1] ++ List.replicate 6 0#8 ++ beBytes 64 1 ++ List.replicate 104 0#8
def frontS : State := setField 0x0005000C 13 0 9000 withModel
def frontRecord : List Byte := recordHead ++ beBytes 64 (akHash frontS)
theorem witness_ManagementOperations_files : filesMatch (ms readyStore) [7] [file7] = true := by
  have ho : (ms readyStore).object? 7 = some ⟨7, 4, 0, 1, 1, [], true, 0, 0⟩ := by rfl
  unfold filesMatch
  simp only [List.map_cons, List.map_nil, List.all_cons, List.all_nil, Bool.and_true]
  rw [show file7.objectId = 7 from rfl, ho]
  simp [file7]
set_option exponentiation.threshold 600 in
theorem witness_ManagementOperations_front : frontRecordOk frontS frontRecord = true := by
  have ak : beAt frontRecord 184 64 = akHash frontS := by
    unfold beAt frontRecord
    rw [List.drop_left' (by rfl), List.take_of_length_le (by simp)]
    simp only [beBytes_length, Nat.sub_self, List.replicate_zero, List.append_nil, beNat_beBytes]
    exact Nat.mod_eq_of_lt (Nat.lt_of_lt_of_le (Config.sha512Bits _).isLt (Nat.le_of_eq (Nat.pow_mul 2 8 64)))
  have n : beAt frontRecord 8 1 = 2 := by rfl
  have r : beAt frontRecord 9 1 = 1 := by rfl
  have l : frontRecord.length = 248 := by simp [frontRecord, recordHead]
  have m : beAt frontRecord 16 64 = 1 := by decide +kernel
  unfold frontRecordOk recordEntries
  rw [n, r, l, m]
  show (_ && _) = true
  simp [List.range_succ, ak]
  decide +kernel
def peer2 : Session := { state := .opened, gen := 6 }
def twoSess (s : State) : State := { s with net := { s.net with sessions := [(0, mgmtSess), (1, peer2)] } }
theorem witness_ManagementOperations :
    deniedWrite .mgmt 0x00090000 1 = true ∧ deniedWrite .mgmt 0x000A0204 1 = false ∧ badPartition mg 0x000A0204 1 = false ∧ deniedWrite .mgmt 0x108 0 = false
    ∧ (ms readyStore).store.install.isSome = true ∧ (ms { readyStore with install := none }).storeState = 2 ∧ ([(9, 1)].map Prod.fst).Nodup
    ∧ (ms { readyStore with install := none }).object? 9 = none
    ∧ modelPages (ms { readyStore with bands := [], install := none }) < nextModelPage (ms { readyStore with bands := [], install := none }) + sumOf ([(9, 1)].map Prod.snd)
    ∧ nextModelPage (ms { readyStore with objects := [], install := none }) + sumOf ([(9, 1)].map Prod.snd) ≤ modelPages (ms { readyStore with objects := [], install := none })
    ∧ (ms { readyStore with install := some [7, 8] }).object? 8 = some ⟨8, 4, 16384, 2, 1, [], true, 0, 0⟩ ∧ 1 + ([1#8].length + 4095) / 4096 ≤ 2
    ∧ (ms { readyStore with install := some [7, 8] }).object? 7 = some ⟨7, 4, 0, 1, 1, [], true, 0, 0⟩ ∧ 1 < 1 + ([1#8].length + 4095) / 4096
    ∧ filesMatch (ms readyStore) [7] [] = false ∧ (ms readyStore).sec.fuses.pkgMin ≤ 0
    ∧ mg.bootState ≠ 8 ∧ (running (ms { readyStore with packages := [pkg1] })).bootState = 8
    ∧ (running (ms { readyStore with packages := [pkg1] })).store.packages.find? (fun p => p.root == 1) = some pkg1
    ∧ (running (ms { readyStore with packages := [pkg1] })).storeState = 2 ∧ loadable (running (ms { readyStore with packages := [pkg1] })) pkg1 = true
    ∧ (∀ e ∈ withModel.net.sessions, e.2.kind ≠ 0) ∧ withModel.bat.model.isSome = true ∧ mg.storeState = 0
    ∧ (∀ c < 32, (ms { readyStore with install := none }).store.channelBlocks c ≠ 0)
    ∧ signedCheck (ms readyStore) ⟨[], true, true⟩ (· == 0) 0 = some 1 ∧ mg.boot.shutdown = 0 ∧ (running mg).bootState = 8 ∧ (running mg).store.install = none
    ∧ (twoSess mg).live? 4102 = some 1 ∧ ((twoSess mg).sess 1).state = .opened ∧ (twoSess mg).txs = [] ∧ mg.live? 9 = none ∧ frontRecordOk mg [] = false
    ∧ (setField 0x00060100 23 18 2 (setField 0x00060100 31 29 4 mg)).fstate = 4 ∧ (setField 0x00060100 23 18 2 (setField 0x00060100 31 29 4 mg)).field 0x00060100 23 18 ≠ 0
    ∧ mg.field 0x00060100 23 18 = 0 ∧ mg.net.sessions.Pairwise (fun x y => x.1 < y.1) := by
  and_intros <;> decide +kernel
/-- A firmware image that FWK_0 signs. -/
theorem witness_ManagementOperations_firmware : signedCheck mg (signedObj [] (block 0#8 0#8 (fwk false 0))) (· == 0) 0 = none := by
  unfold signedCheck
  rw [(signedObj_parts [] _ (block_length _ _ _ (fwk_length false 0))).1]
  exact block_passes false 0 mg (· == 0) 0 rfl rfl
/-- A manifest that the owner signs. -/
theorem witness_ManagementOperations_manifest : signedCheck mg (signedObj [] (block 1#8 0#8 key0)) (fun k => k == 1 || k == 2) 0 = none := mg_signed [] _ 0 rfl

/-! Security. -/

/-- An unlock record of a target and argument for this module, signed by SVK_1. -/
def record (target arg : Byte) (tail : List Byte) : List Byte := [0x43#8, 0x4C#8, 0x4E#8, 0x4B#8] ++ beBytes 8 Config.serial ++ [target, arg, 0, 0] ++ tail
def unlockOf (target arg : Byte) (tail : List Byte) : SignedObj := signedObj (record target arg tail) (block 3#8 1#8 (fwk true 1))
theorem unlock_parts (target arg : Byte) (tail : List Byte) :
    sigBlock (unlockOf target arg tail).bytes = block 3#8 1#8 (fwk true 1) ∧ sigMessage (unlockOf target arg tail).bytes = record target arg tail :=
  signedObj_parts _ _ (block_length _ _ _ (fwk_length true 1))
theorem record_fields (target arg : Byte) (tail : List Byte) :
    beAt (record target arg tail) 0 4 = 0x434C4E4B ∧ beAt (record target arg tail) 4 8 = Config.serial ∧ beAt (record target arg tail) 14 2 = 0
      ∧ beAt (record target arg tail) 12 1 = target.toNat ∧ beAt (record target arg tail) 13 1 = arg.toNat ∧ (record target arg tail).length = 16 + tail.length := by
  have e : record target arg tail = [0x43#8, 0x4C#8, 0x4E#8, 0x4B#8] ++ (beBytes 8 Config.serial ++ ([target, arg, 0, 0] ++ tail)) := by simp [record]
  have s8 : beAt (record target arg tail) 4 8 = Config.serial := by
    unfold beAt
    rw [e, List.drop_left' (by rfl), List.take_left' (by simp)]
    simp only [beBytes_length, Nat.sub_self, List.replicate_zero, List.append_nil, beNat_beBytes]
    exact Nat.mod_eq_of_lt (Nat.lt_of_lt_of_le Config.serialBits.isLt (by decide))
  have d12 : (record target arg tail).drop 12 = [target, arg, 0, 0] ++ tail := by
    rw [record, List.append_assoc, List.drop_left' (by simp)]
  refine ⟨rfl, s8, ?_, ?_, ?_, ?_⟩
  · unfold beAt
    rw [show 14 = 12 + 2 from rfl, ← List.drop_drop, d12]
    rfl
  · unfold beAt
    rw [d12]
    simp [beNat, leNat]
  · unfold beAt
    rw [show 13 = 12 + 1 from rfl, ← List.drop_drop, d12]
    simp [beNat, leNat]
  · simp [record]
    omega

/-- Every record of a legal shape by SVK_1 passes on a module that has revoked no key. -/
theorem unlock_passes (s : State) (target arg : Byte) (tail : List Byte) (hr : s.sec.fuses.revoke = 0) (hl : tail.length = if target = 3 then 64 else 0)
    (ha : (target = 0xF0 ∧ arg = 4) ∨ (target ≠ 0xF0 ∧ arg = 0)) : unlockCheck s (unlockOf target arg tail) = none := by
  obtain ⟨f0, f4, f14, f12, f13, fl⟩ := record_fields target arg tail
  obtain ⟨hb, hm⟩ := unlock_parts target arg tail
  have hc : signedCheck s (unlockOf target arg tail) (fun k => k == 3 || (target.toNat == 0xF0 && k == 0)) 0 = none := by
    unfold signedCheck
    rw [hb]
    exact block_passes true 1 s _ 0 hr (by simp)
  have hs : signer (block 3#8 1#8 (fwk true 1)) = 3 := rfl
  have hi : keyIndex (block 3#8 1#8 (fwk true 1)) = 1 := rfl
  have h3 : (target.toNat = 3) ↔ target = 3 := by rw [← BitVec.toNat_inj]; rfl
  have hf : (target.toNat = 0xF0) ↔ target = 0xF0 := by rw [← BitVec.toNat_inj]; rfl
  unfold unlockCheck unlockShaped revokes
  simp only [hb, hm, f0, f4, f14, f12, f13, fl, hc, hs, hi, hl, beq_self_eq_true]
  rcases ha with ⟨rfl, rfl⟩ | ⟨ht, rfl⟩
  · decide
  · by_cases h : target = 3
    · subst h; decide
    · have h' : ¬ target = 3#8 := h
      have ht' : ¬ target = 240#8 := ht
      simp [h3, hf, h', ht']

def withLc (n : Nat) : State := { base with sec := { State.reset.sec with fuses := { State.reset.sec.fuses with groups := n, owners := [{ hash := 1 }] } } }
theorem test_revocation : ((withLc 1).sec.fuses.revoke ||| BitVec.ofNat 8 (2 ^ beAt (sigMessage (unlockOf 0xF0 4 []).bytes) 13 1)) = 0x10 := by
  rw [(unlock_parts 0xF0 4 []).2, (record_fields 0xF0 4 []).2.2.2.2.1]
  decide
theorem witness_Security_records :
    (∀ n, unlockCheck (withLc n) (unlockOf 0xF0 4 []) = none ∧ unlockCheck (withLc n) (unlockOf 0xFF 0 []) = none ∧ unlockCheck (withLc n) (unlockOf 1 0 []) = none
      ∧ unlockCheck (withLc n) (unlockOf 4 0 []) = none ∧ unlockCheck (withLc n) (unlockOf 3 0 (beBytes 64 1)) = none)
    ∧ (∀ t : Byte, ∀ tail, beAt (sigMessage (unlockOf t 0 tail).bytes) 12 1 = t.toNat)
    ∧ unlockCheck (withLc 1) ⟨[], true, true⟩ = some 1 := by
  refine ⟨fun n => ⟨?_, ?_, ?_, ?_, ?_⟩, fun t tail => ?_, by decide +kernel⟩
  · exact unlock_passes _ _ _ _ rfl (by decide) (.inl ⟨rfl, rfl⟩)
  · exact unlock_passes _ _ _ _ rfl (by decide) (.inr ⟨by decide, rfl⟩)
  · exact unlock_passes _ _ _ _ rfl (by decide) (.inr ⟨by decide, rfl⟩)
  · exact unlock_passes _ _ _ _ rfl (by decide) (.inr ⟨by decide, rfl⟩)
  · exact unlock_passes _ _ _ _ rfl (by decide) (.inr ⟨by decide, rfl⟩)
  · rw [(unlock_parts t 0 tail).2]
    exact (record_fields t 0 tail).2.2.2.1
/-- The record of check 6: signed, with nothing in it. -/
theorem witness_Security_shape (s : State) (hr : s.sec.fuses.revoke = 0) : unlockCheck s (signedObj [] (block 3#8 1#8 (fwk true 1))) = some 6 := by
  obtain ⟨hb, hm⟩ := signedObj_parts [] _ (block_length 3#8 1#8 _ (fwk_length true 1))
  have hc : signedCheck s (signedObj [] (block 3#8 1#8 (fwk true 1))) (fun k => k == 3 || (beAt ([] : List Byte) 12 1 == 0xF0 && k == 0)) 0 = none := by
    unfold signedCheck
    rw [hb]
    exact block_passes true 1 s _ 0 hr (by simp)
  unfold unlockCheck unlockShaped
  simp only [hm, hc]
  rfl

def delegMsg : List Byte := beBytes 4 0x43444C47 ++ beBytes 4 9 ++ List.replicate 88 0#8
theorem witness_Security_delegation :
    signedCheck mg (signedObj delegMsg (block 1#8 0#8 key0)) (· == 1) 0 = none ∧ delegShaped (signedObj delegMsg (block 1#8 0#8 key0)) = true := by
  refine ⟨mg_signed _ _ 0 rfl, ?_⟩
  unfold delegShaped
  rw [(signedObj_parts delegMsg _ (block_length 1#8 0#8 key0 (by rfl))).2]
  decide +kernel
def svcS : State := { mg with programs := [{ prog with svn := 3 }] }
theorem witness_Security :
    key0.length = 133 ∧ (currentOwner mg).isSome = true ∧ mg.sec.fuses.owners.length < 4 ∧ mg.net.sessions = [(0, mg.sess 0)] ∧ mg.txs = [] ∧ mg.sec.delegs.length < 16
    ∧ signedCheck mg ⟨[], true, true⟩ (· == 1) 0 = some 1 ∧ (∀ d ∈ mg.sec.delegs, d.id ≠ 9)
    ∧ ({ mg with sec := { mg.sec with delegs := [⟨9, 0, 0⟩] } } : State).sec.delegs = [⟨9, 0, 0⟩]
    ∧ (setWord 0x00010014 4 mg).word 0x00010014 = 4 ∧ mg.sec.fuses.fwMin < 4 ∧ (mg.word 0x00010014).toNat ≤ mg.sec.fuses.fwMin
    ∧ ((svcS.programs.filter (fun p => !p.firmware)).map Program.svn).min? = some 3 ∧ svcS.sec.fuses.svcMin < 3
    ∧ withModel.bat.model = some (1, 1, 0) ∧ withModel.sec.fuses.pkgMin < 1 ∧ mg.bat.model = none ∧ mg.sec.fuses.groups = 2 ∧ (withLc 1).sec.fuses.groups ≠ 2
    ∧ ownerHash (withLc 1) = 1 ∧ beAt (beBytes 64 1) 0 64 = 1
    ∧ ({ mg with sec := { mg.sec with entropyBad := true } } : State).sec.entropyBad = true ∧ mg.sec.entropyBad = false
    ∧ (mg.sess 0).state ≠ .free ∧ (mg.sess 0).keyed = true := by
  and_intros <;> decide +kernel

/-! Fronts. -/

def peerOf (r : Nat) : Session := { state := .opened, gen := 5, kind := 1, rank := r, keyed := true }
/-- A member of a front of ranks 0 and 1, in an FSTATE and a rank, in session with the other. -/
def frontIn (fs me : Nat) (f : Front) : State :=
  setField 0x00060100 31 29 fs (setField 0x00060100 28 24 me (setField 0x00060100 23 18 2 (setWord 0x00060108 3
    { base with net := { State.reset.net with sessions := [(0, peerOf (1 - me))] }, front := { f with members := 3 } })))
def fr : FusedFrame := ⟨7, 0, 0, 3, 0, 2, 7, 1, 2, 1, 0, 0, [[[1], [2]]]⟩
def streamed : State := { frontIn 2 0 {} with arr := { State.reset.arr with streams := [⟨7, 1, []⟩] } }
def msg (rank : Nat) : FrontMsg := { rank := rank, epoch := 0, newEpoch := 1, set := 3 }
theorem test_frame_of_other_epoch : (run1 (.fusedFrameReceive { fr with epoch := 9 }) (frontIn 2 0 {})).word 0x0006011C = 1 := by decide +kernel
theorem test_part : mayContinue 3 1 = true ∧ mayContinue 3 2 = false ∧ mayContinue 7 6 = true := by decide
theorem test_propose_accepts : (run1 (.propose (msg 1)) (frontIn 2 0 {})).fstate = 3 := by decide +kernel
theorem witness_FrontHeartbeats :
    bit (frontIn 2 0 {}).front.members 1 = true ∧ look 0 (frontIn 2 0 {}).front.suspectAt 1 = 0 ∧ fr.epoch = (frontIn 2 0 {}).epoch ∧ 9 ≠ (frontIn 2 0 {}).epoch
    ∧ (frontIn 2 0 {}).arr.streams = [] ∧ streamed.arr.streams = [⟨7, 1, []⟩] ∧ fr.attempt < 1 ∧ (3#32).getLsbD 1 = true
    ∧ peerSlot (frontIn 2 0 {}) 1 = some 0 ∧ ((frontIn 2 0 {}).sess 0).state = .opened ∧ ((frontIn 2 0 {}).sess 0).txNext < 0xFFFFFF00 ∧ 1280 ≤ ((frontIn 2 0 {}).sess 0).pmtu
    ∧ (frontIn 2 0 {}).fstate = 2 ∧ (frontIn 2 0 {}).front.restarted = false
    ∧ look 0 (frontIn 2 0 { suspectAt := [(1, 8)] }).front.suspectAt 1 = 8 ∧ (frontIn 2 0 { suspectAt := [(1, 8)] }).now ≤ 8 + 5 * msHalves
    ∧ bit ((frontIn 2 0 { suspectAt := [(1, 8)] }).word 0x00060108).toNat 1 = true ∧ watched (frontIn 2 0 {}) 1 = true
    ∧ watched (frontIn 4 0 { suspectAt := [(1, 8)] }) 1 = true ∧ (frontIn 4 0 {}).fstate ∉ [2, 3]
    ∧ watched (frontIn 2 1 { suspectAt := [(0, 8)] }) 0 = true ∧ (frontIn 2 1 { suspectAt := [(0, 8)] }).fstate = 2
    ∧ mayContinue (frontIn 2 1 {}).front.members (sumOf ((ranksOf (frontIn 2 1 {}).front.members).map (fun k =>
        if k = (frontIn 2 1 {}).myRank ∨ (bit ((frontIn 2 1 {}).word 0x00060108).toNat k = true ∧ k ≠ 0) then 2 ^ k else 0))) = false
    ∧ 2 * rankCount 1 < rankCount 7 ∧ rankCount 7 < 2 * rankCount 6 ∧ rankCount 3 = 2 * rankCount 2 ∧ 0 < rankCount 3 := by
  and_intros <;> decide +kernel
theorem witness_FrontAgreement :
    (msg 1).newEpoch = (frontIn 2 0 {}).epoch + 1 ∧ bit (msg 1).set.toNat (frontIn 2 0 {}).myRank = true
    ∧ (∀ r < 32, bit (msg 1).set.toNat r = true → r = (frontIn 2 0 {}).myRank ∨ bit ((frontIn 2 0 {}).word 0x00060108).toNat r = true)
    ∧ (frontIn 2 0 {}).front.accepted = none ∧ mayContinue (frontIn 2 0 {}).front.members 3 = true ∧ (9 : Nat) ≠ (frontIn 2 0 {}).epoch + 1
    ∧ (frontIn 2 0 { proposal := some (1, 3, 1) }).front.proposal = some (1, 3, 1)
    ∧ (∀ r < 32, bit 3 r = true → r ≠ 1 → bit 1 r = true) ∧ (frontIn 2 0 { proposal := some (1, 3, 1) }).front.rejoins = [] ∧ bit 3 1 = true
    ∧ bit 3 0 = true ∧ bit 0 0 = false
    ∧ (frontIn 3 0 { accepted := some (1, 3, 9) }).front.accepted = some (1, 3, 9)
    ∧ bit ({ msg 0 with set := 1 } : FrontMsg).set.toNat (frontIn 2 1 {}).myRank = false ∧ (frontIn 2 1 {}).epoch < 1
    ∧ (frontIn 2 0 {}).lead = some (frontIn 2 0 {}).myRank ∧ (1 : Nat) ≠ (frontIn 2 0 {}).epoch ∧ ({ msg 1 with newEpoch := 0 } : FrontMsg).newEpoch = (frontIn 3 0 {}).epoch
    ∧ (frontIn 3 0 {}).fstate = 3 ∧ (frontIn 3 0 {}).lead = some (frontIn 3 0 {}).myRank
    ∧ (msg 0).epoch = (frontIn 2 1 {}).epoch ∧ (frontIn 2 1 {}).lead = some (msg 0).rank ∧ (msg 0).rank ≠ (frontIn 2 1 {}).myRank
    ∧ (frontIn 2 1 {}).front.stepNo < ({ msg 0 with stepNo := 1 } : FrontMsg).stepNo ∧ (frontIn 4 0 {}).fstate ≠ 3 := by
  and_intros <;> decide +kernel
/-- A front that forms: rank 0 has yet to open its session to rank 1. -/
def forming : State := { frontIn 1 0 { entries := [⟨1, 2, 3⟩, ⟨4, 5, 6⟩] } with net := State.reset.net }
theorem witness_FrontAgreement_forming :
    forming.fstate = 1 ∧ forming.myRank < 1 ∧ 1 < forming.frontSize ∧ peerSlot forming 1 = none ∧ forming.front.entries[1]? = some ⟨4, 5, 6⟩
    ∧ freeSlot { forming with clk := { forming.clk with half := Nat.max forming.now (look 0 forming.front.openedAt 1 + 100 * msHalves) } } = some 0
    ∧ (∀ a ∈ [⟨1, 0, false, true, true, false⟩, ⟨1, 0, false, true, false, false⟩, ⟨1, 0, true, true, false, false⟩, ⟨1, 0, false, false, false, false⟩],
        (frontIn 2 0 { adoptions := [a] }).front.adoptions.find? (fun x => x.share == 1) = some a) := by
  and_intros <;> decide +kernel

/-- Wherever the program has a RESULT stream placed, a member's slot may hold a descriptor that takes it. -/
def frR : FusedFrame := { fr with kind := 1, etype := EType.fp32.code }
def resultS (t slot : Nat) : State := setThr t (thd.setDesc slot (some (dsc .fp32 4 [] 0))) (frontIn 2 0 {})
theorem witness_FrontHeartbeats_result (t slot : Nat) :
    frR.epoch = (resultS t slot).epoch ∧ (resultS t slot).arr.streams = [] ∧ frR.kind = 1 ∧ ((resultS t slot).thr t).desc slot = some (dsc .fp32 4 [] 0)
    ∧ (dsc .fp32 4 [] 0).wr = true ∧ (dsc .fp32 4 [] 0).etype.code = frR.etype ∧ bit (resultS t slot).front.members 1 = true
    ∧ look 0 (resultS t slot).front.suspectAt 1 = 0 ∧ fr.kind ≠ 1 := by
  refine ⟨by rfl, rfl, rfl, ?_, rfl, rfl, by show bit 3 1 = true; decide, by rfl, by decide⟩
  unfold Thread.desc State.thr resultS setThr
  rw [look_put_self]
  unfold Thread.setDesc
  exact look_put_self (α := Option Desc) none thd.d slot (some (dsc .fp32 4 [] 0))

/-! Power, clocks and heat. -/

/-- The module in a power state and a boot state, with a transition under way. -/
def powS (st boot : Nat) (p : Power) : State :=
  setField 0x00020028 31 0 0x00050006 (setField 0x00020024 28 26 st (setField 0x00000100 23 23 (if boot = 8 then 1 else 0) (setField 0x00000100 31 28 boot { base with pow := { p with refclk := true } })))
/-- STATE_REQ Calm. -/
def wantsCalm : State := setField 0x00020024 31 29 2 (powS 2 8 {})
theorem test_cap_clamped : (run1 (.capOwnWrite 0) base).field 0x00020000 31 22 = 300 ∧ (run1 (.capOwnWrite 0xFFFFFFFF) base).field 0x00020000 21 12 = 850 := by
  decide +kernel
theorem test_droop : look 0 (run1 (.droopLevel2 16) base).clk.stretch 16 = 2 := by decide +kernel
theorem witness_CapsAndLull :
    base.boot.powered = true ∧ base.pow.capDue = false ∧ 0 < base.field 0x0002000C 24 20 ∧ (powS 0 8 { maxSince := some 4 }).pow.maxSince = some 4
    ∧ (powS 0 8 { maxSince := some 4 }).pow.limit = false ∧ ({ base with pow := { State.reset.pow with capDue := true } } : State).pow.capDue = true := by
  and_intros <;> decide +kernel
theorem witness_PowerStates :
    (powS 0 8 {}).boot.powered = true ∧ (powS 0 8 {}).boot.railsGood = true ∧ (powS 0 8 {}).pow.moving = none ∧ (powS 0 8 {}).powState = 0 ∧ (4#3).toNat = 4
    ∧ (powS 2 8 {}).powState = 2 ∧ (powS 3 8 {}).powState = 3 ∧ (powS 0 8 { moving := some .calm }).pow.moving = some .calm
    ∧ (powS 2 8 {}).field 0x00020024 31 29 < 2 ∧ (powS 2 8 {}).pow.refclk = true ∧ 2 ≤ wantsCalm.field 0x00020024 31 29
    ∧ automatic (powS 1 8 {}) = true ∧ (powS 1 8 {}).isReady = true ∧ (powS 1 8 {}).powState ≤ 1 ∧ workless (powS 1 8 {}) = true
    ∧ (powS 1 8 {}).field 0x00020028 31 16 ≠ 0 ∧ (powS 2 8 {}).field 0x00020028 15 0 ≠ 0 ∧ automatic (powS 2 8 {}) = true
    ∧ imageSize (powS 2 8 {}) ≤ (powS 2 8 {}).mem.stageCur * 2 ^ 30
    ∧ 15 ∉ (powS 0 8 {}).pow.breeze ∧ (powS 0 8 {}).arr.sweeps.order = [] ∧ (powS 0 8 {}).test.slice = none
    ∧ (∀ k < 8, ((powS 0 8 {}).thr ((4 + 15) * 8 + k)).state ≠ .ready)
    ∧ (powS 0 8 { breeze := List.range 15, moving := none }).pow.breeze.length = 15 ∧ 15 ∉ (powS 0 8 { breeze := List.range 15 }).pow.breeze
    ∧ (powS 0 8 { moving := some .calm }).pow.next = none ∧ (powS 0 8 { moving := some .calm }).powState ≠ 2
    ∧ (powS 2 8 { moving := some .frost }).pow.moving = some .frost ∧ (powS 2 8 { moving := some .frost }).pow.next = none
    ∧ (powS 0 8 { moving := some .calm, next := some .gale }).pow.next = some .gale := by
  and_intros <;> decide +kernel
def faulted : State := { base with boot := { base.boot with railsGood := false, railAt := some 4, image := some ⟨1, 2⟩ } }
def lostClock : State := setField 0x00040000 31 30 1 (setField 0x00020024 28 26 0 { base with pow := { State.reset.pow with refclk := false } })
theorem witness_RailsAndClocks :
    base.field (0x00020100 + 4 * 32) 21 17 < 16 ∧ (setField (0x00020100 + 4 * 32) 21 17 16 base).field (0x00020100 + 4 * 32) 21 17 = 16
    ∧ recent base.now (3600 * sHalves) (look [] base.boot.recoveries 6) = []
    ∧ recent base.now (3600 * sHalves) (look [] [(6, [0])] 6) ≠ [] ∧ faulted.boot.railAt = some 4 ∧ faulted.boot.image = some ⟨1, 2⟩ ∧ faulted.pins.resetN = true
    ∧ (powS 0 8 {}).pow.refclk = true ∧ lostClock.pow.refclk = false ∧ lostClock.field 0x00040000 30 30 = 1 ∧ lostClock.pow.moving = none ∧ lostClock.powState = 0
    ∧ look 0 base.clk.stretch 16 = 0 ∧ look 0 ({ base with clk := { base.clk with stretch := [(3, 1)] } } : State).clk.stretch 3 ≠ 0 := by
  and_intros <;> decide +kernel
/-- The fused set point is the module's own (R434): the next trim is within 0.72 V, or it is not. -/
theorem witness_RailsAndClocks_either (r trim : Nat) : (Config.railSet r).toNat + trim + 1 ≤ 288 ∨ 288 < (Config.railSet r).toNat + trim + 1 := by omega
def cold (arrays : Bool) (hot : List Nat) : State := { base with boot := { base.boot with arrays := arrays }, pow := { State.reset.pow with hot := hot } }
theorem test_quarters : quarters 6432 = 101 ∧ quarters 6431 = 100 ∧ quarters (-33) = -1 := by decide
theorem witness_Heat :
    (cold true []).boot.arrays = true ∧ (cold true []).pow.temps = [] ∧ (cold true []).pow.excluded = [] ∧ (cold true []).pow.comparators = [] ∧ (cold true []).arr.regions = []
    ∧ quarters 6400 ≤ 420 ∧ -512 ≤ quarters 6400 ∧ (cold false []).boot.arrays = false ∧ (cold false []).pow.hot = [] ∧ 10304 ∈ (cold false [10304]).pow.hot
    ∧ 460 ≤ quarters 29440 ∧ quarters 29440 < 512 ∧ (∀ d < 17, signed 10 (base.field (0x00030100 + 4 * d) 31 22) ≤ 400) := by
  and_intros <;> decide +kernel

theorem witness_Heat_sets :
    (cold true []).arr.sweeps.array = none ∧ (cold true []).boot.railsGood = true
    ∧ (∀ r ∈ [({ sensor := .tile 0, milli := 29407, inRange := true } : Reading), { sensor := .hub 0, milli := -40000, inRange := false }], quarters r.milli < 460) := by
  and_intros <;> decide +kernel

/-! Self-test, and start-up. -/

/-- A running module with Drizzle on. -/
def driz (t : SelfTest) : State := setField 0x000B0000 31 31 1 { powS 0 8 {} with test := t }
/-- A sweep waits that uses the pair of the next slice. -/
def busyDriz : State := { driz {} with txs := [sweepTx], arr := { sweepS.arr with sweeps := { State.reset.arr.sweeps with queue := [5] } } }
def sliceAt (i : Nat) (paused : Bool) : State := driz { slice := some { index := i, paused := paused } }
theorem test_drizzle_moves_on : (run1 (.drizzleSliceDone []) (sliceAt 0 false)).test.next = 1 := by decide +kernel
theorem witness_Drizzle :
    drizzleOn (driz {}) = true ∧ (driz {}).test.next < passSlices ∧ (driz {}).pow.breeze = [] ∧ windowOpen (driz {}) (driz {}).test.next = true
    ∧ drizzleOn busyDriz = true ∧ windowOpen busyDriz busyDriz.test.next = false
    ∧ drizzleOn (sliceAt 3 true) = true ∧ windowOpen (sliceAt 3 true) 3 = true ∧ drizzleOn (driz { waitAt := some 5 }) = true
    ∧ anyUntested (sliceAt 0 false) = false ∧ (sliceAt 0 false).mem.untested = [] ∧ 0 + 1 < pairSlices ∧ 0 % 5 ≠ 1 ∧ (80895 + 1 = passSlices)
    ∧ lastPair.ok = true ∧ testGroup lastPair.tile lastPair.pair * 5 + 3 < pairSlices ∧ (testGroup lastPair.tile lastPair.pair * 5 + 3) % 5 = 3
    ∧ (testGroup lastPair.tile lastPair.pair * 5 + 3) / 5 = testGroup lastPair.tile lastPair.pair
    ∧ (driz {}).isReady = true ∧ (driz {}).test.passLate = false ∧ (driz {}).field 0x000B0000 31 31 = 1 := by
  and_intros <;> decide +kernel
def shut (skip restart : Bool) : State := { base with boot := { base.boot with shutdown := 1, skipDownpour := skip, restart := restart } }
def pour (t : SelfTest) (resetN : Bool) : State := { base with test := t, pins := { base.pins with resetN := resetN } }
theorem witness_ShutdownAndDownpour :
    (shut true false).boot.shutdown = 1 ∧ (shut true false).net.sessions = [] ∧ (shut false false).boot.skipDownpour = false
    ∧ (pour { phase := 6 } true).test.step < phaseSlices 6 ∧ (pour { phase := 1 } true).test.step < phaseSlices 1 ∧ (pour { phase := 1, wake := true } false).pins.resetN = false
    ∧ phaseSlices 1 ≤ (pour { phase := 1, step := phaseSlices 1 } true).test.step ∧ phaseSlices 6 ≤ (pour { phase := 6, step := phaseSlices 6 } true).test.step
    ∧ (pour { phase := 6 } true).boot.restart = false ∧ (pour { phase := 6 } true).test.storm = false := by
  and_intros <;> decide +kernel

/-- A start at a step. -/
def starting (b : Boot) (h : Health) : State := { State.reset with boot := { b with powered := true }, test := { State.reset.test with health := h } }
def imgA : FwImage := ⟨1, 2⟩
def verdict : SlotVerdict := ⟨0, true, 9⟩
def norB : State := { starting { step := 2, image := some imgA } {} with sec := { State.reset.sec with nor := [(0, imgA), (1, ⟨3, 4⟩)] } }
def pkgS : State := setField 0x00070000 31 29 2 { starting { step := 8 } { autoload := some 1 } with store := { State.reset.store with packages := [pkg1] } }
theorem test_power_applied : (run1 .powerApplied State.reset).boot.step = 1 := by decide +kernel
theorem witness_StartUp :
    State.reset.boot.powered = false ∧ (starting { step := 1 } {}).boot.powered = true ∧ (starting { step := 1 } {}).boot.waiting = false
    ∧ (starting { step := 1 } {}).pins.resetN = true ∧ verdict.sigOk = true ∧ (starting { step := 1 } {}).sec.fuses.fwMin ≤ verdict.svn
    ∧ (starting { step := 1 } {}).sec.try_ = none ∧ (starting { step := 1 } {}).sec.active = 0 ∧ (starting { step := 1 } {}).sec.fuses.groups ≤ 3
    ∧ norB.boot.step = 2 ∧ norB.boot.image = some imgA ∧ norB.sec.booted = 0 ∧ bootable norB 1 = some ⟨3, 4⟩ ∧ (starting { step := 2 } {}).boot.image = none
    ∧ (starting { step := 3, image := some imgA } {}).boot.warm = false ∧ (starting { step := 4 } { skipTest := true }).test.health.skipTest = true
    ∧ (starting { step := 5, warm := true } {}).boot.linkDone = false ∧ (starting { step := 5 } {}).mem.partLock = false ∧ (starting { step := 5 } {}).test.regions = []
    ∧ partitionFits (starting { step := 5 } {}) = true
    ∧ partitionFits { starting { step := 5 } {} with mem := { State.reset.mem with partRequest := some (255, 255) } } = false
    ∧ (starting { step := 6 } {}).boot.linkDone = false ∧ (starting { step := 7 } {}).boot.storm = false ∧ (starting { step := 7 } {}).test.health.autoload = none
    ∧ (starting { step := 8 } {}).test.phase = 0 ∧ (defaultPackage pkgS).isSome = true ∧ pkgS.sec.fuses.pkgMin ≤ pkg1.svn := by
  and_intros <;> decide +kernel

/-! Resets, recovery, registers and memory. -/

/-- The module at a boot state, with RESET_N high or low. -/
def bootS (n : Nat) (b : Boot) (resetN : Bool) : State :=
  setField 0x00000100 31 28 n { base with boot := b, pins := { base.pins with resetN := resetN } }
def on8 (resetN : Bool) : State := bootS 8 base.boot resetN
def off0 : Boot := { powered := true }
def lcS (n : Nat) (b : Boot) : State := { bootS 1 b false with sec := { State.reset.sec with nor := [(0, imgA)], fuses := { State.reset.sec.fuses with groups := n } } }
theorem test_warm_reset_keeps_dram : (run1 (.warmReset .fw) { on8 true with mem := { State.reset.mem with cells := [(5, 1), (0x4000000000, 2)] } }).mem.cells = [(5, 1)] := by
  decide +kernel
theorem witness_WarmResets :
    resettable (on8 true) = true ∧ resettable (on8 false) = true ∧ (on8 true).boot.powered = true ∧ (on8 true).boot.shutdown = 0 ∧ (on8 true).isOff = false ∧ (on8 true).bootState < 10
    ∧ resettable State.reset = false ∧ State.reset.boot.powered = false ∧ (on8 false).pins.resetN = false ∧ (on8 true).boot.waiting = false
    ∧ (lcS 1 { off0 with waiting := true, warm := true, step := 1 }).sec.fuses.groups = 1 ∧ (lcS 3 { off0 with waiting := true, warm := true, step := 1 }).sec.try_ = none
    ∧ bootable (lcS 1 { off0 with waiting := true, warm := true, step := 1 }) 0 = some imgA ∧ (on8 true).boot.wdogAt = none
    ∧ (recent (on8 true).now (3600 * sHalves) (look [] [(4, [0])] 4)).length < 2 ∧ 2 ≤ (recent (on8 true).now (3600 * sHalves) (look [] [(4, [0, 0])] 4)).length := by
  and_intros <;> decide +kernel
theorem witness_StartsAndLosses :
    (bootS 0 { off0 with tripAt := some 0 } true).now < 0 + 60 * sHalves
    ∧ 0 + 60 * sHalves ≤ ({ bootS 0 { off0 with tripAt := some 0, image := some imgA } true with clk := { half := 60 * sHalves } } : State).now
    ∧ State.reset.boot.tripAt = none ∧ State.reset.boot.powered = false ∧ (bootS 9 { base.boot with shutdown := 1 } true).boot.shutdown = 1
    ∧ (bootS 9 { base.boot with shutdown := 3 } true).boot.shutdown = 3 ∧ (on8 true).boot.railAt = none ∧ (on8 true).boot.lowAt = none
    ∧ (bootS 0 off0 false).isOff = true ∧ (bootS 0 off0 false).pins.resetN = false ∧ (bootS 10 off0 false).bootState = 10 ∧ (bootS 10 off0 false).boot.shutdown = 0
    ∧ (on8 true).boot.railsGood = true ∧ (on8 true).bootState ≠ 10 ∧ (bootS 0 { off0 with lowAt := some 4, image := some imgA } true).boot.lowAt = some 4
    ∧ (bootS 10 off0 true).sec.fuses.groups = 0 ∧ (signedCheck (bootS 10 off0 true) ⟨[], true, true⟩ (· == 0) 0).isSome = true ∧ (bootS 10 off0 true).sec.fuses.fwMin ≤ 0 := by
  and_intros <;> decide +kernel
theorem witness_StartsAndLosses_image : signedCheck (bootS 10 off0 true) (signedObj [] (block 0#8 0#8 (fwk false 0))) (· == 0) 0 = none := by
  unfold signedCheck
  rw [(signedObj_parts [] _ (block_length _ _ _ (fwk_length false 0))).1]
  exact block_passes false 0 _ (· == 0) 0 rfl rfl

def sideS (a : Nat) (rails : Bool) : State := { base with boot := { base.boot with railsGood := rails }, side := { State.reset.side with addr := a } }
theorem test_i3c_write_denied : (run1 (.i3cWrite [0, 0, 0]) base).word 0x000C0018 = 1 := by decide +kernel
theorem test_i3c_reads_off : (run1 (.i3cRead 1) (sideS 0x00070004 false)).side.out = [0, 0, 0, 0] := by decide +kernel
theorem witness_RegisterSpace_I3cTransfers :
    base.boot.powered = true ∧ (0x000C0014#32).toNat % 4 = 0 ∧ (0x000C0016#32).toNat % 4 ≠ 0 ∧ (sideS 0x000C0014 true).side.addr < 2 ^ 32 ∧ base.pow.breeze = []
    ∧ look none (sideS 0x000C0014 true).latch (latchKey .i3c 0x000C0014) = none ∧ look none (sideS 0x00040010 true).latch (latchKey .i3c 0x00040010) = none
    ∧ (sideS 0x00070004 false).boot.railsGood = false ∧ (sideS 0x00070004 false).boot.powered = true := by
  and_intros <;> decide +kernel
theorem test_log_interval_clamped : (run1 (.csrWrite .fw 0x000C0014 0) base).field 0x000C0014 15 0 = 1 := by decide +kernel
theorem witness_RegisterSpace_RegisterWrites :
    blockOn (sideS 0 false) 0x00070000 = false ∧ blockOn base 0x00000104 = true ∧ fieldsAt 0x00000104 = [] := by and_intros <;> decide +kernel
/-- A window with a fetch under way, of a space and an index, with the arrays on or off. -/
def winS (tile pair sp index : Nat) (arrays : Bool) : State :=
  { base with boot := { base.boot with arrays := arrays }, side := { State.reset.side with windows := [(1, { sel := BitVec.ofNat 32 (tile * 2 ^ 18 + pair * 2 ^ 12 + sp * 256), index := index, busy := true, high := some 7 })] } }
theorem witness_WindowsAndEvents_TileWindows :
    blockOn base 0x000A0400 = true ∧ base.pow.breeze = [] ∧ blockOn (sideS 0 false) 0x000A0400 = false ∧ (base.window 0).busy = false
    ∧ (∀ x ∈ [winS 10240 0 0 0 true, winS 0 48 0 0 true, winS 0 0 0 268 true, winS 10239 47 7 11 false, winS 10239 47 5 16383 true, winS 0 0 5 0 true, winS 0 0 3 159 true, winS 0 0 2 3 true],
        (x.window 1).busy = true)
    ∧ bits ((winS 10240 0 0 0 true).window 1).sel.toNat 31 18 = 10240 ∧ bits ((winS 0 48 0 0 true).window 1).sel.toNat 17 12 = 48
    ∧ bits ((winS 10239 47 5 16383 true).window 1).sel.toNat 11 8 = 5 ∧ ((winS 10239 47 5 16383 true).window 1).index < nthD 0 [268, 6, 2144, 160, 10, 16384, 4, 12] 5
    ∧ ((winS 10239 47 5 16383 true).window 1).high = some 7 ∧ (winS 10239 47 7 11 false).boot.arrays = false := by
  and_intros <;> decide +kernel
def rec0 : EvRecord := { code := 1, count := 1, seq := 0, time := 0, info0 := 0, info1 := 0, kind := 0, loc := 0, handle := 0 }
def evS : State := { base with ev := { State.reset.ev with ring := [rec0], head := 1, alert := 2 } }
theorem test_alert_clears : (run1 (.alertStatusWrite .fw 2) evS).pins.alertN = true := by decide +kernel
theorem witness_WindowsAndEvents_EventInterface :
    ifaceNo .i3c = 0 ∧ ifaceNo .mgmt = 1 ∧ ifaceNo .fw = 2 ∧ evS.ev.ring.find? (fun r => r.seq == (0#32).toNat) = some rec0
    ∧ (∀ e ∈ evS.ev.ring, e.seq ≠ (1#32).toNat) ∧ evS.boot.forced = false ∧ evS.ev.alert &&& ~~~evS.ev.mask &&& ~~~(BitVec.ofNat 14 (2 / 2 * 2)) = 0 := by
  and_intros <;> decide +kernel
theorem witness_MemoryIsolation_MemoryKeepsItsForm : memS.mem.wf ∧ recordMem.wf ∧ (∃ u, Sys2Proof.Machine.exec (.st64 t0 stw) memS = .next u) ∧ (∃ u, Sys2Proof.Machine.exec .lossOf36v memS = .next u) :=
  ⟨by decide +kernel, by decide +kernel, ⟨_, rfl⟩, ⟨_, rfl⟩⟩
theorem witness_FusesOnlyGrow : FusesGrow {} State.reset.sec.fuses ∧ FusesGrow owned.sec.fuses owned.sec.fuses ∧ ∃ u, step { owned with pending := [.lossOf36v] } = .next u :=
  ⟨by decide, by decide, ⟨_, rfl⟩⟩

/-! What the statements about every step meet. -/

theorem witness_StepRunsTheFrontCommand : (∃ u, step { base with pending := [.warmReset .fw, .wdogKick] } = .next u ∧ u.pending = [.wdogKick]) :=
  ⟨_, rfl, rfl⟩
theorem witness_EveryStepKeepsThePins : PinsAgree State.reset ∧ ∃ u, step { State.reset with pending := [.powerApplied] } = .next u := by
  refine ⟨by decide +kernel, _, rfl⟩
theorem witness_ResetAndItsPins : PinsAgree State.reset ∧ State.reset.mem.wf := by decide +kernel

/-! Lands (R485 to R492): the worked example of channel 21, a rule's own example of a name, and a land of each table. -/

theorem test_lands_of_channel_21 : landSignal 34 45 = some (.onfi 21 .dqsC) ∧ landSignal 40 45 = some (.onfi 21 (.rbN 2))
    ∧ landExists 49 128 = true ∧ landSignal 34 46 = none := by decide +kernel
theorem test_lands_of_the_tables : landSignal 1 22 = some (.transmit 1 false) ∧ landSignal 48 1 = some (.side .resetN)
    ∧ landSignal 2 13 = some .gnd ∧ landSignal 10 5 = some .gnd := by decide +kernel

end Sys2Proof.Tests
end

/-! SUPPORT. Integer control words (R222, R223): the results of their operators as numbers, the rule of a control word that
writes one register, and O6 assembled from both. -/

section

namespace Sys2Proof.Machine

/-! Sign extension of an immediate (R222). -/

/-- The top bit of a field is its bit vector's sign. -/
theorem msb_ofNat_eq_bit {n : Nat} (hn : 0 < n) (x : Nat) : (BitVec.ofNat n x).msb = bit x (n - 1) := by
  have hlt : n - 1 < n := by omega
  rw [BitVec.msb_eq_getLsbD_last, BitVec.getLsbD_ofNat, Nat.testBit_eq_decide_div_mod_eq, decide_eq_true hlt, Bool.true_and, bit,
    Bool.beq_eq_decide_eq]

/-- The model's signed reading of a field is the two's complement value of the field's bits. -/
theorem signed_eq_toInt {n : Nat} (hn : 0 < n) (x : Nat) : signed n x = (BitVec.ofNat n x).toInt := by
  rw [BitVec.toInt_eq_msb_cond, msb_ofNat_eq_bit hn, BitVec.toNat_ofNat, signed]

theorem sext_eq_ofInt_toInt {n : Nat} (hn : 0 < n) (x : Nat) : sext n x = BitVec.ofInt 64 (BitVec.ofNat n x).toInt := by
  rw [sext, signed_eq_toInt hn]

/-- The shift amount that a sign-extended IMM40 gives is IMM40[5:0]: sign extension keeps the low bits. -/
theorem shamt_sext_imm40 (w : Head) : shamt (sext 40 (fld w 39 0)) = fld w 5 0 := by
  unfold shamt sext signed fld bits
  rw [BitVec.toNat_ofInt]
  split <;> omega

/-! The operators' results as numbers (R223). -/

theorem sub_eq_ofNat (a b : Word64) : a - b = BitVec.ofNat 64 (2 ^ 64 + a.toNat - b.toNat) := by
  have hb := b.isLt
  rw [BitVec.sub_def]
  congr 1
  omega

theorem divu_eq_ofNat (a b : Word64) :
    divu a b = if b.toNat = 0 then 0xFFFFFFFFFFFFFFFF#64 else BitVec.ofNat 64 (a.toNat / b.toNat) :=
  ite_congr (propext BitVec.toNat_eq) (fun _ => rfl) (fun _ => BitVec.udiv_def)

theorem remu_eq_ofNat (a b : Word64) : remu a b = if b.toNat = 0 then a else BitVec.ofNat 64 (a.toNat % b.toNat) :=
  ite_congr (propext BitVec.toNat_eq) (fun _ => rfl) (fun _ => BitVec.umod_def)

/-- SHL by an amount n multiplies by 2^n. -/
theorem shlW_eq_ofNat {b : Word64} {n : Nat} (a : Word64) (hn : shamt b = n) : shlW a b = BitVec.ofNat 64 (a.toNat * 2 ^ n) := by
  apply BitVec.eq_of_toNat_eq
  rw [shlW, hn, BitVec.toNat_shiftLeft, Nat.shiftLeft_eq, BitVec.toNat_ofNat]

/-- SHR by an amount n divides by 2^n. -/
theorem shrW_eq_ofNat {b : Word64} {n : Nat} (a : Word64) (hn : shamt b = n) : shrW a b = BitVec.ofNat 64 (a.toNat / 2 ^ n) := by
  rw [shrW, hn, ← Nat.shiftRight_eq_div_pow, ← BitVec.toNat_ushiftRight, BitVec.ofNat_toNat, BitVec.setWidth_eq]

/-- SAR by an amount n divides the signed value by 2^n, towards minus infinity. -/
theorem sarW_eq_ofInt {b : Word64} {n : Nat} (a : Word64) (hn : shamt b = n) : sarW a b = BitVec.ofInt 64 (a.toInt / 2 ^ n) := by
  rw [sarW, hn, BitVec.sshiftRight_eq, Int.shiftRight_eq_div_pow, Int.natCast_pow, Int.cast_ofNat_Int]

theorem minW_eq_ite (a b : Word64) : minW a b = if a.toInt < b.toInt then a else b := by
  simp only [minW, BitVec.slt_eq_decide, decide_eq_true_eq]

theorem maxW_eq_ite (a b : Word64) : maxW a b = if a.toInt < b.toInt then b else a := by
  simp only [maxW, BitVec.slt_eq_decide, decide_eq_true_eq]

theorem minuW_eq_ite (a b : Word64) : minuW a b = if a.toNat < b.toNat then a else b :=
  ite_congr (propext BitVec.lt_def) (fun _ => rfl) (fun _ => rfl)

theorem maxuW_eq_ite (a b : Word64) : maxuW a b = if a.toNat < b.toNat then b else a :=
  ite_congr (propext BitVec.lt_def) (fun _ => rfl) (fun _ => rfl)

/-! A control word that writes one register: R-, I- and L-format words each follow from it. -/

/-- An issued control word whose body writes one register writes it and passes on by one word. Its value is one that the
thread's turn in its rotation does not change. -/
theorem writesReg_of_runs {t : Who} {s : State} {op : Nat} {w : Head} {fieldsOk : Bool} {d : Nat} {val : State → Word64} {v : Word64}
    (h : Runs s t (control op w fieldsOk)) (hval : ∀ c p k, val (toBack c p k s) = v) :
    WritesReg t s d v (done (issue t (control op w fieldsOk) (fun u => .pass (setG t d (val u) u)) s)) := by
  refine ⟨_, done_eq _, ?_⟩
  rw [issue_runs _ _ _ _ h, Effect.carry_pass, hval]
  refine ⟨?_, rfl, fun j hj => ?_⟩
  · rw [settle_thr, thr_onThr_self, setG_thr, toBack_thr]
    rfl
  · rw [settle_thr, thr_onThr_ne _ _ hj, setG, thr_onThr_ne _ _ hj, toBack_thr]

theorem opR_writesReg {op : Nat} {f : Word64 → Word64 → Word64} {t : Who} {w : Head} {s : State} {v : Word64}
    (h : Runs s t (control op w (fld w 33 0 == 0))) (hv : f (s.g t (fld w 45 40)) (s.g t (fld w 39 34)) = v) :
    WritesReg t s (fld w 51 46) v (done (opR op f t w s)) :=
  writesReg_of_runs h (fun _ _ _ => hv)

theorem opI_writesReg {op : Nat} {f : Word64 → Word64 → Word64} {t : Who} {w : Head} {s : State} {v : Word64}
    (h : Runs s t (control op w true)) (hv : f (s.g t (fld w 45 40)) (sext 40 (fld w 39 0)) = v) :
    WritesReg t s (fld w 51 46) v (done (opI op f t w s)) :=
  writesReg_of_runs h (fun _ _ _ => hv)

theorem effLi_writesReg {t : Who} {w : Head} {s : State} (h : Runs s t (control 0x27 w true)) :
    WritesReg t s (fld w 51 46) (sext 46 (fld w 45 0)) (done (effLi t w s)) :=
  writesReg_of_runs h (fun _ _ _ => rfl)

theorem effLui_writesReg {t : Who} {w : Head} {s : State} (h : Runs s t (control 0x28 w (fld w 45 32 == 0))) :
    WritesReg t s (fld w 51 46) (BitVec.ofNat 64 (fld w 31 0 * 2 ^ 32 + (s.g t (fld w 51 46)).toNat % 2 ^ 32)) (done (effLui t w s)) :=
  writesReg_of_runs h (fun _ _ _ => rfl)

/-- Settles O6: each word follows from the rule of its format, with its operator's result as a number. -/
theorem integerArithmetic : Obligations.IntegerArithmetic := by
  refine ⟨fun t w s => ?rFormat, fun t w s => ?iAndLFormat⟩
  case rFormat =>
    intro a b d ok
    exact
      ⟨fun h => opR_writesReg h (BitVec.add_def a b),
       fun h => opR_writesReg h (sub_eq_ofNat a b),
       fun h => opR_writesReg h rfl, -- MUL: the product of bit vectors is that of their numbers
       fun h => opR_writesReg h rfl, -- MULHU: the model defines it as the number
       fun h => opR_writesReg h (divu_eq_ofNat a b),
       fun h => opR_writesReg h (remu_eq_ofNat a b),
       fun h => opR_writesReg h rfl,
       fun h => opR_writesReg h rfl,
       fun h => opR_writesReg h rfl,
       fun h => opR_writesReg h (shlW_eq_ofNat a rfl),
       fun h => opR_writesReg h (shrW_eq_ofNat a rfl),
       fun h => opR_writesReg h (sarW_eq_ofInt a rfl),
       fun h => opR_writesReg h (minW_eq_ite a b),
       fun h => opR_writesReg h (maxW_eq_ite a b),
       fun h => opR_writesReg h (minuW_eq_ite a b),
       fun h => opR_writesReg h (maxuW_eq_ite a b)⟩
  case iAndLFormat =>
    intro a i d ok
    have hi : sext 40 (fld w 39 0) = i := sext_eq_ofInt_toInt (by decide) _
    have hn := shamt_sext_imm40 w
    exact
      ⟨fun h => opI_writesReg h (congrArg (a + ·) hi),
       fun h => opI_writesReg h (congrArg (a &&& ·) hi),
       fun h => opI_writesReg h (congrArg (a ||| ·) hi),
       fun h => opI_writesReg h (congrArg (a ^^^ ·) hi),
       fun h => opI_writesReg h (shlW_eq_ofNat a hn),
       fun h => opI_writesReg h (shrW_eq_ofNat a hn),
       fun h => opI_writesReg h (sarW_eq_ofInt a hn),
       fun h => (sext_eq_ofInt_toInt (n := 46) (by decide) (fld w 45 0)) ▸ effLi_writesReg h,
       effLui_writesReg⟩

end Sys2Proof.Machine

end

/-! SUPPORT. Allocations (R278 to R280): which status a create answers with, the handle it takes, what its granules then read, what
a release leaves, and O33 assembled from them. -/

section

namespace Sys2Proof.Machine

/-! ALLOC_RESULT. -/

/-- ALLOC_RESULT reads STATUS and HANDLE; every other word reads as before. -/
theorem word_setAllocResult (st h b : Nat) (s : State) :
    (setAllocResult st h s).word b = if b = 0x0008020C then BitVec.ofNat 32 (st * 2 ^ 28 + h) else s.word b :=
  word_setWord _ _ _ _

/-- A status without a handle. -/
theorem word_setAllocResult_zero (st b : Nat) (s : State) :
    (setAllocResult st 0 s).word b = if b = 0x0008020C then BitVec.ofNat 32 (st * 2 ^ 28) else s.word b := by
  rw [word_setAllocResult, Nat.add_zero]

/-- A word's store, with the pins driven, changes the registers and the pins alone. -/
theorem settle_setWord_frame (a : Nat) (v : Word32) (s : State) :
    { settle (setWord a v s) with csr := s.csr, pins := s.pins } = s := rfl

/-- A create's success, ALLOC_RESULT's word whatever it is: memory and the free values change beside them. -/
theorem settle_setWord_addAlloc_frame (a : Nat) (v : Word32) (x : Alloc) (s : State) :
    { settle (setWord a v (skipFree 1 { s with mem := s.mem.addAlloc x })) with csr := s.csr, pins := s.pins, mem := s.mem, free := s.free } = s :=
  rfl

/-! The status of a create (R278, Table MEM-13). -/

/-- The granules of the kinds that can be created, by the kind's code. -/
theorem kindGranule_toNat (kind : BitVec 4) :
    kindGranule kind.toNat = if kind = 1 ∨ kind = 2 ∨ kind = 7 then 4096 else if kind = 3 ∨ kind = 4 ∨ kind = 5 then 65536 else 0 := by
  revert kind
  decide

/-- A range overlaps a live allocation unless it ends before or starts after each. -/
theorem overlapsAlloc_iff (s : State) (a n : Nat) :
    overlapsAlloc s a n = true ↔ ¬ ∀ x ∈ s.mem.allocs, x.base + x.size ≤ a ∨ a + n ≤ x.base := by
  simp [overlapsAlloc]

/-- Among handles 1 to 65,535, fewer live allocations leave one free. -/
theorem exists_handle_of_length_lt {m : Mem} (h : m.allocs.length < 65535) : ∃ k, 1 ≤ k ∧ k ≤ 65535 ∧ m.alloc? k = none := by
  refine Classical.byContradiction fun hnone => ?_
  have hall : List.range' 1 65535 ⊆ m.allocs.map Alloc.handle := fun k hk => by
    obtain ⟨h1, h2⟩ := List.mem_range'_1.1 hk
    have hlive : m.alloc? k ≠ none := fun hk0 => hnone ⟨k, h1, by omega, hk0⟩
    obtain ⟨x, hx⟩ := Option.ne_none_iff_exists'.1 hlive
    exact List.mem_map.2 ⟨x, List.mem_of_find?_eq_some hx, beq_iff_eq.1 (List.find?_some hx :)⟩
  have hlen := List.Nodup.length_le_of_subset (List.nodup_range' 1) hall
  rw [List.length_range', List.length_map] at hlen
  omega

/-- The handle taken is one of 1 to 65,535 and names no live allocation. -/
theorem freeHandle_spec {s : State} {h : Nat} (hf : freeHandle s = some h) : 1 ≤ h ∧ h ≤ 65535 ∧ s.mem.alloc? h = none := by
  unfold freeHandle at hf
  split at hf
  · cases hf
  · obtain ⟨i, hi, rfl⟩ := Option.map_eq_some_iff.1 hf
    have hnone := List.find?_some hi
    exact ⟨by omega, by omega, Option.isNone_iff_eq_none.1 hnone⟩

/-- No handle is free just when 65,535 allocations are live: the search from any start passes every handle. -/
theorem freeHandle_isNone_iff (s : State) : (freeHandle s).isNone = true ↔ 65535 ≤ s.mem.allocs.length := by
  unfold freeHandle
  split
  case isTrue hfull => simp [hfull]
  case isFalse hroom =>
    obtain ⟨k, h1, h2, hk⟩ := exists_handle_of_length_lt (Nat.lt_of_not_le hroom)
    obtain ⟨i, hi, hturn⟩ : ∃ i < 65535, (s.drawn % 65535 + i) % 65535 + 1 = k :=
      ⟨(k - 1 + 65535 - s.drawn % 65535) % 65535, Nat.mod_lt _ (by decide), by omega⟩
    refine iff_of_false ?_ hroom
    rw [Option.isNone_iff_eq_none, Option.map_eq_none_iff, List.find?_eq_none]
    intro hall
    refine hall i (List.mem_range.2 hi) ?_
    rw [hturn, hk]
    rfl

/-- The status of a create, in the order of its checks: shape, place, handle. -/
theorem createStatus_eq (s : State) (kind a n : Nat) :
    createStatus s kind a n =
      if kindGranule kind = 0 ∨ n = 0 ∨ a % kindGranule kind ≠ 0 ∨ n % kindGranule kind ≠ 0 then 3
      else if kindRange s kind a n = false ∨ ¬ ∀ x ∈ s.mem.allocs, x.base + x.size ≤ a ∨ a + n ≤ x.base then 1
      else if 65535 ≤ s.mem.allocs.length then 4 else 0 := by
  simp only [createStatus, ← overlapsAlloc_iff, ← freeHandle_isNone_iff, Bool.or_eq_true, decide_eq_true_eq, Bool.not_eq_true', or_assoc]

/-! What the granules of a new allocation read (R280). -/

/-- A number with no entry reads the default. -/
theorem look_eq_default {α : Type} {d : α} {k : Nat} : ∀ {m : List (Nat × α)}, (∀ e ∈ m, e.1 ≠ k) → look d m k = d
  | [], _ => rfl
  | e :: r, h => by
    rw [look, if_neg (Ne.symm (h e List.mem_cons_self)), look_eq_default fun x hx => h x (List.mem_cons_of_mem e hx)]

/-- Where a new allocation with fill marks holds a byte's granule, the byte reads 0. -/
theorem Mem.read_addAlloc_of_holds (m : Mem) {x : Alloc} {b : Nat} (hm : x.marked = true) (hb : x.holds (granule b) = true) :
    (m.addAlloc x).read b = 0 := by
  have hlim : (m.addAlloc x).limited (granule b) = true :=
    List.any_eq_true.2 ⟨x, List.mem_append_right _ (List.mem_singleton_self x), by rw [hm, hb]; rfl⟩
  have hfill : look 0 (m.addAlloc x).fills (granule b) = 0 := by
    refine look_eq_default fun e he hk => ?_
    rw [Mem.addAlloc, if_pos hm, List.mem_filter, hk, hb] at he
    exact absurd he.2 (by decide)
  rw [Mem.read_eq, hlim, hfill]
  exact if_pos ⟨rfl, Nat.zero_le _⟩

/-- BANK and TILE ranges lie above DRAM (Table MEM-1). -/
theorem hubBase_le_of_kindRange {s : State} {kind a n : Nat} (hk : kind = 1 ∨ kind = 2) (hr : kindRange s kind a n = true) : hubBase ≤ a := by
  obtain rfl | rfl := hk
  case inl => -- a BANK range starts in a bank
    refine Classical.byContradiction fun hlow => ?_
    have hbank : bankOf a = none := by
      have hstack : ¬ stackBase ≤ a := fun h => hlow (Nat.le_trans (by decide) h)
      rw [bankOf, if_neg (fun h => hlow h.1), if_neg (fun h => hstack h.1)]
    simp [kindRange, hbank] at hr
  case inr => -- a TILE range starts in the tile buffers
    simp only [kindRange, insideRange, Bool.and_eq_true, decide_eq_true_eq] at hr
    exact Nat.le_trans (by decide) hr.1

/-- A range of a kind with fill marks starts at a granule, so it holds the granule of each of its bytes. -/
theorem le_granule_of_kindRange {s : State} {kind a n b : Nat} (hk : kind = 1 ∨ kind = 2 ∨ kind = 3) (ha : a % kindGranule kind = 0)
    (hr : kindRange s kind a n = true) (hb : a ≤ b) : a ≤ granule b := by
  have hdvd : a % granuleSize b = 0 := by
    rw [← or_assoc] at hk
    obtain hk | rfl := hk
    case inl =>
      have hhub := hubBase_le_of_kindRange hk hr
      have hsize : kindGranule kind = 4096 := by obtain rfl | rfl := hk <;> rfl
      rw [granuleSize, if_neg (by omega), ← hsize, ha]
    case inr =>
      have h16 : a % 65536 = 0 := ha
      unfold granuleSize
      split <;> omega
  calc a = a / granuleSize b * granuleSize b := (Nat.div_mul_cancel (Nat.dvd_of_mod_eq_zero hdvd)).symm
    _ ≤ b / granuleSize b * granuleSize b := Nat.mul_le_mul_right _ (Nat.div_le_div_right hb)
    _ = granule b := (Nat.mul_comm _ _).trans Nat.mul_div_self_eq_mod_sub_self

/-! ALLOC_CREATE (R278). -/

section
variable {kind : BitVec 4} {program : BitVec 8} {s : State}

/-- A create that fails answers its status, and nothing else changes. -/
theorem exec_allocCreate_refused {st : Nat}
    (h : createStatus s kind.toNat ((s.word 0x00080200).toNat * 256) ((s.word 0x00080204).toNat * 4096) = st) (hst : st ≠ 0) :
    ∃ u, exec (.allocCreate kind program) s = .next u ∧ { u with csr := s.csr, pins := s.pins } = s
      ∧ ∀ b, u.word b = if b = 0x0008020C then BitVec.ofNat 32 (st * 2 ^ 28) else s.word b := by
  have heff : effAllocCreate kind program s = setAllocResult st 0 s := by
    rw [effAllocCreate, h, if_neg hst]
  refine ⟨_, congrArg done heff, settle_setWord_frame _ _ s, fun b => ?_⟩
  rw [settle_word, word_setAllocResult_zero]

/-- A create that succeeds makes the allocation, at a handle that was free. -/
theorem exec_allocCreate_made
    (h : createStatus s kind.toNat ((s.word 0x00080200).toNat * 256) ((s.word 0x00080204).toNat * 4096) = 0)
    (hroom : s.mem.allocs.length < 65535) :
    ∃ k, 1 ≤ k ∧ k ≤ 65535 ∧ s.mem.alloc? k = none
      ∧ exec (.allocCreate kind program) s = done (setAllocResult 0 k (skipFree 1 { s with
          mem := s.mem.addAlloc ⟨k, kind.toNat, program.toNat, (s.word 0x00080200).toNat * 256, (s.word 0x00080204).toNat * 4096⟩ })) := by
  obtain ⟨k, hk⟩ := Option.ne_none_iff_exists'.1 fun hnone : freeHandle s = none =>
    Nat.not_le.2 hroom ((freeHandle_isNone_iff s).1 (Option.isNone_iff_eq_none.2 hnone))
  obtain ⟨h1, h2, hfree⟩ := freeHandle_spec hk
  refine ⟨k, h1, h2, hfree, congrArg done ?_⟩
  rw [effAllocCreate, h, if_pos rfl, hk]
  rfl

end

/-! ALLOC_RELEASE (R279), with the segments that waited for it retired (R460). -/

@[simp] theorem retireSegment_threads (a : Nat) (s : State) : (retireSegment a s).threads = s.threads := by
  unfold retireSegment; split <;> simp [logHealth]
@[simp] theorem retireSegment_programs (a : Nat) (s : State) : (retireSegment a s).programs = s.programs := by
  unfold retireSegment; split <;> simp [logHealth]
@[simp] theorem retireSegment_csr (a : Nat) (s : State) : (retireSegment a s).csr = s.csr := by
  unfold retireSegment; split <;> simp [logHealth]
@[simp] theorem retireSegment_cells (a : Nat) (s : State) : (retireSegment a s).mem.cells = s.mem.cells := by
  unfold retireSegment; split <;> simp [logHealth]
@[simp] theorem retireSegment_allocs (a : Nat) (s : State) : (retireSegment a s).mem.allocs = s.mem.allocs := by
  unfold retireSegment; split <;> simp [logHealth]

/-- What a segment's retirement and the self-test's own state leave, the retirement of the segments that waited leaves. -/
theorem retireWaiting_keeps {α : Type} (f : State → α) (hseg : ∀ a s, f (retireSegment a s) = f s)
    (htest : ∀ (s : State) x, f { s with test := x } = f s) (s : State) : f (retireWaiting s) = f s := by
  unfold retireWaiting
  exact List.foldlRecOn (motive := fun u => f u = f s) _ _ (htest s _) fun u hu a _ => (hseg a u).trans hu

@[simp] theorem retireWaiting_threads (s : State) : (retireWaiting s).threads = s.threads :=
  retireWaiting_keeps State.threads retireSegment_threads (fun _ _ => rfl) s
@[simp] theorem retireWaiting_programs (s : State) : (retireWaiting s).programs = s.programs :=
  retireWaiting_keeps State.programs retireSegment_programs (fun _ _ => rfl) s
@[simp] theorem retireWaiting_csr (s : State) : (retireWaiting s).csr = s.csr :=
  retireWaiting_keeps State.csr retireSegment_csr (fun _ _ => rfl) s
@[simp] theorem retireWaiting_cells (s : State) : (retireWaiting s).mem.cells = s.mem.cells :=
  retireWaiting_keeps (·.mem.cells) retireSegment_cells (fun _ _ => rfl) s
@[simp] theorem retireWaiting_allocs (s : State) : (retireWaiting s).mem.allocs = s.mem.allocs :=
  retireWaiting_keeps (·.mem.allocs) retireSegment_allocs (fun _ _ => rfl) s

/-- MEM_ALLOC_BUSY is an event that the log takes. -/
theorem raise_allocBusy (s : State) :
    raise { code := 0x0507 } s = { s with ev := s.ev.record { code := 0x0507 } s.clk.half (s.field 0x000C0014 15 0) } :=
  if_neg (by decide)

section
variable {handle : BitVec 16} {s : State}

theorem exec_allocRelease_of_none (h : s.mem.alloc? handle.toNat = none) :
    exec (.allocRelease handle) s = done (setAllocResult 1 0 s) :=
  congrArg done (if_pos (Option.isNone_iff_eq_none.2 h))

theorem exec_allocRelease_of_named (h : (s.mem.alloc? handle.toNat).isSome = true) (hn : named s handle.toNat = true) :
    exec (.allocRelease handle) s = done (setAllocResult 2 0 (raise { code := 0x0507 } s)) :=
  congrArg done ((if_neg (by simp [← Option.not_isSome, h])).trans (if_pos hn))

theorem exec_allocRelease_of_unnamed (h : (s.mem.alloc? handle.toNat).isSome = true) (hn : named s handle.toNat = false) :
    exec (.allocRelease handle) s = done (setAllocResult 0 0 (retireWaiting
      { s with mem := { s.mem with allocs := s.mem.allocs.filter (fun x => x.handle != handle.toNat) } })) :=
  congrArg done ((if_neg (by simp [← Option.not_isSome, h])).trans (if_neg (by simp [hn])))

end

/-- Settles O33: a create by the order of its checks, shape, place and handle; a release by whether its handle names a live
allocation, and a descriptor names it. -/
theorem allocations : Obligations.Allocations := by
  refine ⟨fun kind program s => ?create, fun handle s => ?release⟩
  case create =>
    intro a n g free answers
    have hg : kindGranule kind.toNat = g := kindGranule_toNat kind
    have status := createStatus_eq s kind.toNat a n
    rw [hg] at status
    refine ⟨fun hshape => ?shape, fun g0 n0 ha hn hplace => ?place, fun g0 n0 ha hn hrange hfree hroom => ?made⟩
    case shape => exact exec_allocCreate_refused (status.trans (if_pos hshape)) (by decide)
    case place =>
      rw [if_neg (by simp [g0, n0, ha, hn]), if_pos hplace] at status
      exact exec_allocCreate_refused status (by decide)
    case made =>
      rw [if_neg (by simp [g0, n0, ha, hn]), if_neg (not_or.2 ⟨by rw [hrange]; decide, fun hover => hover hfree⟩), if_neg (Nat.not_le.2 hroom)] at status
      obtain ⟨h, h1, h2, hnone, hexec⟩ := exec_allocCreate_made (program := program) status hroom
      refine ⟨_, h, hexec, settle_setWord_addAlloc_frame _ _ _ s, h1, h2, hnone, rfl, fun b => ?_, fun hk b hab hbn => ?_⟩
      · rw [settle_word, word_setAllocResult, Nat.zero_mul, Nat.zero_add]
        rfl
      · have hk' : kind.toNat = 1 ∨ kind.toNat = 2 ∨ kind.toNat = 3 :=
          hk.imp (congrArg BitVec.toNat) (Or.imp (congrArg BitVec.toNat) (congrArg BitVec.toNat))
        have hstart : a ≤ granule b := le_granule_of_kindRange hk' (hg.symm ▸ ha) hrange hab
        refine Mem.read_addAlloc_of_holds s.mem ?_ ?_
        · simpa [Alloc.marked, or_assoc] using hk'
        · simpa [Alloc.holds] using ⟨hstart, Nat.lt_of_le_of_lt (granule_le b) hbn⟩
  case release =>
    intro h answer
    refine ⟨fun hnone => ?none, fun hlive hnamed => ?named, fun hlive hunnamed => ?unnamed⟩
    case none =>
      refine ⟨_, exec_allocRelease_of_none hnone, settle_setWord_frame _ _ s, fun b => ?_⟩
      exact (settle_word _ b).trans (word_setAllocResult_zero 1 b s)
    case named =>
      refine ⟨_, exec_allocRelease_of_named hlive hnamed, ?_, fun b => ?_, ?_⟩
      · rw [raise_allocBusy]; rfl
      · exact (settle_word _ b).trans ((word_setAllocResult_zero 2 b _).trans (by rw [raise_word]))
      · rw [raise_allocBusy]; rfl
    case unnamed =>
      refine ⟨_, exec_allocRelease_of_unnamed hlive hunnamed, ?_, ?_, ?_, ?_, fun b => ?_⟩
      · exact retireWaiting_threads _
      · exact retireWaiting_programs _
      · exact retireWaiting_cells _
      · exact retireWaiting_allocs _
      · refine (settle_word _ b).trans ((word_setAllocResult_zero 0 b _).trans ?_)
        rw [State.word, retireWaiting_csr]
        rfl

end Sys2Proof.Machine

end
